-- ==== Sys2Proof/Word.lean ====
section
/-! DEFINITION. Words of the Kezmar 620: the bytes its links carry and the texts its records hold (00_scope.md 5.2). -/

namespace Sys2Proof

/-- One byte of a link or of a text. -/
abbrev Byte := BitVec 8

/-- A text field: characters, one byte each (00_scope.md 5.2). -/
abbrev Text := List Byte

end Sys2Proof
end

