-- ==== Sys2Proof/Syntax.lean ====
section
/-! DEFINITION. The commands of the Kezmar 620, one constructor of `Instr` per row of spec/opcode_table.json, and the
named values that records carry. Enumerated choices are inductive types; numbers are natural or integer numbers, since
the owner of a record tests their range (R7, and each record's own rule). -/

namespace Sys2Proof

/-! ## Links and levels -/

/-- The two control links (Chapter 1). -/
inductive Link where
  | production | table
  deriving DecidableEq, Repr

/-- The level of an input pin. -/
inductive LineLevel where
  | low | high
  deriving DecidableEq, Repr

/-- One character of a serial line: its eight data bits, and whether its stop bit was there (R1). -/
structure LineChar where
  byte : Byte
  stopBit : Bool
  deriving DecidableEq, Repr

/-- What the link interface knows of a record it takes, beside its kind and its fields (R7): the link it arrived on,
its tag, and whether its body fits its kind (test 4 of R7). Where the layout of the body is not in the spec, `fits` is
what the frame brings with it (log 5). -/
structure Hdr where
  link : Link
  tag : Nat
  fits : Bool
  deriving DecidableEq, Repr

/-- A set of zone ids as a record carries it: a count and the ids (section 6.8). -/
structure ZoneSet where
  count : Nat
  ids : List Nat
  deriving DecidableEq, Repr

/-- A frame rate n/d frames per second (00_scope.md 5.4). -/
structure Rate where
  n : Nat
  d : Nat
  deriving DecidableEq, Repr

/-! ## Game timing -/

/-- The confirmed run state (Table 2-1). -/
inductive RunState where
  | stopped | running
  deriving DecidableEq, Repr

/-- The state of the run gate (Table 2-1). -/
inductive Gate where
  | steady | startPending | stopPending
  deriving DecidableEq, Repr

/-- The meaning of a level of the RUN line after polarity (section 2.2.3). -/
inductive GateLevel where
  | run | stop
  deriving DecidableEq, Repr

/-- Table 2-2, direction. -/
inductive Direction where
  | down | up
  deriving DecidableEq, Repr

/-- Table 2-2, gate source. -/
inductive GateSource where
  | line | link
  deriving DecidableEq, Repr

/-- Table 2-2, line polarity. -/
inductive Polarity where
  | runHigh | runLow
  deriving DecidableEq, Repr

/-- The clock rules, one complete set (Table 2-2). -/
structure ClockRules where
  direction : Direction
  /-- period length P, ms -/
  periodLength : Nat
  runOn : Bool
  /-- tenths threshold H, ms -/
  tenths : Nat
  /-- final-countdown threshold, ms -/
  countdownAt : Nat
  periodEndHold : Nat
  regulationPeriods : Nat
  maxPeriods : Nat
  source : GateSource
  polarity : Polarity
  /-- debounce D, ms -/
  debounce : Nat
  hornDuration : Nat
  /-- play primary, s -/
  playPrimary : Nat
  /-- play secondary, s -/
  playSecondary : Nat
  playHorn : Bool
  countdownAsset : Option Nat
  periodEndAsset : Option Nat
  deriving DecidableEq, Repr

/-- The choice a PLAY_RESET carries (R40). -/
inductive PlayChoice where
  | primary | secondary
  | value (seconds : Nat)
  deriving DecidableEq, Repr

/-- The two horn outputs (R44). -/
inductive Horn where
  | game | play
  deriving DecidableEq, Repr

/-! ## Game record -/

/-- The session state (R51). -/
inductive Session where
  | setup | inGame | final
  deriving DecidableEq, Repr

/-- The two teams. -/
inductive Team where
  | home | guest
  deriving DecidableEq, Repr

/-- The possession indicator (section 3.3). -/
inductive Possession where
  | none | home | guest
  deriving DecidableEq, Repr

/-- A team record (Table 3-1). -/
structure TeamRec where
  name : Text
  score : Nat
  timeouts : Nat
  fouls : Nat
  deriving DecidableEq, Repr

/-- The optional fields of a TEAM_SET (R56). -/
structure TeamFields where
  name : Option Text
  timeouts : Option Nat
  fouls : Option Nat
  possession : Option Possession
  deriving DecidableEq, Repr

/-- The definition of one extra field (R57). -/
structure FieldDef where
  label : Text
  maximum : Nat
  perPeriod : Bool
  deriving DecidableEq, Repr

/-- One extra field: its definition and its value (Table 3-2). -/
structure Field where
  defn : FieldDef
  value : Nat
  deriving DecidableEq, Repr

/-- What sort of change a score log entry records (Table 3-3): an ADD with its revised flag, or a REVISE with the seq of
the entry it revises. -/
inductive LogKind where
  | add (revised : Bool)
  | revise (revises : Nat)
  deriving DecidableEq, Repr

/-- A score log entry (Table 3-3). -/
structure LogEntry where
  seq : Nat
  kind : LogKind
  team : Team
  delta : Int
  score : Nat
  period : Nat
  v : Nat
  deriving DecidableEq, Repr

/-- The record configuration (R62). -/
structure RecordConfig where
  homeAsset : Option Nat
  guestAsset : Option Nat
  duration : Nat
  sponsor : Option Nat
  deriving DecidableEq, Repr

/-! ## Twin -/

/-- The role configuration of a TWIN_CONFIG (R70). -/
inductive TwinRole where
  | off | autoPreferMaster | autoPreferFollower | manualMaster | manualFollower
  deriving DecidableEq, Repr

/-- The twin states (Table 4-1). -/
inductive TwinState where
  | solo | resolving | master | follower | orphan | fault
  deriving DecidableEq, Repr

/-- The last role (R72). -/
inductive LastRole where
  | none | master | follower
  deriving DecidableEq, Repr

/-- The fields of a HELLO (Table 4-2). -/
structure Hello where
  role : TwinRole
  token : Nat
  lastRole : LastRole
  session : Session
  state : TwinState
  deriving DecidableEq, Repr

/-- The cause a CLOCK record carries (R77). -/
inductive ClockCause where
  | run | expiry | gate | set | adjust | reset | play | breakStart | breakCancel | breakEnd | periodic
  deriving DecidableEq, Repr

/-- The clock fields that CLOCK and STATE both carry (Table 4-2). -/
structure ClockFields where
  v : Nat
  run : RunState
  gate : Gate
  atLimit : Bool
  regulation : Bool
  play : Nat
  playEnabled : Bool
  brkRunning : Bool
  brkValue : Nat
  brkLength : Nat
  brkHorn : Bool
  deriving DecidableEq, Repr

/-- The game record as a STATE carries it (Table 4-2). -/
structure RecordFields where
  session : Session
  period : Nat
  home : TeamRec
  guest : TeamRec
  possession : Possession
  fields : List Field
  log : List LogEntry
  nextSeq : Nat
  config : RecordConfig
  deriving DecidableEq, Repr

/-- A STATE record (Table 4-2). -/
structure StateRecord where
  rules : ClockRules
  clock : ClockFields
  game : RecordFields
  eventNo : Nat
  deriving DecidableEq, Repr

/-- A CLOCK record (Table 4-2). -/
structure ClockRecord where
  cause : ClockCause
  clock : ClockFields
  deriving DecidableEq, Repr

/-- The change an EVENT carries, as the master accepted it (R67, R80). -/
inductive Change where
  | gameOpen
  | gameFinal
  | nextPeriod
  | scoreAdd (team : Team) (points : Nat)
  | scoreRevise (seq : Nat)
  | teamSet (team : Team) (fields : TeamFields)
  | fieldDefine (defs : List FieldDef)
  | fieldSet (index value : Nat)
  | recordConfig (config : RecordConfig)
  deriving DecidableEq, Repr

/-- An EVENT record (Table 4-2). -/
structure EventRecord where
  number : Nat
  change : Change
  logSeq : Nat
  deriving DecidableEq, Repr

/-- Why a twin frame is discarded (R69). -/
inductive TwinDiscard where
  | badCheck | oversizedLen | unknownKind | unfittingBody
  deriving DecidableEq, Repr

/-! ## Canvas, zones and assets -/

/-- Zone roles (Table 5-4). -/
inductive ZoneRole where
  | main | clock | score | sponsor | ribbon | general
  deriving DecidableEq, Repr

/-- Base sources (Table 5-4, R91). -/
inductive Base where
  | camera (input : Nat)
  | clock | play | brk | score
  | rotation (program : Nat)
  | crawl | slate
  | asset (id : Nat)
  deriving DecidableEq, Repr

/-- Zone attributes (Table 5-4). -/
structure ZoneAttrs where
  countdown : Bool
  scoreEvent : Bool
  replayTarget : Bool
  featureTarget : Bool
  deriving DecidableEq, Repr

/-- The play policies (section 6.5). -/
inductive Policy where
  | free | hold | cut
  deriving DecidableEq, Repr

/-- The play policy of a zone: one policy per level 1..7 (Table 6-2). -/
structure Policies where
  l1 : Policy
  l2 : Policy
  l3 : Policy
  l4 : Policy
  l5 : Policy
  l6 : Policy
  l7 : Policy
  deriving DecidableEq, Repr

/-- A zone as a LAYOUT carries it (Table 5-4). -/
structure ZoneSpec where
  id : Nat
  left : Nat
  top : Nat
  width : Nat
  height : Nat
  role : ZoneRole
  base : Base
  weight : Nat
  attrs : ZoneAttrs
  policy : Policies
  deriving DecidableEq, Repr

/-- Asset kinds (R96). -/
inductive AssetKind where
  | still | run | loop
  deriving DecidableEq, Repr

/-- One camera input's part of an INPUT_CONFIG (R93). -/
structure InputSetting where
  enable : Bool
  rate : Rate
  deriving DecidableEq, Repr

/-! ## Capture and replay -/

/-- The threshold choice of a MARGIN_SET (R137). -/
inductive Threshold where
  | preset30 | preset120 | preset600 | preset1800
  | programmed (value : Nat)
  deriving DecidableEq, Repr

/-- The two playout channels. -/
inductive Channel where
  | a | b
  deriving DecidableEq, Repr

/-- The fields of a cue entry that a CUE_ADD carries (Table 8-2, R148). -/
structure CueFields where
  clip : Nat
  speed : Int
  loops : Nat
  offset : Nat
  zone : Nat
  tag : Option Nat
  deriving DecidableEq, Repr

/-! ## Rotation, exposure and crawl -/

/-- Program modes (Table 9-1). -/
inductive RotMode where
  | fixed | rotate
  deriving DecidableEq, Repr

/-- Cover policies (Table 9-1). -/
inductive Cover where
  | hold | run
  deriving DecidableEq, Repr

/-- A rotation entry (Table 9-2). -/
structure RotEntry where
  id : Nat
  sponsor : Option Nat
  asset : Nat
  dwell : Nat
  suspended : Bool
  deriving DecidableEq, Repr

/-- The enables of the six counter kinds, in the order of Table 10-1 (R183). -/
structure CounterMask where
  delivered : Bool
  visibleFrames : Bool
  appearances : Bool
  shortAppearances : Bool
  featureFrames : Bool
  taggedFrames : Bool
  deriving DecidableEq, Repr

/-- Message classes (Table 11-2). -/
inductive MsgClass where
  | ordinary | featured
  deriving DecidableEq, Repr

/-- The crawl configuration (Table 11-1). `idle` is none for SLATE and a program for ROTATION p; `widths` are the 95 glyph
widths for 0x20..0x7E. -/
structure CrawlConfig where
  speed : Nat
  gap : Nat
  widths : List Nat
  idle : Option Nat
  sponsor : Option Nat
  zones : ZoneSet
  duration : Nat
  backlog : Nat
  deriving DecidableEq, Repr

/-- The choice of a MSG_LIST (R200). -/
inductive ListForm where
  | short | text
  deriving DecidableEq, Repr

/-! ## The commands -/

/-- The commands, one per row of spec/opcode_table.json. A command with a `Hdr` is the taking of that record by its link
(R7). A command whose summary is an expiry, an end or a confirmation carries out an event that an earlier step made due
(log 2). -/
inductive Instr where
  -- Chapter 1
  | powerOn (strapProduction strapTable : Nat) (runLine : LineLevel)
  | frameReceived (link : Link) (chars : List LineChar)
  | receiverSilenceExpiry (link : Link)
  | replyPlaceFreed (link : Link)
  | frameTransmit (link : Link)
  | unknownKindRecord (link : Link) (tag kind : Nat)
  | linkInfo (h : Hdr)
  | subscribe (h : Hdr) (count : Nat) (codes : List Nat)
  | conditions (h : Hdr)
  | slotPost (h : Hdr) (text : Text)
  | slotTake (h : Hdr)
  | restart (h : Hdr)
  -- Chapter 2
  | timeBaseStep
  | trim (h : Hdr) (t : Int)
  | clockRules (h : Hdr) (rules : ClockRules)
  | runLineEdge (level : LineLevel)
  | startWindowConfirm
  | stopWindowConfirm
  | clockStart (h : Hdr)
  | clockStop (h : Hdr)
  | gameClockExpiry
  | clockSet (h : Hdr) (v : Nat)
  | clockAdjust (h : Hdr) (delta : Int)
  | playReset (h : Hdr) (choice : PlayChoice)
  | playEnable (h : Hdr) (on : Bool)
  | playExpiry
  | breakStart (h : Hdr) (seconds : Nat) (hornFlag : Bool)
  | breakCancel (h : Hdr)
  | breakExpiry
  | horn (h : Hdr) (which : Horn) (duration : Nat)
  | hornEnd (which : Horn)
  | clockRead (h : Hdr)
  -- Chapter 3
  | gameFinal (h : Hdr)
  | gameOpen (h : Hdr)
  | nextPeriod (h : Hdr)
  | scoreAdd (h : Hdr) (team : Team) (points : Nat)
  | scoreRevise (h : Hdr) (seq : Nat)
  | teamSet (h : Hdr) (team : Team) (fields : TeamFields)
  | fieldDefine (h : Hdr) (count : Nat) (defs : List FieldDef)
  | fieldSet (h : Hdr) (index value : Nat)
  | recordRead (h : Hdr)
  | logRead (h : Hdr) (start : Nat)
  | recordConfig (h : Hdr) (config : RecordConfig)
  -- Chapter 4
  | twinConfig (h : Hdr) (role : TwinRole) (token compensation : Nat)
  | twinStatus (h : Hdr)
  | twinHelloReceived (hello : Hello)
  | twinStateReceived (part parts : Nat) (record : StateRecord)
  | twinClockReceived (record : ClockRecord)
  | twinEventReceived (record : EventRecord)
  | twinHeartbeatReceived (applied : Nat) (resync : Bool)
  /-- With the characters that stand before the silence; the shortest incomplete frame, SYNC alone, where none are named. -/
  | twinReceiverSilenceExpiry (chars : List LineChar := [⟨0xC3#8, true⟩])
  | helloTimerExpiry
  | heartbeatTimerExpiry
  | clockTimerExpiry
  | lossTimerExpiry
  -- Chapter 5
  | outputFrameEvent
  | canvasConfig (h : Hdr) (rate : Rate) (width height : Nat)
  | layout (h : Hdr) (count : Nat) (zones : List ZoneSpec)
  | assetDefine (h : Hdr) (id : Nat) (kind : AssetKind) (frames size : Nat)
  | assetChunk (h : Hdr) (id offset count : Nat) (data : List Byte)
  | assetDrop (h : Hdr) (id : Nat)
  | inputConfig (h : Hdr) (i0 i1 i2 i3 : InputSetting)
  | cameraFrame (input : Nat) (valid : Bool)
  | inputSignalTimeout (input : Nat)
  | signalLossHoldEnd (input : Nat)
  -- Chapter 6
  | takeover (h : Hdr) (level : Nat) (zones : ZoneSet) (asset duration : Nat)
  | release (h : Hdr) (level : Nat) (zones : ZoneSet)
  | clearTop (h : Hdr) (zone : Nat)
  | mask (h : Hdr) (zone : Nat) (levels : List Nat)
  | yield (h : Hdr) (zone level : Nat) (on : Bool)
  | zonePolicy (h : Hdr) (zone : Nat) (policy : Policies)
  | zoneQuery (h : Hdr) (zone : Nat)
  | takeoverExpiry (zone : Nat)
  -- Chapter 7
  | ringPartition (h : Hdr) (r0 r1 r2 r3 : Nat)
  | captureRestart (h : Hdr) (input : Nat)
  | marginSet (h : Hdr) (input : Nat) (choice : Threshold)
  | ringStatus (h : Hdr) (input : Nat)
  -- Chapter 8
  | clipCreate (h : Hdr) (id input inSeq outSeq : Nat) (tag : Option Nat) (label : Option Text)
  | clipSave (h : Hdr) (id : Nat)
  | clipDelete (h : Hdr) (id : Nat)
  | clipRead (h : Hdr) (id : Nat)
  | saveCopyFrame
  | cueAdd (h : Hdr) (channel : Channel) (cue : CueFields)
  | cueRemove (h : Hdr) (channel : Channel) (number : Nat)
  | channelRoll (h : Hdr) (channel : Channel)
  | channelStop (h : Hdr) (channel : Channel)
  | channelSpeed (h : Hdr) (channel : Channel) (speed : Int)
  | channelChain (h : Hdr) (channel : Channel) (on : Bool)
  | channelStatus (h : Hdr) (channel : Channel)
  -- Chapter 9
  | sponsorDefine (h : Hdr) (id : Nat) (name : Text) (quota : Option Nat)
  | sponsorRemove (h : Hdr) (id : Nat)
  | rotationLoad (h : Hdr) (program count : Nat) (entries : List RotEntry)
  | rotationMode (h : Hdr) (program : Nat) (mode : RotMode) (cover : Cover)
  | rotationSuspend (h : Hdr) (program entry : Nat)
  | rotationResume (h : Hdr) (program entry : Nat)
  | rotationFront (h : Hdr) (program entry : Nat)
  | rotationStatus (h : Hdr) (program : Nat)
  | appearanceDwellEnd (program : Nat)
  | featureAdd (h : Hdr) (sponsor asset duration : Nat) (zones : ZoneSet)
  | breakFeature (h : Hdr) (config : Option (Nat × Nat))
  -- Chapter 10
  | quotaSet (h : Hdr) (id : Nat) (quota : Option Nat)
  | counterMask (h : Hdr) (mask : CounterMask) (share : Nat)
  | exposureRead (h : Hdr) (id : Nat)
  -- Chapter 11
  | crawlConfig (h : Hdr) (config : CrawlConfig)
  | msgSubmit (h : Hdr) (id : Nat) (text : Text) (repeats : Nat) (cls : MsgClass)
  | msgApprove (h : Hdr) (id : Nat)
  | msgReject (h : Hdr) (id : Nat)
  | msgWithdraw (h : Hdr) (id : Nat)
  | msgList (h : Hdr) (start : Nat) (form : ListForm)
  -- the two rows at the table's end
  | lenOversized (link : Link) (len : Nat)
  | twinFrameDiscarded (why : TwinDiscard)
  deriving DecidableEq, Repr

end Sys2Proof
end

