-- ==== Sys2Proof/Decode.lean ====
section
/-! DEFINITION. Words that spell commands. spec/opcode_table.json gives no row any bits: every row has an empty list of
fields, since the part takes records, line events and ticks, not encoded words. -/

namespace Sys2Proof

/-- The command a word spells by the table's bits: none, because no row of the table gives bits (log 1). -/
def decodeTableWord (_nbits _w : Nat) : Option Instr := none

end Sys2Proof
end

