-- ==== Sys2Proof/Machine/State.lean ====
section
/-! DEFINITION. The state of the Kezmar 620: every piece of state its chapters give it, as plain data, and the values it
has at power-on (`State.reset`). INVENTORY.md lists each field with the rule that names it. -/

namespace Sys2Proof.Machine

/-! ## How a step can stop -/

/-- The reasons the machine stops. There is none: a request that cannot be served is refused by the status of its reply
(Table 1-1) and the part goes on, and no rule of the spec describes an event that halts it. Nothing raises it; an empty
type is safe, since no claim can rest on a stop. -/
inductive Fault : Type where
  deriving DecidableEq, Repr

/-- The reasons the model gives a command no meaning. -/
inductive Refusal where
  /-- Raised by an arm of `exec` whose command has no meaning in the model. No arm raises it. Safe: the model would stop
  where the part goes on. -/
  | notModelled (mnemonic : String)
  deriving DecidableEq, Repr

/-! ## Events that have become due -/

/-- An event that an earlier step has made due and that is carried out before anything else happens (log 2). -/
inductive DueEvent where
  /-- a START_PENDING window has reached D (R26) -/
  | startConfirm
  /-- a STOP_PENDING window has reached D (R27) -/
  | stopConfirm
  /-- V has reached the limit by counting with the gate STEADY (R32) -/
  | gameExpiry
  /-- the play value has reached 0 by counting with the gate STEADY; was it blanked just before (R39) -/
  | playExpiry (blanked : Bool)
  /-- the break value has reached 0 (R42) -/
  | breakExpiry
  /-- a horn timer has reached 0 (R44) -/
  | hornEnd (which : Horn)
  /-- the HELLO timer has expired (R71) -/
  | helloTimer
  /-- the heartbeat timer has expired (R77) -/
  | heartbeatTimer
  /-- 250 ms have passed since the last CLOCK (R77) -/
  | clockTimer
  /-- the loss timer has expired (R75) -/
  | lossTimer
  /-- timed takeovers of the zone have no frame left (R113) -/
  | takeoverExpiry (zone : Nat)
  /-- the program's appearance has no dwell left (R170) -/
  | dwellEnd (program : Nat)
  /-- the input's signal-loss hold has run out (R95) -/
  | holdEnd (input : Nat)
  /-- a place of the reply list has come free while a reply waits for it (R6) -/
  | replyPlace (link : Link)
  deriving DecidableEq, Repr

/-! ## Enumerations of the state -/

/-- Status codes (Table 1-1). -/
inductive Status where
  | ok | malformed | unknownKind | notPermitted | notAuthority | locked | closed | range | notFound | duplicate | full
  | busy | noSpace | wrongSource
  deriving DecidableEq, Repr

/-- The countdown phases (section 2.7). -/
inductive Phase where
  | idle | countdown | periodEnd | spent
  deriving DecidableEq, Repr

/-- The cause in RUN_CHANGED (R31). -/
inductive RunCause where
  | line | link | expiry | mirror
  deriving DecidableEq, Repr

/-- The cause in CLOCK_EXPIRED (R32, R33). -/
inductive ExpiryCause where
  | limit | regulation | ceiling
  deriving DecidableEq, Repr

/-- The cause in SESSION_CHANGED (R51). -/
inductive SessionCause where
  | start | final | opened | period | mirror
  deriving DecidableEq, Repr

/-- The cause in TWIN_STATE (R82). -/
inductive TwinCause where
  | config | hello | resolved | stateAdopted | conflict | loss
  deriving DecidableEq, Repr

/-- The fault reason of the twin unit (R72, R82). -/
inductive FaultReason where
  | none | bothManual | equalTokens
  deriving DecidableEq, Repr

/-- The relay slots (section 1.7). -/
inductive Slot where
  | toTable | toProduction
  deriving DecidableEq, Repr

/-- The cause in INPUT_SIGNAL (R94). -/
inductive SignalCause where
  | detected | lost | disabled | rate
  deriving DecidableEq, Repr

/-- The loss state of a camera input (Table 5-5). -/
inductive LossState where
  | live | holding | slated
  deriving DecidableEq, Repr

/-- The state in ASSET_STATE (R99). -/
inductive AssetEvent where
  | ready | missing | dropped
  deriving DecidableEq, Repr

/-- The outcomes of an end (R114). -/
inductive Outcome where
  | expired | released | cleared | cut | zoneRemoved | restart
  deriving DecidableEq, Repr

/-- The stage of an end (R114). -/
inductive Stage where
  | pending | inService
  deriving DecidableEq, Repr

/-- The readers of ring frames (R135). -/
inductive ReaderName where
  | save | channelA | channelB
  deriving DecidableEq, Repr

/-- The cause in CLIP_STATE (R140). -/
inductive ClipCause where
  | overwritten | captureRestart | partition | complete | overtaken
  deriving DecidableEq, Repr

/-- The clip states a CLIP_STATE can report (R140). -/
inductive ClipEnd where
  | saved | lost
  deriving DecidableEq, Repr

/-- The outcomes of a cue entry (R158). -/
inductive CueOutcome where
  | complete | stopped | overrun | cut | cleared | zoneRemoved | restart | clipGone | zoneGone
  deriving DecidableEq, Repr

/-- The channel states (Table 8-3). -/
inductive ChanState where
  | idle | cued | requested | playing | covered
  deriving DecidableEq, Repr

/-- The three milestones of a quota (R184). -/
inductive Milestone where
  | m50 | m75 | m100
  deriving DecidableEq, Repr

/-- The cause in QUOTA_MILESTONE (R184). -/
inductive MilestoneCause where
  | credit | quota
  deriving DecidableEq, Repr

/-- The cause in MESSAGE_DONE (R199). -/
inductive DoneCause where
  | done | rejected | withdrawn
  deriving DecidableEq, Repr

/-- The state of a message (Table 11-2). -/
inductive MsgState where
  | held | queued | onAir
  deriving DecidableEq, Repr

/-! ## Conditions and their details -/

/-- The 20 condition kinds (Table 1-4). -/
inductive Cond where
  | runChanged | clockExpired | playExpired | breakExpired | scoreChanged | scoreCorrected | sessionChanged | twinState
  | slotPosted | slotTaken | inputSignal | nearOvertake | clipState | channelState | takeoverEnded | rotationEmpty
  | quotaMilestone | crawlBacklog | messageDone | assetState
  deriving DecidableEq, Repr

/-- The detail of an occurrence, by its named fields; `zero` is the detail of an entry that is not pending (R12). -/
inductive Detail where
  | zero
  | runChanged (run : RunState) (cause : RunCause) (v backdated : Nat)
  | clockExpired (cause : ExpiryCause) (period : Nat) (direction : Direction) (v : Nat)
  | playExpired (blanked : Bool) (v : Nat)
  | breakExpired (seconds : Nat) (hornFlag : Bool)
  | scoreChanged (seq : Nat) (team : Team) (delta : Int) (score period : Nat)
  | scoreCorrected (seq revised : Nat) (team : Team) (delta : Int) (score : Nat)
  | sessionChanged (before after : Session) (cause : SessionCause) (period : Nat)
  | twinState (before after : TwinState) (cause : TwinCause) (lastRole : LastRole) (reason : FaultReason)
  | slot (slot : Slot) (length : Nat)
  | inputSignal (input : Nat) (signal : Bool) (cause : SignalCause) (w : Nat)
  | nearOvertake (input : Nat) (reader : ReaderName) (clip : Nat) (margin : Int) (threshold : Nat)
  | clipState (clip input : Nat) (state : ClipEnd) (cause : ClipCause) (seq : Option Nat)
  | channelState (channel : Channel) (number clip : Nat) (outcome : CueOutcome) (position : Int) (passes shown : Nat)
      (next : ChanState)
  | takeoverEnded (zone level : Nat) (outcome : Outcome) (stage : Stage) (frames : Nat)
  | rotationEmpty (program length suspended missing fulfilled : Nat)
  | quotaMilestone (sponsor : Nat) (milestone : Milestone) (cause : MilestoneCause) (value delivered : Nat)
  | crawlBacklog (count held mark : Nat)
  | messageDone (id : Nat) (cause : DoneCause) (cls : MsgClass) (passes : Nat) (featuredDone : Bool)
  | assetState (id : Nat) (event : AssetEvent) (zone : Option Nat) (size : Nat)
  deriving DecidableEq, Repr

/-- One entry of a condition table (R12). -/
structure CondEntry where
  pending : Bool
  count : Nat
  first : Detail
  latest : Detail
  deriving DecidableEq, Repr

/-- A notice waiting to be sent (R13). -/
structure Notice where
  cond : Cond
  detail : Detail
  deriving DecidableEq, Repr

/-- One item of the reply to CONDITIONS (R15). -/
structure CondItem where
  code : Nat
  count : Nat
  first : Detail
  latest : Detail
  deriving DecidableEq, Repr

/-! ## Canvas and zones -/

/-- The content of a takeover (Table 6-1). -/
inductive Content where
  | asset (id : Nat)
  | channel (channel : Channel)
  | card (message : Nat)
  deriving DecidableEq, Repr

/-- A pending request (Table 6-2). `frames` is none for an open duration. -/
structure PendingReq where
  level : Nat
  content : Content
  frames : Option Nat
  credit : Option Nat
  arrival : Nat
  deriving DecidableEq, Repr

/-- A takeover in service (Table 6-2, R103). `remaining` is none for an open takeover; `pos` is the frame position of its
content instance (R92). -/
structure InService where
  level : Nat
  content : Content
  remaining : Option Nat
  grantFrame : Nat
  served : Nat
  credit : Option Nat
  pos : Nat
  deriving DecidableEq, Repr

/-- The arbitration state of one zone but for its play policy (Table 6-2); both maps in ascending level. -/
structure ZoneArb where
  pending : List PendingReq
  service : List InService
  mask : List Nat
  yielded : List Nat
  nextArrival : Nat
  deriving DecidableEq, Repr

/-- A zone of the layout in force: the fields of Table 5-4, its arbitration state, and the frame position of an ASSET base
(R92). -/
structure Zone where
  spec : ZoneSpec
  arb : ZoneArb
  basePos : Nat
  deriving DecidableEq, Repr

/-- Topmost content by level, or the base (Table 5-2). -/
inductive Top where
  | level (n : Nat)
  | base
  deriving DecidableEq, Repr

/-- What an entry of the visibility record names as content (Table 5-2). -/
inductive VisContent where
  | takeover (content : Content)
  | base (base : Base)
  deriving DecidableEq, Repr

/-- Slate reasons (Table 5-2). -/
inductive SlateReason where
  | none | slateBase | missingAsset | inputDisabled | signalLost | noEntry
  deriving DecidableEq, Repr

/-- What is drawn in a zone (R91, R92, section 2.5, R157). -/
inductive Picture where
  | slate
  | live (input frame : Nat)
  | heldFrame (input frame : Nat)
  | clockText (text : Text)
  | playText (text : Text)
  | breakText (text : Text)
  | score (home guest : TeamRec) (possession : Possession) (fields : List Field)
  | asset (id frame : Nat)
  | crawl (items : List (Text × Int))
  | clipFrame (input : Nat) (seq : Int)
  | card (text : Text)
  deriving DecidableEq, Repr

/-- An entry of the visibility record (Table 5-2). `rendered` is true for CONTENT; `program` is the rotation program that a
base shows (R91), `missing` the asset of a zone rendered MISSING_ASSET (R99). Table 5-2 lists no coordinates, so an entry
holds none: those of the record are the zone's in the layout in force (R87; DESIGN CHOICE, log 19). -/
structure VisEntry where
  zone : Nat
  top : Top
  content : VisContent
  rendered : Bool
  reason : SlateReason
  credit : Option Nat
  weight : Nat
  program : Option Nat
  missing : Option Nat
  deriving DecidableEq, Repr

/-- A zone of the composed frame. -/
structure FrameZone where
  zone : Nat
  picture : Picture
  deriving DecidableEq, Repr

/-- A camera input (Table 5-5). `latest` is the most recent captured frame (R91), frames being named by their place in the
input's count of captured frames. -/
structure Input where
  enabled : Bool
  rate : Rate
  signal : Bool
  validRun : Nat
  loss : LossState
  holdFrames : Nat
  held : Option Nat
  latest : Option Nat
  captured : Nat
  deriving DecidableEq, Repr

/-- A defined asset (section 5.7); `data` are the bytes loaded, so its length is the next expected offset. -/
structure Asset where
  id : Nat
  kind : AssetKind
  frames : Nat
  size : Nat
  data : List Byte
  ready : Bool
  deriving DecidableEq, Repr

/-- A canvas configuration (Table 5-1). -/
structure CanvasSize where
  rate : Rate
  width : Nat
  height : Nat
  deriving DecidableEq, Repr

/-- The canvas compositor and the zones' arbitration state (Chapters 5 and 6). -/
structure Canvas where
  size : CanvasSize
  frame : Nat
  awaitingConfig : Option CanvasSize
  awaitingLayout : Option (List ZoneSpec)
  zones : List Zone
  visibility : List VisEntry
  frameOut : List FrameZone
  /-- what the frame shows where no zone covers the canvas (R86) -/
  surround : Picture
  inputs : List Input
  assets : List Asset
  missingReported : List Nat
  deriving DecidableEq, Repr

/-! ## Capture and replay -/

/-- The ring of one input (Table 7-1). -/
structure Ring where
  size : Nat
  w : Nat
  floor : Nat
  rate : Option Rate
  threshold : Threshold
  deriving DecidableEq, Repr

/-- An attached reader (R135, R136); `cue` is the number of the cue entry it reads for (0 for the save copy). -/
structure Reader where
  input : Nat
  seq : Int
  clip : Nat
  cue : Nat
  armed : Bool
  deriving DecidableEq, Repr

/-- The capture unit (Chapter 7). -/
structure Capture where
  rings : List Ring
  readSave : Option Reader
  readA : Option Reader
  readB : Option Reader
  deriving DecidableEq, Repr

/-- The state of a clip with what each state holds (Table 8-1). -/
inductive ClipState where
  | ring
  | saving (start copied : Nat)
  | saved (start : Nat)
  | lost
  deriving DecidableEq, Repr

/-- A clip of the clip table (Table 8-1). -/
structure Clip where
  id : Nat
  input : Nat
  inSeq : Nat
  outSeq : Nat
  rate : Rate
  state : ClipState
  tag : Option Nat
  label : Option Text
  deriving DecidableEq, Repr

/-- A cue entry (Table 8-2). -/
structure Cue where
  number : Nat
  fields : CueFields
  deriving DecidableEq, Repr

/-- A playout channel (section 8.4); the cadence state is that of the head entry. -/
structure Chan where
  state : ChanState
  cues : List Cue
  chain : Bool
  nextCue : Nat
  pos : Int
  acc : Nat
  passes : Nat
  shown : Nat
  deriving DecidableEq, Repr

/-- The replay unit (Chapter 8). -/
structure Replay where
  clips : List Clip
  saveQueue : List Nat
  chanA : Chan
  chanB : Chan
  deriving DecidableEq, Repr

/-! ## Rotation, exposure and crawl -/

/-- A defined sponsor (section 9.1). -/
structure Sponsor where
  id : Nat
  name : Text
  deriving DecidableEq, Repr

/-- An on-air appearance (Table 9-1); `entry` is none for a slate appearance, `pos` the position of its content instance
(R92). -/
structure Appearance where
  entry : Option RotEntry
  remaining : Nat
  elapsed : Nat
  visible : Nat
  pos : Nat
  deriving DecidableEq, Repr

/-- A rotation program (Table 9-1). -/
structure Program where
  mode : RotMode
  cover : Cover
  entries : List RotEntry
  pointer : Nat
  onAir : Option Appearance
  shown : Option Appearance
  slates : Nat
  deriving DecidableEq, Repr

/-- A feature (Table 9-3); `outstanding` is the outstanding zone set once it is the head. -/
structure Feature where
  number : Nat
  sponsor : Nat
  asset : Nat
  duration : Nat
  zones : List Nat
  brk : Bool
  outstanding : List Nat
  deriving DecidableEq, Repr

/-- The rotation unit (Chapter 9). -/
structure Rotation where
  sponsors : List Sponsor
  programs : List Program
  features : List Feature
  featuresDropped : Nat
  nextFeature : Nat
  breakConfig : Option (Nat × Nat)
  breakRecorded : Option Nat
  deriving DecidableEq, Repr

/-- The exposure state of one sponsor id (Table 10-1). -/
structure Exposed where
  delivered : Nat
  visibleFrames : Nat
  appearances : Nat
  shortAppearances : Nat
  featureFrames : Nat
  taggedFrames : Nat
  quota : Option Nat
  p50 : Bool
  p75 : Bool
  p100 : Bool
  fulfilled : Bool
  deriving DecidableEq, Repr

/-- The exposure unit (Chapter 10). -/
structure Exposure where
  ids : List Exposed
  mask : CounterMask
  tagShare : Nat
  deriving DecidableEq, Repr

/-- A message of the queue (Table 11-2); head position and width are held by the strip. -/
structure Message where
  id : Nat
  text : Text
  repeats : Nat
  cls : MsgClass
  state : MsgState
  featuredDone : Bool
  passes : Nat
  deriving DecidableEq, Repr

/-- A message on the strip: its head position and its width (section 11.3). -/
structure StripItem where
  id : Nat
  x : Int
  width : Nat
  deriving DecidableEq, Repr

/-- The standing card: its message and its outstanding zone set (section 11.4). -/
structure Card where
  message : Nat
  zones : List Nat
  deriving DecidableEq, Repr

/-- The crawl unit (Chapter 11). -/
structure Crawl where
  config : CrawlConfig
  messages : List Message
  order : List Nat
  strip : List StripItem
  featureOrder : List Nat
  card : Option Card
  cardsDropped : Nat
  deriving DecidableEq, Repr

/-! ## Game timing, game record and twin -/

/-- The game timing unit (Chapter 2). -/
structure Timing where
  rules : ClockRules
  trim : Int
  trimAcc : Nat
  v : Nat
  run : RunState
  gate : Gate
  settled : GateLevel
  window : Nat
  counted : Nat
  playCounted : Nat
  expiryPending : Bool
  atLimit : Bool
  regulation : Bool
  phase : Phase
  outstanding : List Nat
  play : Nat
  playEnabled : Bool
  playPending : Bool
  /-- the play clock was blanked just before the step of a stop window that brought it to 0 (R39) -/
  playZeroBlanked : Bool
  brkRunning : Bool
  brkValue : Nat
  brkLength : Nat
  brkHorn : Bool
  gameHorn : Option Nat
  playHorn : Option Nat
  runLine : LineLevel
  deriving DecidableEq, Repr

/-- The game record unit (Chapter 3): the fields a STATE mirrors, and the zones with an outstanding level-2 request. -/
structure GameRecord where
  game : RecordFields
  outstanding : List Nat
  deriving DecidableEq, Repr

/-- The receiver of a control link (section 1.2) or of the twin link (R69), and the bytes it holds: in HEADER the bytes of LEN, TAG and KIND so far, in BODY
the fields taken and the bytes of BODY and CHECK so far. -/
inductive Rx where
  | hunt
  | header (got : List Byte)
  | body (len tag kind : Nat) (got : List Byte)
  deriving DecidableEq, Repr

/-- A record handed to the twin transmitter (Table 4-2). -/
inductive TwinRecord where
  | hello (hello : Hello)
  | state (record : StateRecord)
  | clock (record : ClockRecord)
  | event (record : EventRecord)
  | heartbeat (applied : Nat) (resync : Bool)
  deriving DecidableEq, Repr

/-- The twin unit (Chapter 4). A timer is none when stopped, else the ms remaining. -/
structure Twin where
  role : TwinRole
  token : Nat
  compensation : Nat
  lastRole : LastRole
  state : TwinState
  reason : FaultReason
  /-- a follower decision awaits its STATE (R73) -/
  decidedFollower : Bool
  /-- RESOLVING was entered from FOLLOWER or ORPHAN (R71) -/
  fromFollower : Bool
  peer : Option Hello
  helloTimer : Option Nat
  heartbeatTimer : Option Nat
  clockTimer : Option Nat
  lossTimer : Option Nat
  eventNo : Nat
  resync : Bool
  framingErrors : Nat
  parts : Option (Nat × Nat)
  rx : Rx
  out : List TwinRecord
  /-- frames of the record at the head of `out` that are already sent (R69) -/
  outSent : Nat
  /-- the last twin frame sent: its record, and which frame of it from 1 on -/
  lastSent : Option (TwinRecord × Nat)
  deriving DecidableEq, Repr

/-! ## Results of requests -/

/-- The values of a CLOCK_READ reply (Table 2-4). -/
structure ClockReading where
  v : Nat
  direction : Direction
  run : RunState
  gate : Gate
  window : Nat
  atLimit : Bool
  expiryPending : Bool
  playPending : Bool
  regulation : Bool
  period : Nat
  play : Nat
  playEnabled : Bool
  playRunning : Bool
  playBlanked : Bool
  brk : Nat
  brkRunning : Bool
  session : Session
  clockText : Text
  playText : Text
  breakText : Text
  deriving DecidableEq, Repr

/-- The result of one zone in a TAKEOVER reply (R116). -/
inductive TakeoverResult where
  | granted | masked | held | covered | replaced | notFound
  deriving DecidableEq, Repr

/-- The result of one zone in a RELEASE reply (R117). -/
inductive ReleaseResult where
  | ended (stage : Stage)
  | notFound
  deriving DecidableEq, Repr

/-- The owner of a level (Table 6-1). -/
inductive Owner where
  | production | timing | record | channelA | channelB | rotation | crawl
  deriving DecidableEq, Repr

/-- A pending request as ZONE_QUERY shows it (R122). -/
structure PendingReading where
  request : PendingReq
  owner : Owner
  masked : Bool
  held : Bool
  covered : Bool
  deriving DecidableEq, Repr

/-- An in-service takeover as ZONE_QUERY shows it (R122). -/
structure ServiceReading where
  takeover : InService
  yielded : Bool
  deriving DecidableEq, Repr

/-- The values of a ZONE_QUERY reply (R122). -/
structure ZoneReading where
  id : Nat
  role : ZoneRole
  run : RunState
  pending : List PendingReading
  service : List ServiceReading
  mask : List Nat
  yielded : List Nat
  heldLevels : List Nat
  policy : Policies
  top : Top
  wouldGrant : Option Nat
  deriving DecidableEq, Repr

/-- An attached reader as RING_STATUS shows it (R138). -/
structure ReaderReading where
  name : ReaderName
  seq : Int
  margin : Int
  armed : Bool
  deriving DecidableEq, Repr

/-- The values of a RING_STATUS reply (R138). -/
structure RingReading where
  input : Nat
  enabled : Bool
  signal : Bool
  rate : Rate
  ringRate : Option Rate
  size : Nat
  w : Nat
  floor : Nat
  oldest : Nat
  held : Nat
  storeSize : Nat
  threshold : Nat
  choice : Threshold
  readers : List ReaderReading
  deriving DecidableEq, Repr

/-- The values of a CLIP_READ reply (R142). -/
structure ClipReading where
  clip : Clip
  place : Option Nat
  cueEntries : Nat
  freeSlots : Nat
  longestRun : Nat
  deriving DecidableEq, Repr

/-- The result of a roll (R151). -/
inductive RollResult where
  | granted (number : Nat)
  | pending (number : Nat)
  | empty
  deriving DecidableEq, Repr

/-- The head entry as CHANNEL_STATUS shows it (R162). -/
structure HeadReading where
  pos : Int
  acc : Nat
  num : Nat
  den : Nat
  passes : Nat
  shown : Nat
  inStore : Bool
  margin : Option Int
  deriving DecidableEq, Repr

/-- A rotation entry as ROTATION_STATUS shows it (R178). -/
structure EntryReading where
  entry : RotEntry
  ready : Bool
  fulfilled : Bool
  deriving DecidableEq, Repr

/-- The values of a ROTATION_STATUS reply (R178). -/
structure RotationReading where
  program : Nat
  active : Bool
  carrying : List Nat
  mode : RotMode
  cover : Cover
  pointer : Nat
  entries : List EntryReading
  onAir : Option Appearance
  slates : Nat
  dropped : Nat
  features : List Feature
  breakConfig : Option (Nat × Nat)
  breakRecorded : Option Nat
  deriving DecidableEq, Repr

/-- The values of an EXPOSURE_READ reply (Table 10-2). -/
structure ExposureReading where
  sponsor : Nat
  defined : Bool
  exposed : Exposed
  mask : CounterMask
  tagShare : Nat
  deriving DecidableEq, Repr

/-- One entry of a MSG_LIST reply (R200). -/
structure MsgReading where
  id : Nat
  cls : MsgClass
  state : MsgState
  repeats : Nat
  passes : Nat
  featuredDone : Bool
  crawlPlace : Option Nat
  featurePlace : Option Nat
  x : Option Int
  width : Nat
  text : Option Text
  deriving DecidableEq, Repr

/-- The values of a TWIN_STATUS reply (R83). -/
structure TwinReading where
  state : TwinState
  role : TwinRole
  token : Nat
  compensation : Nat
  lastRole : LastRole
  reason : FaultReason
  decidedFollower : Bool
  peer : Option Hello
  sinceLast : Option Nat
  eventNo : Option Nat
  resync : Bool
  framingErrors : Nat
  deriving DecidableEq, Repr

/-- The result a reply with status OK carries (R8), by the named fields of the request's entry. -/
inductive Result where
  | none
  /-- one number: the value its request's rule names -/
  | count (n : Nat)
  /-- two numbers: the values its request's rule names, in its order -/
  | pair (a b : Nat)
  | linkInfo (identity : Text) (major minor : Nat) (link : Link) (rate errors : Nat) (twin : TwinState)
      (session : Session)
  | conditions (items : List CondItem)
  | slotText (text : Text)
  | trim (t : Int)
  | clockRead (reading : ClockReading)
  | teamSet (team : TeamRec) (possession : Possession)
  | score (seq : Nat) (delta : Int) (score : Nat)
  | recordRead (session : Session) (period : Nat) (home guest : TeamRec) (possession : Possession) (fields : List Field)
      (config : RecordConfig) (nextSeq logCount : Nat)
  | logRead (logCount headSeq nextSeq : Nat) (entries : List LogEntry)
  | twinStatus (reading : TwinReading)
  | takeover (frames : Nat) (zones : List (Nat × TakeoverResult))
  | release (zones : List (Nat × ReleaseResult))
  | topmost (top : Top)
  | zoneQuery (reading : ZoneReading)
  | ringStatus (reading : RingReading)
  | clipRead (reading : ClipReading)
  | roll (dropped : Nat) (result : RollResult)
  | channelStatus (state : ChanState) (chain : Bool) (head : Option HeadReading) (cues : List Cue)
  | rotationStatus (reading : RotationReading)
  | quota (quota : Nat) (p50 p75 p100 fulfilled : Bool)
  | exposureRead (reading : ExposureReading)
  | msgList (count held onStrip crawlOrder featureOrder cardsDropped : Nat) (entries : List MsgReading)
  deriving DecidableEq, Repr

/-- A reply (R8). -/
structure Reply where
  tag : Nat
  kind : Nat
  status : Status
  result : Result
  deriving DecidableEq, Repr

/-- A frame the transmitter sends (R9). -/
inductive Outgoing where
  | reply (reply : Reply)
  | notice (notice : Notice)
  deriving DecidableEq, Repr

/-! ## Control links -/

/-- A record of an inbound queue (section 1.3). -/
structure Inbound where
  tag : Nat
  kind : Nat
  body : List Byte
  deriving DecidableEq, Repr

/-- The state of one control link (Chapter 1). -/
structure LinkState where
  lineRate : Nat
  rx : Rx
  inbound : List Inbound
  waiting : Option Reply
  replies : List Reply
  notices : List Notice
  table : List CondEntry
  subs : List Nat
  framingErrors : Nat
  lastSent : Option Outgoing
  deriving DecidableEq, Repr

/-! ## The state -/

/-- The state of the part. -/
structure State where
  /-- the waiting commands, first in, first out (log 1) -/
  pending : List Instr
  /-- the events that are due, in the order in which they are carried out (log 2) -/
  due : List DueEvent
  production : LinkState
  table : LinkState
  slotToTable : Option Text
  slotToProduction : Option Text
  timing : Timing
  record : GameRecord
  twin : Twin
  canvas : Canvas
  capture : Capture
  replay : Replay
  rotation : Rotation
  exposure : Exposure
  crawl : Crawl
  deriving DecidableEq, Repr

/-! ## Power-on values -/

/-- The defaults of Table 2-2. -/
def defaultRules : ClockRules where
  direction := .down
  periodLength := 720000
  runOn := false
  tenths := 60000
  countdownAt := 0
  periodEndHold := 3000
  regulationPeriods := 4
  maxPeriods := 9
  source := .line
  polarity := .runHigh
  debounce := 5
  hornDuration := 1500
  playPrimary := 24
  playSecondary := 14
  playHorn := true
  countdownAsset := none
  periodEndAsset := none

/-- A condition entry that is not pending (R12, R15). -/
def CondEntry.clear : CondEntry := ⟨false, 0, .zero, .zero⟩

/-- A control link at power-on (R19). -/
def LinkState.reset (strap : Nat) : LinkState where
  lineRate := strap
  rx := .hunt
  inbound := []
  waiting := none
  replies := []
  notices := []
  table := List.replicate 20 .clear
  subs := []
  framingErrors := 0
  lastSent := none

/-- The timing unit at power-on (R50); the settled level is sampled from the RUN line, with polarity RUN-high. -/
def Timing.reset (runLine : LineLevel) : Timing where
  rules := defaultRules
  trim := 0
  trimAcc := 0
  v := 720000
  run := .stopped
  gate := .steady
  settled := match runLine with
    | .high => .run
    | .low => .stop
  window := 0
  counted := 0
  playCounted := 0
  expiryPending := false
  atLimit := false
  regulation := false
  phase := .idle
  outstanding := []
  play := 24000
  playEnabled := true
  playPending := false
  playZeroBlanked := false
  brkRunning := false
  brkValue := 0
  brkLength := 0
  brkHorn := false
  gameHorn := none
  playHorn := none
  runLine := runLine

/-- A cleared team record (Table 3-1). -/
def emptyTeam : TeamRec := ⟨[], 0, 0, 0⟩

/-- The game record unit at power-on (R68). -/
def GameRecord.reset : GameRecord where
  game :=
    { session := .setup, period := 1, home := emptyTeam, guest := emptyTeam, possession := .none, fields := [], log := [],
      nextSeq := 1, config := ⟨none, none, 4000, none⟩ }
  outstanding := []

/-- The twin unit at power-on (R84). -/
def Twin.reset : Twin where
  role := .off
  token := 0
  compensation := 0
  lastRole := .none
  state := .solo
  reason := .none
  decidedFollower := false
  fromFollower := false
  peer := none
  helloTimer := none
  heartbeatTimer := none
  clockTimer := none
  lossTimer := none
  eventNo := 0
  resync := false
  framingErrors := 0
  parts := none
  rx := .hunt
  out := []
  outSent := 0
  lastSent := none

/-- A camera input at power-on (R100). -/
def Input.reset : Input where
  enabled := false
  rate := ⟨60, 1⟩
  signal := false
  validRun := 0
  loss := .slated
  holdFrames := 0
  held := none
  latest := none
  captured := 0

/-- The canvas at power-on (R100). -/
def Canvas.reset : Canvas where
  size := ⟨⟨60, 1⟩, 1920, 1080⟩
  frame := 0
  awaitingConfig := none
  awaitingLayout := none
  zones := []
  visibility := []
  frameOut := []
  surround := .slate
  inputs := List.replicate 4 .reset
  assets := []
  missingReported := []

/-- A ring at power-on (R139). -/
def Ring.reset : Ring := ⟨0, 0, 0, none, .preset120⟩

/-- The capture unit at power-on (R139). -/
def Capture.reset : Capture := ⟨List.replicate 4 .reset, none, none, none⟩

/-- A channel at power-on (R163). -/
def Chan.reset : Chan where
  state := .idle
  cues := []
  chain := false
  nextCue := 1
  pos := 0
  acc := 0
  passes := 0
  shown := 0

/-- The replay unit at power-on (R163). -/
def Replay.reset : Replay := ⟨[], [], .reset, .reset⟩

/-- A rotation program at power-on (R179). -/
def Program.reset : Program where
  mode := .fixed
  cover := .hold
  entries := []
  pointer := 0
  onAir := none
  shown := none
  slates := 0

/-- The rotation unit at power-on (R179). -/
def Rotation.reset : Rotation where
  sponsors := []
  programs := List.replicate 4 .reset
  features := []
  featuresDropped := 0
  nextFeature := 1
  breakConfig := none
  breakRecorded := none

/-- The exposure state of an id at power-on (R189). -/
def Exposed.reset : Exposed where
  delivered := 0
  visibleFrames := 0
  appearances := 0
  shortAppearances := 0
  featureFrames := 0
  taggedFrames := 0
  quota := none
  p50 := false
  p75 := false
  p100 := false
  fulfilled := false

/-- The exposure unit at power-on (R189). -/
def Exposure.reset : Exposure where
  ids := List.replicate 64 .reset
  mask := ⟨true, true, true, true, true, true⟩
  tagShare := 25

/-- The crawl unit at power-on (R201, Table 11-1). -/
def Crawl.reset : Crawl where
  config :=
    { speed := 4, gap := 64, widths := List.replicate 95 24, idle := none, sponsor := none, zones := ⟨0, []⟩,
      duration := 8000, backlog := 56 }
  messages := []
  order := []
  strip := []
  featureOrder := []
  card := none
  cardsDropped := 0

/-- The part right after power-on (R19, R50, R68, R84, R100, R125, R139, R163, R179, R189, R201), with the straps at the
given rates and the RUN line at the given level, and the given commands waiting. -/
def State.atPowerOn (strapProduction strapTable : Nat) (runLine : LineLevel) (pending : List Instr) : State where
  pending := pending
  due := []
  production := .reset strapProduction
  table := .reset strapTable
  slotToTable := none
  slotToProduction := none
  timing := .reset runLine
  record := .reset
  twin := .reset
  canvas := .reset
  capture := .reset
  replay := .reset
  rotation := .reset
  exposure := .reset
  crawl := .reset

/-- The machine right after reset. DESIGN CHOICE (log 3): the straps give 12,000,000 and 115,200 baud and the RUN line is
low; the spec leaves both to the board. -/
def State.reset : State := State.atPowerOn 12000000 115200 .low []

end Sys2Proof.Machine
end

