-- ==== Sys2Proof/Config.lean ====
section
/-! DEFINITION. What the spec leaves to the part: the byte layout of record bodies that no rule gives (00_scope.md 3). Each
is a free value: a constant with no body, so that no proof can rest on what it is (log 5). -/

namespace Sys2Proof.Config

/-- The bytes that follow the status byte of an OK reply whose layout the spec does not give. -/
opaque resultBytes : Machine.Result → List Byte

/-- The 16 bytes of a condition detail: its named fields have no stated widths (section 1.6). -/
opaque detailBytes : Machine.Detail → List Byte

/-- The bytes of a twin record's fields (Table 4-2), which have no stated widths (R69). -/
opaque twinBody : Machine.TwinRecord → List Byte

end Sys2Proof.Config
end

