-- ==== Sys2Proof/Machine/Ops.lean ====
section
/-! DEFINITION. Named operations over the state: one updater per unit, the frame format and its check, replies, receiving
and conditions (Chapter 1), and the sending of twin records (R77, R80). -/

namespace Sys2Proof.Machine

/-! ## Updaters -/

def State.mapTiming (f : Timing → Timing) (s : State) : State := { s with timing := f s.timing }
def State.mapRecord (f : GameRecord → GameRecord) (s : State) : State := { s with record := f s.record }
def State.mapGame (f : RecordFields → RecordFields) (s : State) : State :=
  { s with record := { s.record with game := f s.record.game } }
def State.mapTwin (f : Twin → Twin) (s : State) : State := { s with twin := f s.twin }
def State.mapCanvas (f : Canvas → Canvas) (s : State) : State := { s with canvas := f s.canvas }
def State.mapCapture (f : Capture → Capture) (s : State) : State := { s with capture := f s.capture }
def State.mapReplay (f : Replay → Replay) (s : State) : State := { s with replay := f s.replay }
def State.mapRotation (f : Rotation → Rotation) (s : State) : State := { s with rotation := f s.rotation }
def State.mapExposure (f : Exposure → Exposure) (s : State) : State := { s with exposure := f s.exposure }
def State.mapCrawl (f : Crawl → Crawl) (s : State) : State := { s with crawl := f s.crawl }

/-- The state of one control link. -/
def State.link (s : State) : Link → LinkState
  | .production => s.production
  | .table => s.table

def State.mapLink (l : Link) (f : LinkState → LinkState) (s : State) : State :=
  match l with
  | .production => { s with production := f s.production }
  | .table => { s with table := f s.table }

/-- Makes an event due, after those already due (log 2). -/
def State.addDue (e : DueEvent) (s : State) : State := { s with due := s.due ++ [e] }

/-- `addDue` where a condition holds. -/
def State.addDueIf (c : Bool) (e : DueEvent) (s : State) : State := if c then s.addDue e else s

/-- An increment that saturates (R4, R69). -/
def satInc (top n : Nat) : Nat := min top (n + 1)

/-- The number after `n` in a numbering 1..65,535 in which 65,535 is followed by 1 (R59, R102, R148, 9.5). -/
def nextNumber (n : Nat) : Nat := if n ≥ 65535 then 1 else n + 1

/-! ## Codes -/

/-- Table 1-1. -/
def Status.code : Status → Nat
  | .ok => 0
  | .malformed => 1
  | .unknownKind => 2
  | .notPermitted => 3
  | .notAuthority => 4
  | .locked => 5
  | .closed => 6
  | .range => 7
  | .notFound => 8
  | .duplicate => 9
  | .full => 10
  | .busy => 11
  | .noSpace => 12
  | .wrongSource => 13

/-- Table 1-4. -/
def Cond.code : Cond → Nat
  | .runChanged => 0
  | .clockExpired => 1
  | .playExpired => 2
  | .breakExpired => 3
  | .scoreChanged => 4
  | .scoreCorrected => 5
  | .sessionChanged => 6
  | .twinState => 7
  | .slotPosted => 8
  | .slotTaken => 9
  | .inputSignal => 10
  | .nearOvertake => 11
  | .clipState => 12
  | .channelState => 13
  | .takeoverEnded => 14
  | .rotationEmpty => 15
  | .quotaMilestone => 16
  | .crawlBacklog => 17
  | .messageDone => 18
  | .assetState => 19

/-- The links a kind is permitted on (Table 1-3). -/
inductive Permit where
  | production | table | either
  deriving DecidableEq, Repr

/-- Kinds with one permission, each paired with it. -/
def kindsWith (p : Permit) (kinds : List Nat) : List (Nat × Permit) := kinds.map fun k => (k, p)

/-- Table 1-3: every request kind with the links it is permitted on. -/
def kindTable : List (Nat × Permit) :=
  kindsWith .either [0x01, 0x02, 0x03, 0x04, 0x05, 0x1B, 0x28, 0x29, 0x31] ++
    kindsWith .table [0x10, 0x11, 0x12, 0x13, 0x14, 0x15, 0x16, 0x17, 0x18, 0x19, 0x20, 0x21, 0x22, 0x23, 0x24, 0x25,
      0x26, 0x27, 0x2A] ++
    kindsWith .production [0x06, 0x1A, 0x30, 0x38, 0x39, 0x3A, 0x3B, 0x3C, 0x3D, 0x40, 0x41, 0x42, 0x43, 0x44, 0x45,
      0x46, 0x48, 0x49, 0x4A, 0x4B, 0x50, 0x51, 0x52, 0x53, 0x54, 0x55, 0x56, 0x57, 0x58, 0x59, 0x5A, 0x60, 0x61, 0x62,
      0x63, 0x64, 0x65, 0x66, 0x67, 0x68, 0x6A, 0x6B, 0x6C, 0x70, 0x71, 0x72, 0x73, 0x74, 0x75]

/-- The entry of Table 1-3 for a kind. -/
def kindPermit (kind : Nat) : Option Permit := (kindTable.find? (fun e => e.1 == kind)).map (·.2)

/-- Is a kind permitted on a link (R10)? -/
def permitted : Permit → Link → Bool
  | .either, _ => true
  | .production, .production => true
  | .table, .table => true
  | _, _ => false

/-- The changing table-link kinds (R11). -/
def changingKinds : List Nat :=
  [0x10, 0x11, 0x12, 0x13, 0x14, 0x15, 0x16, 0x17, 0x18, 0x20, 0x21, 0x22, 0x23, 0x24, 0x25, 0x26, 0x27, 0x2A]

/-- The body length that a kind's rule states, where one is stated: 0 for a kind with an empty body, 1 for EXPOSURE_READ
(R188). LINK_INFO, CLOCK_START, CLOCK_STOP, BREAK_CANCEL, CLOCK_READ, GAME_OPEN, GAME_FINAL, NEXT_PERIOD, RECORD_READ,
TWIN_STATUS and RESTART are stated empty; CONDITIONS and SLOT_TAKE carry no field (DEDUCED, log 5). -/
def statedBodyLength (kind : Nat) : Option Nat :=
  if [0x01, 0x03, 0x05, 0x06, 0x13, 0x14, 0x18, 0x1B, 0x20, 0x21, 0x22, 0x28, 0x31].contains kind then some 0
  else if kind == 0x6C then some 1
  else none

/-- The reply kind of a request kind (R8). -/
def replyKind (kind : Nat) : Nat := if 1 ≤ kind ∧ kind ≤ 0x7F then kind + 0x80 else 0xFF

/-! ## The frame and its check -/

/-- One bit of the CRC of R2: polynomial 0x1021, most significant bit first, nothing reflected. -/
def crcBit (c : BitVec 16) : BitVec 16 := if c.getLsbD 15 then (c <<< 1) ^^^ 0x1021#16 else c <<< 1

/-- One byte of the CRC of R2. -/
def crcByte (c : BitVec 16) (b : Byte) : BitVec 16 :=
  let c := c ^^^ (b.setWidth 16 <<< 8)
  crcBit (crcBit (crcBit (crcBit (crcBit (crcBit (crcBit (crcBit c)))))))

/-- CRC-16 of a run of bytes with initial value 0xFFFF and no final inversion (R2). -/
def crc16 (bytes : List Byte) : BitVec 16 := bytes.foldl crcByte 0xFFFF#16

/-- A number in `width` bytes, most significant byte first (00_scope.md 5.2). -/
def bytesBE : Nat → Nat → List Byte
  | 0, _ => []
  | w + 1, n => BitVec.ofNat 8 (n / 256 ^ w) :: bytesBE w n

/-- The number that bytes hold, most significant byte first (00_scope.md 5.2). -/
def natBE (bytes : List Byte) : Nat := bytes.foldl (fun a b => a * 256 + b.toNat) 0

/-- The SYNC byte (section 1.1). -/
def sync : Byte := 0xC3#8

/-- The bytes that CHECK covers: LEN, TAG, KIND and BODY (R2). -/
def checkedBytes (tag kind : Nat) (body : List Byte) : List Byte :=
  bytesBE 2 body.length ++ bytesBE 1 tag ++ bytesBE 1 kind ++ body

/-- A whole frame (section 1.1). -/
def frameBytes (tag kind : Nat) (body : List Byte) : List Byte :=
  sync :: checkedBytes tag kind body ++ bytesBE 2 (crc16 (checkedBytes tag kind body)).toNat

/-! ## Receiving (section 1.2) -/

/-- What the receiver makes of a byte (R3): nothing yet, an oversized LEN, or a whole frame with its LEN, TAG, KIND and the
bytes of BODY and CHECK. -/
inductive RxEvent where
  | quiet | oversized
  | whole (len tag kind : Nat) (got : List Byte)
  deriving DecidableEq, Repr

/-- A receiver takes one byte (R3); the twin receiver assembles frames in the same way (R69). -/
def Rx.take (b : Byte) : Rx → Rx × RxEvent
  | .hunt => (if b = sync then .header [] else .hunt, .quiet)
  | .header got =>
    let got := got ++ [b]
    if got.length = 2 ∧ natBE got > 1024 then (.hunt, .oversized)
    else if got.length ≥ 4 then
      (.body (natBE (got.take 2)) (natBE ((got.drop 2).take 1)) (natBE (got.drop 3)) [], .quiet)
    else (.header got, .quiet)
  | .body len tag kind got =>
    let got := got ++ [b]
    if got.length ≥ len + 2 then (.hunt, .whole len tag kind got) else (.body len tag kind got, .quiet)

/-- The CRC of a whole frame is right (R2); `got` holds BODY and the two CHECK bytes. -/
def checkOk (len tag kind : Nat) (got : List Byte) : Bool :=
  natBE (got.drop len) == (crc16 (checkedBytes tag kind (got.take len))).toNat

/-- Characters without their stop bit are discarded before frame assembly (R1). -/
def keptBytes (chars : List LineChar) : List Byte := (chars.filter (·.stopBit)).map (·.byte)

/-- A bad frame: the count goes up by 1, saturating at 65,535 (R4). -/
def LinkState.badFrame (l : LinkState) : LinkState := { l with framingErrors := satInc 65535 l.framingErrors }

/-- An immediate reply of R5 is placed at once, or counted as a framing error when the reply list holds 16 (R6). -/
def LinkState.immediate (r : Reply) (l : LinkState) : LinkState :=
  if l.replies.length < 16 then { l with replies := l.replies ++ [r] } else l.badFrame

/-- Arrival of a good frame (R5). -/
def LinkState.arrive (tag kind : Nat) (body : List Byte) (l : LinkState) : LinkState :=
  if tag = 0 then l.immediate ⟨0, 0xFF, .malformed, .none⟩
  else if l.inbound.length ≥ 8 then l.immediate ⟨tag, replyKind kind, .full, .none⟩
  else { l with inbound := l.inbound ++ [⟨tag, kind, body⟩] }

/-- A frame is complete: its CRC decides whether it is good (R2, R3). -/
def LinkState.complete (len tag kind : Nat) (got : List Byte) (l : LinkState) : LinkState :=
  if checkOk len tag kind got then l.arrive tag kind (got.take len) else l.badFrame

/-- The receiver takes one byte (R3, R4). -/
def LinkState.receiveByte (l : LinkState) (b : Byte) : LinkState :=
  let r := l.rx.take b
  let l := { l with rx := r.1 }
  match r.2 with
  | .quiet => l
  | .oversized => l.badFrame
  | .whole len tag kind got => l.complete len tag kind got

/-- The receiver takes the characters in their order. -/
def LinkState.receive (chars : List LineChar) (l : LinkState) : LinkState :=
  (keptBytes chars).foldl LinkState.receiveByte l

/-- The silence timer expires (R3): in HEADER or BODY the incomplete frame is a bad frame. It does not run in HUNT. -/
def LinkState.silence (l : LinkState) : LinkState :=
  match l.rx with
  | .hunt => l
  | _ => { l.badFrame with rx := .hunt }

/-! ## Replies (section 1.3) -/

/-- The reply to the head record is made (R6, R7): it is placed and the record leaves the queue, or it waits for a place
and the record stays. -/
def LinkState.answer (r : Reply) (l : LinkState) : LinkState :=
  if l.replies.length < 16 then { l with replies := l.replies ++ [r], inbound := l.inbound.tail }
  else { l with waiting := some r }

/-- A waiting reply is placed once a place is free (R6). -/
def LinkState.placeWaiting (l : LinkState) : LinkState :=
  match l.waiting with
  | some r => if l.replies.length < 16 then { l with waiting := none }.answer r else l
  | none => l

/-- The transmitter sends the head reply, or else the head notice (R9). -/
def LinkState.transmit (l : LinkState) : LinkState :=
  match l.replies, l.notices with
  | r :: rest, _ => { l with replies := rest, lastSent := some (.reply r) }
  | [], n :: rest => { l with notices := rest, lastSent := some (.notice n) }
  | [], [] => l

/-! ## Conditions (section 1.6) -/

/-- The entry of a kind after an occurrence (the table of R12). -/
def CondEntry.occur (d : Detail) (e : CondEntry) : CondEntry :=
  if e.pending then { e with count := min 255 (e.count + 1), latest := d } else ⟨true, 1, d, d⟩

/-- The entry of a condition table for a kind. -/
def LinkState.entry (l : LinkState) (c : Cond) : CondEntry := l.table.getD c.code .clear

/-- One link records an occurrence (R12) and, if it subscribes and the kind was not pending, queues a notice (R13). -/
def LinkState.occur (c : Cond) (d : Detail) (l : LinkState) : LinkState :=
  { l with
    table := l.table.set c.code ((l.entry c).occur d)
    notices := if !(l.entry c).pending && l.subs.contains c.code then l.notices ++ [⟨c, d⟩] else l.notices }

/-- A block raises a condition: both links record it (R12). -/
def State.raise (c : Cond) (d : Detail) (s : State) : State :=
  { s with production := s.production.occur c d, table := s.table.occur c d }

/-! ## Sending twin records (R69, R77, R80) -/

/-- A record is handed to the twin transmitter (R69). It is sent, for the rules, when it is handed over: its fields are those of
that moment, whatever changes while it waits for its frames (DESIGN CHOICE, log 8). -/
def State.sendTwin (r : TwinRecord) (s : State) : State := s.mapTwin fun t => { t with out := t.out ++ [r] }

/-- Sends a HELLO with the part's role configuration, token, last role, session state and twin state as they stand (R71). R71
says when it is sent and not which moment that is for a HELLO that waits for the transmitter: the model takes the hand-over,
and not the moment its frame leaves (DESIGN CHOICE, log 8). -/
def State.sendHello (s : State) : State :=
  s.sendTwin (.hello ⟨s.twin.role, s.twin.token, s.twin.lastRole, s.record.game.session, s.twin.state⟩)

/-- The clock fields of CLOCK and STATE as they stand (Table 4-2). -/
def State.clockFields (s : State) : ClockFields where
  v := s.timing.v
  run := s.timing.run
  gate := s.timing.gate
  atLimit := s.timing.atLimit
  regulation := s.timing.regulation
  play := s.timing.play
  playEnabled := s.timing.playEnabled
  brkRunning := s.timing.brkRunning
  brkValue := s.timing.brkValue
  brkLength := s.timing.brkLength
  brkHorn := s.timing.brkHorn

/-- Sends a STATE with the values as they stand at the hand-over (R73, R74, R77, R80; DESIGN CHOICE, log 8). -/
def State.sendState (s : State) : State :=
  s.sendTwin (.state ⟨s.timing.rules, s.clockFields, s.record.game, s.twin.eventNo⟩)

/-- A master sends a CLOCK with the values as they stand after its event, and times 250 ms from it (R77), which the model does
from the hand-over (DESIGN CHOICE, log 8); in every other state nothing is sent. -/
def State.sendClock (cause : ClockCause) (s : State) : State :=
  if s.twin.state = .master then
    (s.sendTwin (.clock ⟨cause, s.clockFields⟩)).mapTwin fun t => { t with clockTimer := some 250 }
  else s

/-- A master sends an EVENT with the next event number (R77, R80); in every other state nothing is sent. -/
def State.sendEvent (change : Change) (logSeq : Nat) (s : State) : State :=
  if s.twin.state = .master then
    (s.mapTwin fun t => { t with eventNo := (t.eventNo + 1) % 65536 }).sendTwin
      (.event ⟨(s.twin.eventNo + 1) % 65536, change, logSeq⟩)
  else s

/-- A master sends a fresh STATE for an accepted CLOCK_RULES (R77). -/
def State.sendStateIfMaster (s : State) : State := if s.twin.state = .master then s.sendState else s

/-- A follower's HEARTBEAT, with the number and the flag as they stand at the hand-over (R77, R80; DESIGN CHOICE, log 8). -/
def State.sendHeartbeat (s : State) : State := s.sendTwin (.heartbeat s.twin.eventNo s.twin.resync)

end Sys2Proof.Machine
end

