-- ==== Sys2Proof/Machine/Operands.lean ====
section
/-! DEFINITION. The tests on the operands of records (each record's own rule), the frame conversion (R88), and the small
text forms of section 2.5. -/

namespace Sys2Proof.Machine

/-! ## Texts -/

/-- Every character lies in 0x20..0x7E (00_scope.md 5.2). -/
def charsOk (t : Text) : Bool := t.all fun c => 0x20 ≤ c.toNat && c.toNat ≤ 0x7E

/-- A text of `lo..hi` characters of 0x20..0x7E. -/
def textOk (lo hi : Nat) (t : Text) : Bool := lo ≤ t.length && t.length ≤ hi && charsOk t

/-- An ASCII digit. -/
def digit (n : Nat) : Byte := BitVec.ofNat 8 (0x30 + n % 10)

/-- A number below 100 without leading zero. -/
def shortNumber (n : Nat) : Text := if n < 10 then [digit n] else [digit (n / 10), digit n]

/-- Whole seconds as "m:ss" (section 2.5). -/
def minutesText (s : Nat) : Text := shortNumber (s / 60) ++ [0x3A#8, digit (s % 60 / 10), digit (s % 60)]

/-- Tenths as "s.t" or "ss.t" (R37). -/
def tenthsText (r : Nat) : Text := shortNumber (r / 10) ++ [0x2E#8, digit r]

/-- A text right-aligned in a field of `w` characters, space-filled (Table 2-4). -/
def rightAlign (w : Nat) (t : Text) : Text := List.replicate (w - t.length) 0x20#8 ++ t

/-- Ceiling of a division. -/
def ceilQuot (a b : Nat) : Nat := (a + (b - 1)) / b

/-! ## Rates and frames -/

/-- The canvas output rates (00_scope.md 5.4). -/
def canvasRates : List Rate := [⟨50, 1⟩, ⟨60000, 1001⟩, ⟨60, 1⟩]

/-- The camera input rates (00_scope.md 5.4). -/
def cameraRates : List Rate :=
  [⟨50, 1⟩, ⟨60000, 1001⟩, ⟨60, 1⟩, ⟨100, 1⟩, ⟨120000, 1001⟩, ⟨120, 1⟩, ⟨200, 1⟩, ⟨240000, 1001⟩, ⟨240, 1⟩]

/-- The frame conversion rule: ceiling(m × out_n ÷ (1,000 × out_d)) (R88). -/
def framesOf (rate : Rate) (ms : Nat) : Nat := ceilQuot (ms * rate.n) (1000 * rate.d)

/-- R88 at the output rate in force. -/
def State.toFrames (s : State) (ms : Nat) : Nat := framesOf s.canvas.size.rate ms

/-! ## Ids and sets -/

def within (lo hi n : Nat) : Bool := lo ≤ n && n ≤ hi

/-- An optional id that is absent or at most `hi`. -/
def optAtMost (hi : Nat) : Option Nat → Bool
  | none => true
  | some n => n ≤ hi

/-- No value appears twice. -/
def noRepeats (l : List Nat) : Bool := decide l.Nodup

/-- The count of a zone set is the number of its ids and at most 8 (section 6.8, R7 test 4). -/
def zoneSetCounted (z : ZoneSet) : Bool := z.count == z.ids.length && z.count ≤ 8

/-- No id above 7 and none repeated (section 6.8). -/
def zoneSetIdsOk (z : ZoneSet) : Bool := z.ids.all (· ≤ 7) && noRepeats z.ids

/-- The numbers below 8 that a list holds, in ascending order. -/
def ascending8 (l : List Nat) : List Nat := (List.range 8).filter l.contains

/-- A playback speed: 0, 25..4,000 or -4,000..-25 permille (Table 8-2). -/
def speedOk (s : Int) : Bool := s == 0 || (25 ≤ s && s ≤ 4000) || (-4000 ≤ s && s ≤ -25)

/-- The threshold in frames (R137). -/
def thresholdFrames : Threshold → Nat
  | .preset30 => 30
  | .preset120 => 120
  | .preset600 => 600
  | .preset1800 => 1800
  | .programmed v => v

/-- The greatest value of a 48-bit counter (Table 10-1). -/
def max48 : Nat := 2 ^ 48 - 1

/-- The capacity of the asset store in bytes (section 5.7). -/
def assetCapacity : Nat := 268435456

/-- The number of frame slots (section 7.1). -/
def frameSlots : Nat := 131072

/-! ## Clock rules (Table 2-2, R24) -/

/-- Every rule lies in its range (Table 2-2) and the constraints of R24 hold; `period` is the current period. -/
def rulesOk (r : ClockRules) (period : Nat) : Bool :=
  within 1000 5940000 r.periodLength && r.periodLength % 1000 == 0 &&
  (!r.runOn || r.direction == .up) &&
  r.tenths ≤ 60000 && r.tenths % 1000 == 0 &&
  r.countdownAt ≤ 60000 && r.periodEndHold ≤ 30000 &&
  within 1 9 r.regulationPeriods && within r.regulationPeriods 19 r.maxPeriods && period ≤ r.maxPeriods &&
  r.debounce ≤ 50 && within 200 5000 r.hornDuration &&
  within 1 99 r.playPrimary && within 1 99 r.playSecondary &&
  optAtMost 1023 r.countdownAsset && optAtMost 1023 r.periodEndAsset

/-! ## Layout (R89) -/

/-- The base kinds' own numbers are in range (test 2 of R89). -/
def baseOk : Base → Bool
  | .camera n => n ≤ 3
  | .rotation p => p ≤ 3
  | .asset a => a ≤ 1023
  | _ => true

/-- The rectangle is not empty and lies inside the canvas (test 3 of R89). -/
def rectInside (w h : Nat) (z : ZoneSpec) : Bool :=
  1 ≤ z.width && 1 ≤ z.height && z.left + z.width ≤ w && z.top + z.height ≤ h

/-- The two rectangles share a pixel (test 4 of R89). -/
def overlaps (a b : ZoneSpec) : Bool :=
  a.left < b.left + b.width && b.left < a.left + a.width && a.top < b.top + b.height && b.top < a.top + a.height

/-- Some two rectangles of the list share a pixel. -/
def anyOverlap : List ZoneSpec → Bool
  | [] => false
  | z :: rest => rest.any (overlaps z) || anyOverlap rest

/-- The policies of a CLOCK zone (R89, R115). -/
def allCut : Policies := ⟨.cut, .cut, .cut, .cut, .cut, .cut, .cut⟩

/-- A zone as the layout takes it: weight clamped to 100, a CLOCK zone's policy CUT at every level (R89). -/
def normalZone (z : ZoneSpec) : ZoneSpec :=
  { z with weight := min z.weight 100, policy := if z.role = .clock then allCut else z.policy }

/-- A zone put into a list in ascending id. -/
def insertZone (z : ZoneSpec) : List ZoneSpec → List ZoneSpec
  | [] => [z]
  | y :: rest => if z.id ≤ y.id then z :: y :: rest else y :: insertZone z rest

/-- The zones of a LAYOUT in ascending id (section 5.4), each as R89 takes it. -/
def normalLayout (zones : List ZoneSpec) : List ZoneSpec := zones.foldr (fun z acc => insertZone (normalZone z) acc) []

end Sys2Proof.Machine
end

