-- ==== Sys2Proof/Machine/Flags.lean ====
section
/-! DEFINITION. What the spec computes from the state without changing it: the clock's limit and texts (Chapter 2), the
availability of assets and frames (Chapters 5, 7, 8), the grant tests of a zone (R108) and its topmost level (R87). -/

namespace Sys2Proof.Machine

/-! ## Game clock -/

/-- UP with run-on on. -/
def upRunOn (r : ClockRules) : Bool := r.direction == .up && r.runOn

/-- The limit of the game clock (R23). -/
def clockLimit (r : ClockRules) : Nat :=
  match r.direction with
  | .down => 0
  | .up => if r.runOn then 5999999 else r.periodLength

/-- The greatest value of V (R23). -/
def clockMax (r : ClockRules) : Nat := if upRunOn r then 5999999 else r.periodLength

/-- The value V is reset to: P in DOWN, 0 in UP (R24, R36). -/
def clockStartValue (r : ClockRules) : Nat :=
  match r.direction with
  | .down => r.periodLength
  | .up => 0

/-- V counted `n` ms toward the limit and stopped there (R23, R26). -/
def countToward (r : ClockRules) (v n : Nat) : Nat :=
  match r.direction with
  | .down => v - n
  | .up => if v ≥ clockLimit r then v else min (v + n) (clockLimit r)

/-- V with `n` ms restored, clamped to its range (R27). -/
def restore (r : ClockRules) (v n : Nat) : Nat :=
  match r.direction with
  | .down => min (v + n) (clockMax r)
  | .up => min (v - n) (clockMax r)

/-- The distance between two values of V. -/
def distance (a b : Nat) : Nat := (a - b) + (b - a)

/-- V is at the limit. -/
def Timing.isAtLimit (t : Timing) : Bool := t.v == clockLimit t.rules

/-- The level of the RUN line after polarity (section 2.2.3). -/
def gateLevelOf (p : Polarity) (l : LineLevel) : GateLevel :=
  match p, l with
  | .runHigh, .high => .run
  | .runHigh, .low => .stop
  | .runLow, .high => .stop
  | .runLow, .low => .run

/-- The present level of the RUN line. -/
def Timing.lineNow (t : Timing) : GateLevel := gateLevelOf t.rules.polarity t.runLine

/-- The RUN line is ignored (R29). -/
def State.lineIgnored (s : State) : Bool :=
  s.timing.rules.source == .link || s.record.game.session == .final || s.twin.state == .follower

/-- The play clock runs (R38). -/
def Timing.playRuns (t : Timing) : Bool := t.run == .running && t.playEnabled && 0 < t.play

/-- The play clock is blanked: in DOWN, its value is greater than V (R41). -/
def Timing.blanked (t : Timing) : Bool := t.rules.direction == .down && t.v < t.play

/-- The game clock text (R37). -/
def Timing.clockText (t : Timing) : Text :=
  match t.rules.direction with
  | .down =>
    if 0 < t.rules.tenths ∧ ceilQuot t.v 100 * 100 < t.rules.tenths then tenthsText (ceilQuot t.v 100)
    else minutesText (ceilQuot t.v 1000)
  | .up => minutesText (t.v / 1000)

/-- The play text (R41): two spaces when blank. -/
def Timing.playText (t : Timing) : Text :=
  if !t.playEnabled || t.blanked then [0x20#8, 0x20#8] else shortNumber (ceilQuot t.play 1000)

/-- The break text (R42): nothing while IDLE. -/
def Timing.breakText (t : Timing) : Text := if t.brkRunning then minutesText (ceilQuot t.brkValue 1000) else []

/-- The conditions of R45 for a countdown request, but for the phase. -/
def State.countdownDue (s : State) : Bool :=
  s.timing.rules.direction == .down && s.timing.rules.regulationPeriods ≤ s.record.game.period &&
  0 < s.timing.rules.countdownAt && s.timing.rules.countdownAsset.isSome && s.timing.run == .running &&
  s.timing.v ≤ s.timing.rules.countdownAt

/-! ## Zones and arbitration -/

/-- The policy of a level 1..7; level 0 has none (Table 6-1). -/
def policyAt (p : Policies) (level : Nat) : Policy :=
  match level with
  | 1 => p.l1
  | 2 => p.l2
  | 3 => p.l3
  | 4 => p.l4
  | 5 => p.l5
  | 6 => p.l6
  | 7 => p.l7
  | _ => .free

/-- The owner of a level (Table 6-1). -/
def ownerOf (level : Nat) : Owner :=
  match level with
  | 1 => .timing
  | 2 => .record
  | 3 => .channelA
  | 4 => .channelB
  | 5 => .rotation
  | 6 => .crawl
  | _ => .production

def ZoneArb.pendingAt (a : ZoneArb) (level : Nat) : Option PendingReq := a.pending.find? (·.level == level)
def ZoneArb.serviceAt (a : ZoneArb) (level : Nat) : Option InService := a.service.find? (·.level == level)

/-- A pending request at the level is masked (R108). -/
def ZoneArb.maskedAt (a : ZoneArb) (level : Nat) : Bool := level != 0 && a.mask.contains level

/-- A pending request at the level is held (R108). -/
def heldAt (run : RunState) (p : Policies) (level : Nat) : Bool :=
  level != 0 && run == .running && policyAt p level != .free

/-- A pending request at the level is covered (R108). -/
def ZoneArb.coveredAt (a : ZoneArb) (level : Nat) : Bool :=
  a.service.any fun t => t.level ≤ level && !a.yielded.contains t.level

/-- A pending request at the level is grantable (R108). -/
def Zone.grantable (run : RunState) (z : Zone) (level : Nat) : Bool :=
  !z.arb.maskedAt level && !heldAt run z.spec.policy level && !z.arb.coveredAt level

/-- The highest level in service that is not yielded (R87), among the takeovers that satisfy `p`. -/
def ZoneArb.topOf (a : ZoneArb) (p : InService → Bool) : Option InService :=
  a.service.find? fun t => !a.yielded.contains t.level && p t

/-- The topmost level at this instant (R122). -/
def ZoneArb.topNow (a : ZoneArb) : Top :=
  match a.topOf fun _ => true with
  | some t => .level t.level
  | none => .base

def State.zone? (s : State) (id : Nat) : Option Zone := s.canvas.zones.find? (·.spec.id == id)

/-- The ids of the zones of the layout in force, in ascending id. -/
def State.zoneIds (s : State) : List Nat := s.canvas.zones.map (·.spec.id)

/-- The zones of the layout in force that satisfy `p`, in ascending id. -/
def State.zonesWith (s : State) (p : Zone → Bool) : List Nat := (s.canvas.zones.filter p).map (·.spec.id)

/-- The countdown zones (section 2.7), the score-event zones (section 3.5) and the feature-target zones (R176). -/
def State.countdownZones (s : State) : List Nat := s.zonesWith (·.spec.attrs.countdown)
def State.scoreEventZones (s : State) : List Nat := s.zonesWith (·.spec.attrs.scoreEvent)
def State.featureTargetZones (s : State) : List Nat := s.zonesWith (·.spec.attrs.featureTarget)

/-- The zone is in the layout in force with the replay-target attribute (R148, R151). -/
def State.replayTarget (s : State) (zone : Nat) : Bool :=
  match s.zone? zone with
  | some z => z.spec.attrs.replayTarget
  | none => false

/-- The zone with the CRAWL base (at most one, R89). -/
def State.crawlZone? (s : State) : Option Zone := s.canvas.zones.find? (·.spec.base == .crawl)

/-! ## Assets and inputs -/

def State.asset? (s : State) (id : Nat) : Option Asset := s.canvas.assets.find? (·.id == id)

/-- The asset is READY. -/
def State.assetReady (s : State) (id : Nat) : Bool :=
  match s.asset? id with
  | some a => a.ready
  | none => false

/-- The size an ASSET_STATE carries: 0 when ABSENT (R99). -/
def State.assetSize (s : State) (id : Nat) : Nat :=
  match s.asset? id with
  | some a => a.size
  | none => 0

/-- Free space of the asset store (section 5.7). -/
def State.assetFree (s : State) : Nat := assetCapacity - (s.canvas.assets.map (·.size)).sum

def State.input (s : State) (n : Nat) : Input := s.canvas.inputs.getD n .reset
def State.ring (s : State) (n : Nat) : Ring := s.capture.rings.getD n .reset

/-! ## Rings and clips -/

/-- The oldest available sequence O (R128). -/
def Ring.oldest (r : Ring) : Nat := max (r.w - r.size) r.floor

/-- The size C of the clip store (section 7.1). -/
def State.storeSize (s : State) : Nat := frameSlots - (s.capture.rings.map (·.size)).sum

def State.clip? (s : State) (id : Nat) : Option Clip := s.replay.clips.find? (·.id == id)

def Clip.length (c : Clip) : Nat := c.outSeq - c.inSeq + 1

/-- The extent of a clip in SAVING or SAVED: start and length (Table 8-1). -/
def Clip.extent (c : Clip) : Option (Nat × Nat) :=
  match c.state with
  | .saving start _ => some (start, c.length)
  | .saved start => some (start, c.length)
  | _ => none

/-- The frame of a sequence lies in the clip's extent (R157). -/
def Clip.inStore (c : Clip) (seq : Int) : Bool :=
  match c.state with
  | .saved _ => true
  | .saving _ copied => seq < copied
  | _ => false

/-- An extent put into a list in ascending start. -/
def insertExtent (e : Nat × Nat) : List (Nat × Nat) → List (Nat × Nat)
  | [] => [e]
  | f :: rest => if e.1 ≤ f.1 then e :: f :: rest else f :: insertExtent e rest

/-- The extents held, in ascending start. -/
def State.extents (s : State) : List (Nat × Nat) :=
  (s.replay.clips.filterMap (·.extent)).foldr insertExtent []

/-- The maximal runs of free slots, from slot `at` on, between the extents and up to slot `stop` (R143). -/
def freeRuns (start stop : Nat) : List (Nat × Nat) → List (Nat × Nat)
  | [] => if start < stop then [(start, stop - start)] else []
  | e :: rest =>
    if start < e.1 then (start, e.1 - start) :: freeRuns (e.1 + e.2) stop rest else freeRuns (e.1 + e.2) stop rest

/-- The free runs of the store. -/
def State.freeRuns (s : State) : List (Nat × Nat) := Machine.freeRuns 0 s.storeSize s.extents

/-- First fit: the start of the lowest free run that is long enough (R143). -/
def State.firstFit (s : State) (length : Nat) : Option Nat := (s.freeRuns.find? fun r => length ≤ r.2).map (·.1)

/-- The free slots in all, and the longest free run (R142). -/
def State.freeSlots (s : State) : Nat := (s.freeRuns.map (·.2)).sum
def State.longestRun (s : State) : Nat := s.freeRuns.foldl (fun m r => max m r.2) 0

/-! ## Channels -/

def State.chan (s : State) : Channel → Chan
  | .a => s.replay.chanA
  | .b => s.replay.chanB

/-- The level of a channel (section 8.4). -/
def channelLevel : Channel → Nat
  | .a => 3
  | .b => 4

/-- The channel is REQUESTED, PLAYING or COVERED. -/
def Chan.onAir (c : Chan) : Bool := c.state == .requested || c.state == .playing || c.state == .covered

/-- The start position of an entry (R149). -/
def startPosition (c : Clip) (f : CueFields) : Int :=
  if 0 ≤ f.speed then (c.inSeq : Int) + f.offset else (c.outSeq : Int) - f.offset

/-- num and den of the cadence (R154). -/
def cadenceNum (speed : Int) (src out : Rate) : Nat := speed.natAbs * src.n * out.d
def cadenceDen (src out : Rate) : Nat := 1000 * src.d * out.n

/-- The number of cue entries, on both channels, that name a clip (R142, R147). -/
def State.cuesNaming (s : State) (clip : Nat) : Nat :=
  ((s.replay.chanA.cues ++ s.replay.chanB.cues).filter (·.fields.clip == clip)).length

/-! ## Sponsors, rotation and crawl -/

/-- The sponsor table holds the id (section 9.1). -/
def State.sponsorDefined (s : State) (id : Nat) : Bool := s.rotation.sponsors.any (·.id == id)

/-- An optional sponsor that is absent or defined. -/
def State.sponsorKnown (s : State) : Option Nat → Bool
  | none => true
  | some id => s.sponsorDefined id

def State.exposed (s : State) (id : Nat) : Exposed := s.exposure.ids.getD id .reset

/-- An entry passes the fulfilment test of R168. -/
def State.entryFulfilled (s : State) (e : RotEntry) : Bool :=
  match e.sponsor with
  | some id => (s.exposed id).fulfilled
  | none => false

def State.program (s : State) (p : Nat) : Program := s.rotation.programs.getD p .reset

/-- A zone carries a program (R166). -/
def carries (idle : Option Nat) (p : Nat) (z : Zone) : Bool :=
  match z.spec.base with
  | .rotation q => p == q
  | .crawl => idle == some p
  | _ => false

/-- The carrying zones of a program, in ascending id (R166). -/
def State.carrying (s : State) (p : Nat) : List Nat := s.zonesWith (carries s.crawl.config.idle p)

/-- The crawl shows its idle source (R197). -/
def Crawl.isIdle (c : Crawl) : Bool := c.strip.isEmpty && c.order.isEmpty

def Crawl.message? (c : Crawl) (id : Nat) : Option Message := c.messages.find? (·.id == id)

/-- The width of a text: the sum of the glyph widths of its characters (section 11.1). -/
def textWidth (widths : List Nat) (t : Text) : Nat := (t.map fun c => widths.getD (c.toNat - 0x20) 0).sum

end Sys2Proof.Machine
end

