-- ==== Sys2Proof/Machine/Replay.lean ====
section
/-! DEFINITION. Capture rings, readers, clips and the loading and ending of cue entries (Chapters 7 and 8): the operations
that need nothing from the arbiter. -/

namespace Sys2Proof.Machine

/-! ## Updaters -/

def State.mapRing (n : Nat) (f : Ring → Ring) (s : State) : State :=
  s.mapCapture fun c => { c with rings := c.rings.set n (f (s.ring n)) }

def State.mapInput (n : Nat) (f : Input → Input) (s : State) : State :=
  s.mapCanvas fun c => { c with inputs := c.inputs.set n (f (s.input n)) }

def State.mapChan (ch : Channel) (f : Chan → Chan) (s : State) : State :=
  match ch with
  | .a => s.mapReplay fun r => { r with chanA := f r.chanA }
  | .b => s.mapReplay fun r => { r with chanB := f r.chanB }

def State.mapClip (id : Nat) (f : Clip → Clip) (s : State) : State :=
  s.mapReplay fun r => { r with clips := r.clips.map fun c => if c.id = id then f c else c }

def State.reader (s : State) : ReaderName → Option Reader
  | .save => s.capture.readSave
  | .channelA => s.capture.readA
  | .channelB => s.capture.readB

def State.setReader (name : ReaderName) (r : Option Reader) (s : State) : State :=
  match name with
  | .save => s.mapCapture fun c => { c with readSave := r }
  | .channelA => s.mapCapture fun c => { c with readA := r }
  | .channelB => s.mapCapture fun c => { c with readB := r }

/-- The reader of a channel (R135). -/
def channelReader : Channel → ReaderName
  | .a => .channelA
  | .b => .channelB

/-! ## Readers and margins (R135, R136) -/

/-- A reader's margin: its sequence number minus O of its input (R135). -/
def State.margin (s : State) (r : Reader) : Int := r.seq - (s.ring r.input).oldest

/-- The test of a reader (R136): an armed reader below the threshold raises NEAR_OVERTAKE and is disarmed; a disarmed one
at or above it is armed again. -/
def State.testReader (name : ReaderName) (s : State) : State :=
  match s.reader name with
  | none => s
  | some r =>
    let threshold := thresholdFrames (s.ring r.input).threshold
    if r.armed then
      if s.margin r < threshold then
        (s.setReader name (some { r with armed := false })).raise .nearOvertake
          (.nearOvertake r.input name r.clip (s.margin r) threshold)
      else s
    else if threshold ≤ s.margin r then s.setReader name (some { r with armed := true })
    else s

/-- A reader attaches, armed, and is tested (R136), where its frame is at or above O: R135 says so of a clip that leaves its
extent, and the model of every attachment (DESIGN CHOICE, log 20). -/
def State.attachReader (name : ReaderName) (want : Reader) (s : State) : State :=
  if ((s.ring want.input).oldest : Int) ≤ want.seq then (s.setReader name (some want)).testReader name else s

/-- The reading the save copy makes: the next sequence of the head of the save queue (R135, R145). -/
def State.wantSave (s : State) : Option Reader :=
  match s.replay.saveQueue.head?.bind s.clip? with
  | some c =>
    match c.state with
    | .saving _ copied => some ⟨c.input, copied, c.id, 0, true⟩
    | _ => none
  | none => none

/-- The reading a channel makes: the frame at its head entry's position, unless it lies in the clip store (R135). -/
def State.wantChannel (ch : Channel) (s : State) : Option Reader :=
  match (s.chan ch).cues with
  | [] => none
  | e :: _ =>
    match s.clip? e.fields.clip with
    | some c => if c.inStore (s.chan ch).pos then none else some ⟨c.input, (s.chan ch).pos, c.id, e.number, true⟩
    | none => none

/-- Hands one reader's reading to the capture unit: attachment, detachment, or a new sequence, with its test (R135). -/
def State.syncReader (name : ReaderName) (want : Option Reader) (s : State) : State :=
  match s.reader name, want with
  | none, none => s
  | some _, none => s.setReader name none
  | none, some w => s.attachReader name w
  | some r, some w =>
    if r.input = w.input ∧ r.clip = w.clip ∧ r.cue = w.cue then
      (s.setReader name (some { r with seq := w.seq })).testReader name
    else (s.setReader name none).attachReader name w

/-- Hands every reader's reading to the capture unit (R135), the save copy's first, then channel A's, then channel B's
(DESIGN CHOICE, log 20). -/
def State.syncReaders (s : State) : State :=
  let s := s.syncReader .save s.wantSave
  let s := s.syncReader .channelA (s.wantChannel .a)
  s.syncReader .channelB (s.wantChannel .b)

/-! ## Clips (R140, R146) -/

/-- A clip becomes LOST: its extent is free again, it leaves the save queue, and CLIP_STATE is raised (R140). -/
def State.loseClip (cause : ClipCause) (seq : Option Nat) (c : Clip) (s : State) : State :=
  ((s.mapClip c.id fun c => { c with state := .lost }).mapReplay fun r =>
      { r with saveQueue := r.saveQueue.filter (· != c.id) }).raise .clipState
    (.clipState c.id c.input .lost cause seq)

/-- What an overwrite report of a sequence does to a clip, if anything (R140). -/
def Clip.overwriteCause (seq : Nat) (c : Clip) : Option ClipCause :=
  match c.state with
  | .ring => if within c.inSeq c.outSeq seq then some .overwritten else none
  | .saving _ copied => if within copied c.outSeq seq then some .overtaken else none
  | _ => none

/-- The replay unit acts on an overwrite report at once (R130, R140, R146); several clips in the clip table's order, all before
the copy engine takes its next save (DESIGN CHOICE, log 20). -/
def State.overwriteReport (input seq : Nat) (s : State) : State :=
  s.replay.clips.foldl (fun s c =>
    match if c.input = input then c.overwriteCause seq else none with
    | some cause => s.loseClip cause (some seq) c
    | none => s) s

/-- The clip is in state RING or SAVING. -/
def Clip.uncopied (c : Clip) : Bool :=
  match c.state with
  | .ring => true
  | .saving _ _ => true
  | _ => false

/-- A reader of the input is disarmed (R134). -/
def disarm (input : Nat) (r : Option Reader) : Option Reader :=
  r.map fun r => if r.input = input then { r with armed := false } else r

/-- A capture restart of an input (R134): the ring is emptied, its readers are disarmed, and its RING and SAVING clips
become LOST, in the clip table's order and before the copy engine takes its next save (DESIGN CHOICE, log 20). -/
def State.captureRestart (input : Nat) (s : State) : State :=
  let s := s.mapRing input fun r => { r with floor := r.w, rate := none }
  let s := s.mapCapture fun c =>
    { c with readSave := disarm input c.readSave, readA := disarm input c.readA, readB := disarm input c.readB }
  let s := (s.replay.clips.filter fun c => c.input == input && c.uncopied).foldl
    (fun s c => s.loseClip .captureRestart none c) s
  s.syncReaders

/-! ## Cue entries (R149, R158) -/

/-- A channel set to the start of its list's head, or IDLE without one (R149). -/
def State.placeHead (ch : Channel) (s : State) : State :=
  s.mapChan ch fun c =>
    match c.cues with
    | [] => { c with state := .idle, pos := 0, acc := 0, passes := 0, shown := 0 }
    | e :: _ =>
      { c with
        state := .cued
        pos := match s.clip? e.fields.clip with
          | some clip => startPosition clip e.fields
          | none => 0
        acc := 0, passes := 0, shown := 0 }

/-- Loads the head of a channel's list, its reader attaching, or leaves the channel IDLE (R149). -/
def State.loadHead (ch : Channel) (s : State) : State := (s.placeHead ch).syncReaders

/-- A channel's list without its head, or emptied, with the next head placed but no reader attached: what RESTART does to a
channel, which raises no warning (R139, R163; log 10). -/
def State.cutCues (ch : Channel) (f : List Cue → List Cue) (s : State) : State :=
  ((s.mapChan ch fun c => { c with cues := f c.cues }).placeHead ch).setReader (channelReader ch) none

/-- CHANNEL_STATE for an entry (R158). -/
def State.raiseChannel (ch : Channel) (e : Cue) (outcome : CueOutcome) (pos : Int) (passes shown : Nat) (s : State) :
    State :=
  s.raise .channelState (.channelState ch e.number e.fields.clip outcome pos passes shown (s.chan ch).state)

/-- The head entry leaves the list and its reader detaches (R150, R151, R158); a channel whose list is empty is IDLE (Table
8-3). -/
def State.leaveHead (ch : Channel) (s : State) : State :=
  (s.mapChan ch fun c =>
    { c with cues := c.cues.tail, state := if c.cues.tail = [] then .idle else c.state }).setReader (channelReader ch) none

/-- The head entry leaves the list and the next entry is loaded, which attaches afresh (R158, R150). -/
def State.popHead (ch : Channel) (s : State) : State := (s.leaveHead ch).loadHead ch

/-- An entry ends with an outcome other than COMPLETE, its level being already released or ended (R158). At RESTART the
successor is placed and reported as CUED, but attaches no reader, since its list is emptied in the same event and no warning
is raised (R139, R161, R163; DESIGN CHOICE, log 10). -/
def State.endEntry (ch : Channel) (outcome : CueOutcome) (s : State) : State :=
  match (s.chan ch).cues with
  | [] => s
  | e :: _ =>
    (if outcome = .restart then s.cutCues ch List.tail else s.popHead ch).raiseChannel ch e outcome (s.chan ch).pos
      (s.chan ch).passes (s.chan ch).shown

end Sys2Proof.Machine
end

