-- ==== Sys2Proof/Machine/Rotation.lean ====
section
/-! DEFINITION. Exposure counters (Chapter 10) and rotation appearances (R166 to R171): the operations that need nothing
from the arbiter. -/

namespace Sys2Proof.Machine

/-! ## Exposure -/

def State.mapExposed (id : Nat) (f : Exposed → Exposed) (s : State) : State :=
  s.mapExposure fun e => { e with ids := e.ids.set id (f (s.exposed id)) }

/-- A counter after an increase, where its kind is enabled, saturating at 2^48 - 1 (R181). -/
def creditTo (enabled : Bool) (counter amount : Nat) : Nat := if enabled then min max48 (counter + amount) else counter

/-- The exposure unit is told of the start of a sponsored appearance (R182). -/
def State.tellStart (e : RotEntry) (s : State) : State :=
  match e.sponsor with
  | some id => s.mapExposed id fun x => { x with appearances := creditTo s.exposure.mask.appearances x.appearances 1 }
  | none => s

/-- The exposure unit is told of the end of a sponsored appearance, and whether it was short (R182). -/
def State.tellEnd (e : RotEntry) (short : Bool) (s : State) : State :=
  match e.sponsor with
  | some id =>
    if short then
      s.mapExposed id fun x =>
        { x with shortAppearances := creditTo s.exposure.mask.shortAppearances x.shortAppearances 1 }
    else s
  | none => s

/-- The three milestone values of a quota (R184). -/
def milestoneValue (q : Nat) : Milestone → Nat
  | .m50 => q * 50 / 100
  | .m75 => q * 75 / 100
  | .m100 => q

def Exposed.passed (e : Exposed) : Milestone → Bool
  | .m50 => e.p50
  | .m75 => e.p75
  | .m100 => e.p100

def Exposed.pass (m : Milestone) (e : Exposed) : Exposed :=
  match m with
  | .m50 => { e with p50 := true }
  | .m75 => { e with p75 := true }
  | .m100 => { e with p100 := true, fulfilled := true }

/-- One armed milestone is compared after a credit (R184). -/
def State.testMilestone (id : Nat) (m : Milestone) (s : State) : State :=
  match (s.exposed id).quota with
  | some q =>
    if !(s.exposed id).passed m && milestoneValue q m ≤ (s.exposed id).delivered then
      (s.mapExposed id (Exposed.pass m)).raise .quotaMilestone
        (.quotaMilestone id m .credit (milestoneValue q m) (s.exposed id).delivered)
    else s
  | none => s

/-- The milestone test of R184, in ascending order. -/
def State.testMilestones (id : Nat) (s : State) : State :=
  ((s.testMilestone id .m50).testMilestone id .m75).testMilestone id .m100

/-- Setting or removing a quota (R185). -/
def State.setQuota (id : Nat) (quota : Option Nat) (s : State) : State :=
  match quota with
  | none =>
    s.mapExposed id fun e => { e with quota := none, p50 := false, p75 := false, p100 := false, fulfilled := false }
  | some q =>
    let d := (s.exposed id).delivered
    let s' := s.mapExposed id fun e =>
      { e with
        quota := some q
        p50 := decide (milestoneValue q .m50 ≤ d)
        p75 := decide (milestoneValue q .m75 ≤ d)
        p100 := decide (q ≤ d)
        fulfilled := decide (q ≤ d) }
    if q ≤ d ∧ (s.exposed id).fulfilled = false then
      s'.raise .quotaMilestone (.quotaMilestone id .m100 .quota q d)
    else s'

/-- The clearing at a game open: counters 0, milestones re-armed, a milestone of value 0 passed at once (R187). -/
def Exposed.openGame (e : Exposed) : Exposed :=
  { Exposed.reset with
    quota := e.quota
    p50 := match e.quota with
      | some q => milestoneValue q .m50 == 0
      | none => false
    p75 := match e.quota with
      | some q => milestoneValue q .m75 == 0
      | none => false }

def State.clearExposure (s : State) : State := s.mapExposure fun e => { e with ids := e.ids.map Exposed.openGame }

/-! ## Appearances -/

def State.mapProgram (p : Nat) (f : Program → Program) (s : State) : State :=
  s.mapRotation fun r => { r with programs := r.programs.set p (f (s.program p)) }

/-- A program is active while it has a carrying zone (R166). -/
def State.active (s : State) (p : Nat) : Bool := !(s.carrying p).isEmpty

/-- The candidates of a selection in candidate order (R168). -/
def Program.candidates (g : Program) : List RotEntry :=
  match g.mode with
  | .rotate => g.entries
  | .fixed => g.entries.drop g.pointer ++ g.entries.take g.pointer

/-- Step 1 of R168. -/
def State.firstChoice (s : State) (e : RotEntry) : Bool :=
  !e.suspended && s.assetReady e.asset && !s.entryFulfilled e

/-- Step 2 of R168. -/
def State.fillChoice (s : State) (e : RotEntry) : Bool := !e.suspended && s.assetReady e.asset

/-- The candidates a selection examines before it makes its choice (R168). -/
def State.examined (s : State) (cands : List RotEntry) : List RotEntry := cands.takeWhile fun e => !s.firstChoice e

/-- The chosen entry: step 1, else step 2 (R168). -/
def State.choose (s : State) (cands : List RotEntry) : Option RotEntry :=
  match cands.find? s.firstChoice with
  | some e => some e
  | none => cands.find? s.fillChoice

/-- An examined candidate that is not suspended and whose asset is missing raises ASSET_STATE (R168). -/
def State.raiseSkipped (p : Nat) (e : RotEntry) (s : State) : State :=
  if !e.suspended && !s.assetReady e.asset then
    s.raise .assetState (.assetState e.asset .missing (s.carrying p).head? (s.assetSize e.asset))
  else s

/-- The index after an entry, wrapping to 0 after the last (R168, R174). -/
def indexAfter (entries : List RotEntry) (id : Nat) : Nat :=
  let i := entries.findIdx (·.id == id) + 1
  if i < entries.length then i else 0

/-- An appearance of an entry starts (R169). -/
def State.startEntry (p : Nat) (e : RotEntry) (s : State) : State :=
  (s.mapProgram p fun g =>
    { g with
      onAir := some ⟨some e, s.toFrames e.dwell, 0, 0, 0⟩
      pointer := match g.mode with
        | .fixed => indexAfter g.entries e.id
        | .rotate => g.pointer }).tellStart e

/-- A slate appearance starts (R171). -/
def State.startSlate (p : Nat) (s : State) : State :=
  let es := (s.program p).entries
  (s.mapProgram p fun g =>
    { g with onAir := some ⟨none, s.toFrames 5000, 0, 0, 0⟩, slates := satInc 65535 g.slates }).raise .rotationEmpty
      (.rotationEmpty p es.length (es.filter (·.suspended)).length
        (es.filter fun e => !s.assetReady e.asset).length
        (es.filter fun e => !e.suspended && s.entryFulfilled e).length)

/-- A selection (R168). -/
def State.select (p : Nat) (s : State) : State :=
  let cands := (s.program p).candidates
  let s' := (s.examined cands).foldl (fun s e => s.raiseSkipped p e) s
  match s.choose cands with
  | some e => s'.startEntry p e
  | none => s'.startSlate p

/-- The ended entry moves to the tail of the list (R170, step 2). -/
def moveToTail (id : Nat) (es : List RotEntry) : List RotEntry :=
  es.filter (fun e => e.id != id) ++ es.filter fun e => e.id == id

/-- The appearance is short (R170, step 1). -/
def Appearance.short (a : Appearance) : Bool := 2 * a.visible < a.elapsed

/-- Steps 1 to 3 of an appearance's end (R170); `moves` is false for an end by load or RESTART. -/
def State.closeAppearance (p : Nat) (moves : Bool) (a : Appearance) (s : State) : State :=
  let s := match a.entry with
    | some e => s.tellEnd e a.short
    | none => s
  s.mapProgram p fun g =>
    { g with
      onAir := none
      entries := match a.entry with
        | some e => if moves && g.mode == .rotate then moveToTail e.id g.entries else g.entries
        | none => g.entries }

/-- An appearance ends by its dwell, a suspension or deactivation (R170): a program still active selects at once. -/
def State.endAppearance (p : Nat) (s : State) : State :=
  match (s.program p).onAir with
  | none => s
  | some a =>
    let s := s.closeAppearance p true a
    if s.active p then s.select p else s

/-- An appearance ends by load or RESTART: nothing moves and no selection follows here (R170). -/
def State.dropAppearance (p : Nat) (s : State) : State :=
  match (s.program p).onAir with
  | none => s
  | some a => s.closeAppearance p false a

/-- The programs' carrying zones have changed from what made them active or not before (R166); several programs in ascending
number (DESIGN CHOICE, log 21). -/
def State.activityChanged (before : List Nat) (s : State) : State :=
  [0, 1, 2, 3].foldl (fun s p =>
    if before.contains p then (if s.active p then s else s.endAppearance p)
    else if s.active p then s.select p else s) s

/-- The active programs. -/
def State.activePrograms (s : State) : List Nat := [0, 1, 2, 3].filter s.active

end Sys2Proof.Machine
end

