-- ==== Sys2Proof/Machine/Crawl.lean ====
section
/-! DEFINITION. Messages, the strip and its movement (R194 to R196, R199): the operations that need nothing from the
arbiter. -/

namespace Sys2Proof.Machine

def State.mapMessage (id : Nat) (f : Message → Message) (s : State) : State :=
  s.mapCrawl fun c => { c with messages := c.messages.map fun m => if m.id = id then f m else m }

/-- A message leaves the queue and every list (R192, R193, R199). -/
def State.removeMessage (id : Nat) (s : State) : State :=
  s.mapCrawl fun c =>
    { c with
      messages := c.messages.filter (·.id != id)
      order := c.order.filter (· != id)
      strip := c.strip.filter (·.id != id)
      featureOrder := c.featureOrder.filter (· != id) }

/-- MESSAGE_DONE for a message (R199). -/
def State.raiseDone (cause : DoneCause) (m : Message) (s : State) : State :=
  s.raise .messageDone (.messageDone m.id cause m.cls m.passes m.featuredDone)

/-- A message leaves the queue and MESSAGE_DONE is raised (R192, R199). -/
def State.finishMessage (cause : DoneCause) (m : Message) (s : State) : State :=
  (s.removeMessage m.id).raiseDone cause m

/-- The card of a message is done: its featured-done flag is set, it leaves the feature order, and a QUEUED message with no
pass left is done (R199, steps 1 and 2). -/
def State.finishCard (id : Nat) (s : State) : State :=
  let s := (s.mapMessage id fun m => { m with featuredDone := true }).mapCrawl fun c =>
    { c with featureOrder := c.featureOrder.filter (· != id) }
  match s.crawl.message? id with
  | some m => if m.state = .queued ∧ m.repeats = 0 then s.finishMessage .done m else s
  | none => s

/-- A message whose tail is at or below 0 leaves the strip (R194). -/
def State.leaveStrip (id : Nat) (s : State) : State :=
  let s := (s.mapMessage id fun m =>
      { m with state := .queued, passes := m.passes + 1, repeats := m.repeats - 1 }).mapCrawl fun c =>
    { c with strip := c.strip.filter (·.id != id) }
  match s.crawl.message? id with
  | some m =>
    if 0 < m.repeats then s.mapCrawl fun c => { c with order := c.order ++ [id] }
    else if m.cls = .ordinary ∨ m.featuredDone = true then s.finishMessage .done m
    else s
  | none => s

/-- The strip moves by the speed in force, and messages that have passed leave it, leftmost first (R194). -/
def State.moveStrip (s : State) : State :=
  let s := s.mapCrawl fun c => { c with strip := c.strip.map fun i => { i with x := i.x - (c.config.speed : Int) } }
  (s.crawl.strip.filter fun i => decide (i.x + (i.width : Int) ≤ 0)).foldl (fun s i => s.leaveStrip i.id) s

/-- Where the head of the crawl order enters, if it may (R195). -/
def Crawl.entryPoint (w : Nat) (c : Crawl) : Option Int :=
  match c.strip.getLast? with
  | none => some w
  | some last =>
    let t := last.x + last.width
    if 8 ≤ c.strip.length ∨ (w : Int) - c.config.gap < t then none
    else if (w : Int) - c.config.speed + 1 ≤ t + c.config.gap then some (t + c.config.gap)
    else some w

/-- The entry step (R195). -/
def State.enterStrip (w : Nat) (s : State) : State :=
  match s.crawl.order, s.crawl.entryPoint w with
  | id :: rest, some x =>
    match s.crawl.message? id with
    | some m =>
      (s.mapMessage id fun m => { m with state := .onAir }).mapCrawl fun c =>
        { c with order := rest, strip := c.strip ++ [⟨id, x, textWidth c.config.widths m.text⟩] }
    | none => s
  | _, _ => s

/-- The strip is cleared: its messages go to the head of the crawl order (R196). -/
def State.clearStrip (s : State) : State :=
  s.mapCrawl fun c =>
    { c with
      messages := c.messages.map fun m => if c.strip.any (·.id == m.id) then { m with state := .queued } else m
      order := c.strip.map (·.id) ++ c.order
      strip := [] }

end Sys2Proof.Machine
end

