-- ==== Sys2Proof/Machine/Arbiter.lean ====
section
/-! DEFINITION. The takeover arbiter (Chapter 6): requests, grants, ends and releases, with what each owner does at a grant
or an end of its level, and the rolls, features and cards that reach the arbiter from its owners (Chapters 8, 9, 11). -/

namespace Sys2Proof.Machine

/-! ## Zone state -/

def State.mapZone (id : Nat) (f : Zone → Zone) (s : State) : State :=
  s.mapCanvas fun c => { c with zones := c.zones.map fun z => if z.spec.id = id then f z else z }

def State.mapArb (id : Nat) (f : ZoneArb → ZoneArb) (s : State) : State :=
  s.mapZone id fun z => { z with arb := f z.arb }

/-- A request joins the pending map in its level's place; one at the same level is replaced (R106). -/
def insertPending (r : PendingReq) : List PendingReq → List PendingReq
  | [] => [r]
  | q :: rest =>
    if r.level < q.level then r :: q :: rest
    else if r.level = q.level then r :: rest
    else q :: insertPending r rest

/-- A takeover joins the in-service set in its level's place. -/
def insertService (t : InService) : List InService → List InService
  | [] => [t]
  | u :: rest =>
    if t.level < u.level then t :: u :: rest
    else if t.level = u.level then t :: rest
    else u :: insertService t rest

/-! ## Grants (R108, R110) -/

/-- The highest grantable pending request (R108). -/
def Zone.nextGrant (run : RunState) (z : Zone) : Option PendingReq :=
  z.arb.pending.find? fun r => z.grantable run r.level

/-- A granted request joins the in-service set, not yielded; its first frame is the next frame event's (R110). -/
def ZoneArb.grant (r : PendingReq) (grantFrame : Nat) (a : ZoneArb) : ZoneArb :=
  { a with
    pending := a.pending.filter (·.level != r.level)
    service := insertService ⟨r.level, r.content, r.frames, grantFrame, 0, r.credit, 0⟩ a.service
    yielded := a.yielded.filter (· != r.level) }

/-- The channel of a level, if the level is a channel's. -/
def levelChannel (level : Nat) : Option Channel :=
  if level = 3 then some .a else if level = 4 then some .b else none

/-- The head entry of a channel is for the zone. -/
def Chan.headIn (zone : Nat) (c : Chan) : Bool := c.cues.head?.any (·.fields.zone == zone)

/-- The owner is told of a grant: a REQUESTED channel moves to COVERED (R152). -/
def State.noteGrant (zone level : Nat) (s : State) : State :=
  match levelChannel level with
  | some ch =>
    if (s.chan ch).state = .requested ∧ (s.chan ch).headIn zone = true then
      s.mapChan ch fun c => { c with state := .covered }
    else s
  | none => s

/-- The evaluation of a zone: the highest grantable pending request is granted (R108: one evaluation grants at most
one). -/
def State.evaluate (zone : Nat) (s : State) : State :=
  match (s.zone? zone).bind (·.nextGrant s.timing.run) with
  | some r => (s.mapArb zone (ZoneArb.grant r (s.canvas.frame + 1))).noteGrant zone r.level
  | none => s

/-- The evaluation of the zones given. -/
def State.evaluateAll (zones : List Nat) (s : State) : State := zones.foldl (fun s z => s.evaluate z) s

/-! ## Requests (R104 to R106) -/

/-- The arbiter's answers (R104). -/
inductive Answer where
  | noZone | granted | pending | replaced | busy
  deriving DecidableEq, Repr

/-- What an owner's request carries (R101). -/
structure Request where
  level : Nat
  content : Content
  frames : Option Nat
  credit : Option Nat
  deriving DecidableEq, Repr

/-- A request is recorded in the pending map with the next arrival number (R104, R106). -/
def ZoneArb.record (r : Request) (a : ZoneArb) : ZoneArb :=
  { a with
    pending := insertPending ⟨r.level, r.content, r.frames, r.credit, a.nextArrival⟩ a.pending
    nextArrival := nextNumber a.nextArrival }

/-- A replacement of an in-service takeover (R106). -/
def ZoneArb.replaceService (r : Request) (a : ZoneArb) : ZoneArb :=
  { a with
    service := a.service.map fun t =>
      if t.level = r.level then { t with content := r.content, remaining := r.frames, credit := r.credit, pos := 0 }
      else t }

/-- A request of an owner, plain or replacing, with the arbiter's answer (R104 to R106). -/
def State.request (zone : Nat) (r : Request) (replaces : Bool) (s : State) : State × Answer :=
  match s.zone? zone with
  | none => (s, .noZone)
  | some z =>
    if (z.arb.serviceAt r.level).isSome then
      if replaces then (s.mapArb zone (ZoneArb.replaceService r), .replaced) else (s, .busy)
    else if (z.arb.pendingAt r.level).isSome then
      if replaces then ((s.mapArb zone (ZoneArb.record r)).evaluate zone, .replaced) else (s, .busy)
    else
      let s := (s.mapArb zone (ZoneArb.record r)).evaluate zone
      match (s.zone? zone).bind (·.arb.serviceAt r.level) with
      | some _ => (s, .granted)
      | none => (s, .pending)

/-- The answer puts the zone into its owner's outstanding set. -/
def Answer.joins : Answer → Bool
  | .granted => true
  | .pending => true
  | .replaced => true
  | _ => false

/-- One request in each zone given, in order, with the zones that join the owner's outstanding set. -/
def State.requestAll (r : Request) (replaces : Bool) (zones : List Nat) (s : State) : State × List Nat :=
  zones.foldl (fun acc z =>
    let (s, a) := acc.1.request z r replaces
    (s, if a.joins then acc.2 ++ [z] else acc.2)) (s, [])

/-! ## Features and cards reach the arbiter (R176, R198) -/

/-- The zones a zone set names, an empty set naming the feature-target zones (R176, R198). -/
def State.resolveZones (zones : List Nat) (s : State) : List Nat :=
  if zones.isEmpty then s.featureTargetZones else ascending8 zones

/-- The head of a feature list is requested; a head that no zone takes leaves the list, and the next follows (R176). The zones
an empty set resolves to fill the outstanding set alone: the feature's own zone set stays empty, and ROTATION_STATUS reports it
so (DESIGN CHOICE, log 24). -/
def State.startFeatures : List Feature → State → State
  | [], s => s.mapRotation fun r => { r with features := [] }
  | f :: rest, s =>
    let (s, out) := s.requestAll ⟨5, .asset f.asset, some (s.toFrames f.duration), some f.sponsor⟩ false
      (s.resolveZones f.zones)
    if out.isEmpty then
      State.startFeatures rest (s.mapRotation fun r => { r with featuresDropped := satInc 65535 r.featuresDropped })
    else s.mapRotation fun r => { r with features := { f with outstanding := out } :: rest }

/-- The head feature leaves the list once it has no outstanding zone, and the next is requested (R176). -/
def State.featureFollow (s : State) : State :=
  match s.rotation.features with
  | f :: rest => if f.outstanding.isEmpty then s.startFeatures rest else s
  | [] => s

/-- The card of the head of a feature order is requested; a card that no zone takes is done at once (R198). -/
def State.startCards : List Nat → State → State
  | [], s => s.mapCrawl fun c => { c with card := none }
  | id :: rest, s =>
    let (s, out) := s.requestAll ⟨6, .card id, some (s.toFrames s.crawl.config.duration), none⟩ false
      (s.resolveZones s.crawl.config.zones.ids)
    if out.isEmpty then
      State.startCards rest
        ((s.mapCrawl fun c => { c with cardsDropped := satInc 65535 c.cardsDropped, card := none }).finishCard id)
    else s.mapCrawl fun c => { c with card := some ⟨id, out⟩ }

/-- The standing card is done once it has no outstanding zone, and the next is requested (R199). Where one event ends level 6
and other levels, the card's MESSAGE_DONE comes after all the ends and evaluations of that event, and so after a
CHANNEL_STATE they raise, and not at the report of its last end (DESIGN CHOICE, log 20). -/
def State.cardFollow (s : State) : State :=
  match s.crawl.card with
  | some c =>
    if c.zones.isEmpty then
      let s := (s.mapCrawl fun c => { c with card := none }).finishCard c.message
      s.startCards s.crawl.featureOrder
    else s
  | none => s

/-- The requests owners make in answer to ends, taken after the evaluations (R114): the rotation unit's before the crawl
unit's, so a card that follows meets a feature that follows (DESIGN CHOICE, log 20). -/
def State.followUps (s : State) : State := s.featureFollow.cardFollow

/-! ## Ends (R114) -/

/-- The stage of a level in a zone, with its frames in service; none where it is neither pending nor in service. -/
def ZoneArb.standing (level : Nat) (a : ZoneArb) : Option (Stage × Nat) :=
  match a.serviceAt level with
  | some t => some (.inService, t.served)
  | none => (a.pendingAt level).map fun _ => (.pending, 0)

/-- Step 1 of R114. -/
def ZoneArb.remove (level : Nat) (a : ZoneArb) : ZoneArb :=
  { a with
    pending := a.pending.filter (·.level != level)
    service := a.service.filter (·.level != level)
    yielded := a.yielded.filter (· != level) }

/-- The outcome of the cue entry whose level the arbiter ended (R158); none where the channel itself released. -/
def entryOutcome : Outcome → Option CueOutcome
  | .cleared => some .cleared
  | .cut => some .cut
  | .zoneRemoved => some .zoneRemoved
  | .restart => some .restart
  | .expired => none
  | .released => none

/-- A phase left once no zone is outstanding (R46, R47). -/
def Phase.spend (outstanding : List Nat) (p : Phase) : Phase :=
  if outstanding.isEmpty ∧ (p = .countdown ∨ p = .periodEnd) then .spent else p

/-- The timing unit is told of an end of level 1 (section 2.7). -/
def Timing.levelEnded (zone : Nat) (t : Timing) : Timing :=
  let out := t.outstanding.filter (· != zone)
  { t with outstanding := out, phase := t.phase.spend out }

/-- A channel is told of an end of its level: its head entry ends with the arbiter's outcome (R158, R161). -/
def State.channelEnded (ch : Channel) (zone : Nat) (outcome : Outcome) (s : State) : State :=
  match entryOutcome outcome with
  | some o => if (s.chan ch).onAir ∧ (s.chan ch).headIn zone = true then s.endEntry ch o else s
  | none => s

/-- The head feature's outstanding set loses a zone (R176). -/
def Rotation.levelEnded (zone : Nat) (r : Rotation) : Rotation :=
  { r with
    features := match r.features with
      | f :: rest => { f with outstanding := f.outstanding.filter (· != zone) } :: rest
      | [] => [] }

/-- The standing card's outstanding set loses a zone (R199). -/
def Crawl.levelEnded (zone : Nat) (c : Crawl) : Crawl :=
  { c with card := c.card.map fun k => { k with zones := k.zones.filter (· != zone) } }

/-- Step 3 of R114: the owner of the level is told of an end. -/
def State.tellOwner (zone level : Nat) (outcome : Outcome) (s : State) : State :=
  match ownerOf level with
  | .timing => s.mapTiming (Timing.levelEnded zone)
  | .record => s.mapRecord fun r => { r with outstanding := r.outstanding.filter (· != zone) }
  | .channelA => s.channelEnded .a zone outcome
  | .channelB => s.channelEnded .b zone outcome
  | .rotation => s.mapRotation (Rotation.levelEnded zone)
  | .crawl => s.mapCrawl (Crawl.levelEnded zone)
  | .production => s

/-- Steps 1 to 3 of R114 for one zone and level. -/
def State.endOne (outcome : Outcome) (zone level : Nat) (s : State) : State :=
  match (s.zone? zone).bind (·.arb.standing level) with
  | some (stage, frames) =>
    ((s.mapArb zone (ZoneArb.remove level)).raise .takeoverEnded
      (.takeoverEnded zone level outcome stage frames)).tellOwner zone level outcome
  | none => s

/-- Steps 1 to 3 of R114 for each zone and level given, in order. -/
def State.endEach (outcome : Outcome) (items : List (Nat × Nat)) (s : State) : State :=
  items.foldl (fun s i => s.endOne outcome i.1 i.2) s

/-- The ends of one event: steps 1 to 3 for each, then the evaluation of their zones, then what the owners request in
answer (R114). -/
def State.endAll (outcome : Outcome) (items : List (Nat × Nat)) (s : State) : State :=
  ((s.endEach outcome items).evaluateAll (items.map (·.1))).followUps

/-- The level stands in the zone, pending or in service. -/
def State.standsAt (zone level : Nat) (s : State) : Option (Stage × Nat) :=
  (s.zone? zone).bind (·.arb.standing level)

/-- An owner releases its level in a zone; where the level does not stand there, nothing follows (R107). -/
def State.release (zone level : Nat) (s : State) : State :=
  if (s.standsAt zone level).isSome then s.endAll .released [(zone, level)] else s

/-- The zones and in-service levels that satisfy `p`, in ascending zone and level: the order in which one event ends them
(DESIGN CHOICE, log 20). -/
def State.serviceItems (p : Zone → InService → Bool) (s : State) : List (Nat × Nat) :=
  s.canvas.zones.flatMap fun z => (z.arb.service.filter (p z)).map fun t => (z.spec.id, t.level)

/-- The zones and levels, pending or in service, that satisfy `p`, in ascending zone and level: the order in which one event
ends them (DESIGN CHOICE, log 20). -/
def State.standingItems (p : Zone → Nat → Bool) (s : State) : List (Nat × Nat) :=
  s.canvas.zones.flatMap fun z =>
    ((List.range 8).filter fun l => p z l && (z.arb.standing l).isSome).map fun l => (z.spec.id, l)

/-! ## Run changes and RESTART (R111, R112, R124) -/

/-- A takeover that a confirmed start ends (R111). -/
def cutAtStart (z : Zone) (t : InService) : Bool := t.level != 0 && policyAt z.spec.policy t.level == .cut

/-- A confirmed start reaches the arbiter (R111): every zone is evaluated (R109). -/
def State.arbiterStart (s : State) : State :=
  ((s.endEach .cut (s.serviceItems cutAtStart)).evaluateAll s.zoneIds).followUps

/-- A confirmed stop reaches the arbiter (R112). -/
def State.arbiterStop (s : State) : State := s.evaluateAll s.zoneIds

/-- RESTART reaches the arbiter (R124), before the rotation unit empties its list. A next feature that the ends make the head
is requested here, and where no zone takes it the features-dropped count increases by 1 inside the RESTART, which otherwise
keeps that count (R176, R179; DESIGN CHOICE, log 10). -/
def State.arbiterRestart (s : State) : State :=
  ((s.endEach .restart (s.standingItems fun _ l => l == 0 || 3 ≤ l)).evaluateAll s.zoneIds).followUps

/-! ## Rolls and the ends a channel makes (R151, R153, R158) -/

/-- Why a roll drops an entry, if it does (R151). -/
def State.dropCause (e : Cue) (s : State) : Option CueOutcome :=
  match s.clip? e.fields.clip with
  | some c =>
    if c.state = .lost then some .clipGone
    else if s.replayTarget e.fields.zone then none
    else some .zoneGone
  | none => some .clipGone

/-- A roll drops the head entry (R151): it leaves the list, CHANNEL_STATE is raised with its start position, and then the next
entry is loaded. The next state in that detail is the one the drop leaves, IDLE for an emptied list and CUED otherwise: the
table of R158 words it for an end with its chained roll, and R151 raises it before the roll requests anything (DESIGN CHOICE,
log 9). -/
def State.dropHead (ch : Channel) (e : Cue) (outcome : CueOutcome) (s : State) : State :=
  ((s.leaveHead ch).raiseChannel ch e outcome (s.chan ch).pos 0 0).loadHead ch

/-- The tests of R151 on each loaded head in turn, over the channel's cue list, with the count of the entries dropped. -/
def State.rollDrops (ch : Channel) : List Cue → State → State × Nat
  | [], s => (s, 0)
  | e :: rest, s =>
    match s.dropCause e with
    | some o =>
      let (t, dropped) := State.rollDrops ch rest (s.dropHead ch e o)
      (t, dropped + 1)
    | none => (s, 0)

/-- The channel requests its level for its head entry (R151, R152). -/
def State.rollHead (ch : Channel) (s : State) : State × RollResult :=
  match (s.chan ch).cues with
  | [] => (s, .empty)
  | e :: _ =>
    let (s, a) := (s.mapChan ch fun c => { c with state := .requested }).request e.fields.zone
      ⟨channelLevel ch, .channel ch, none, e.fields.tag⟩ false
    (s, if a = .granted then .granted e.number else .pending e.number)

/-- A roll: its drops, each reported as it is made, and then the request for the head that is left (R151). -/
def State.roll (ch : Channel) (s : State) : State × Nat × RollResult :=
  let (s, dropped) := s.rollDrops ch (s.chan ch).cues
  let (s, result) := s.rollHead ch
  (s, dropped, result)

/-- The head entry ends by the channel's own release, without a chained roll (R158). -/
def State.releaseEntry (ch : Channel) (outcome : CueOutcome) (s : State) : State :=
  match (s.chan ch).cues with
  | [] => s
  | e :: _ => (s.release e.fields.zone (channelLevel ch)).endEntry ch outcome

/-- The head entry ends COMPLETE: the release, the next entry loaded, the chained roll, CHANNEL_STATE (R156, R158). -/
def State.completeEntry (ch : Channel) (s : State) : State :=
  match (s.chan ch).cues with
  | [] => s
  | e :: _ =>
    let c := s.chan ch
    let s := (s.release e.fields.zone (channelLevel ch)).popHead ch
    let s := if c.chain then (s.roll ch).1 else s
    s.raiseChannel ch e .complete c.pos c.passes c.shown

/-! ## Features joining and leaving (R175 to R177) -/

/-- A feature joins the tail of the list with the next number; the head is requested at once (R175). -/
def State.appendFeature (sponsor asset duration : Nat) (zones : List Nat) (brk : Bool) (s : State) : State :=
  let f : Feature := ⟨s.rotation.nextFeature, sponsor, asset, duration, zones, brk, []⟩
  let wasEmpty := s.rotation.features.isEmpty
  let s := s.mapRotation fun r => { r with features := r.features ++ [f], nextFeature := nextNumber r.nextFeature }
  if wasEmpty then s.startFeatures s.rotation.features else s

/-- The timing unit hands the rotation unit a break start (R177). -/
def State.featureBreakStart (seconds : Nat) (s : State) : State :=
  match s.rotation.breakConfig with
  | none => s
  | some (sponsor, asset) =>
    if 8 ≤ s.rotation.features.length then
      s.mapRotation fun r => { r with featuresDropped := satInc 65535 r.featuresDropped }
    else
      (s.appendFeature sponsor asset (seconds * 1000) [] true).mapRotation fun r =>
        { r with breakRecorded := some s.rotation.nextFeature }

/-- The break feature of the running break leaves the list if it waits behind the head (R177). -/
def Rotation.dropWaiting (number : Nat) (r : Rotation) : Rotation :=
  { r with
    features := match r.features with
      | f :: rest => f :: rest.filter (·.number != number)
      | [] => [] }

/-- The timing unit hands the rotation unit a break cancel (R177). -/
def State.featureBreakCancel (s : State) : State :=
  match s.rotation.breakRecorded with
  | none => s
  | some n =>
    let s := match s.rotation.features with
      | f :: _ =>
        if f.number = n then s.endAll .released (f.outstanding.map fun z => (z, 5))
        else s.mapRotation (Rotation.dropWaiting n)
      | [] => s
    s.mapRotation fun r => { r with breakRecorded := none }

/-- The timing unit hands the rotation unit a break expiry (R177). -/
def State.featureBreakExpiry (s : State) : State :=
  match s.rotation.breakRecorded with
  | none => s
  | some n => s.mapRotation fun r => { r.dropWaiting n with breakRecorded := none }

end Sys2Proof.Machine
end

