-- ==== Sys2Proof/Machine/Clock.lean ====
section
/-! DEFINITION. The game timing unit (Chapter 2): confirmed run changes, expiries, windows, horns, the countdown and
period-end takeovers, and one step of the time base. -/

namespace Sys2Proof.Machine

/-! ## Horns (R44) -/

/-- A horn timer that sounds for `d` ms (R44). -/
def soundFor (d : Nat) (timer : Option Nat) : Option Nat := some (max (timer.getD 0) d)

def Timing.soundHorn (which : Horn) (d : Nat) (t : Timing) : Timing :=
  match which with
  | .game => { t with gameHorn := soundFor d t.gameHorn }
  | .play => { t with playHorn := soundFor d t.playHorn }

/-- A horn sounds for the horn duration of the rules. -/
def State.hornSounds (which : Horn) (s : State) : State :=
  s.mapTiming fun t => t.soundHorn which t.rules.hornDuration

/-! ## Countdown and period end (R45 to R47) -/

/-- Every outstanding level-1 request is released, and the phase is the one given (R46, R47, R36). The zones end in the order
of the outstanding list, a zone that a layout gained standing last, which R46 leaves open (DESIGN CHOICE, log 20). -/
def State.releaseLevelOne (phase : Phase) (s : State) : State :=
  (s.endAll .released (s.timing.outstanding.map fun z => (z, 1))).mapTiming fun t =>
    { t with outstanding := [], phase := phase }

/-- Level-1 requests in every countdown zone; the phase is SPENT if none is left outstanding (R45, R46). -/
def State.requestLevelOne (asset : Nat) (frames : Option Nat) (phase : Phase) (s : State) : State :=
  let (s, out) := s.requestAll ⟨1, .asset asset, frames, none⟩ false s.countdownZones
  s.mapTiming fun t => { t with outstanding := out, phase := if out.isEmpty then .spent else phase }

/-- The countdown request (R45). -/
def State.requestCountdown (s : State) : State :=
  match s.timing.rules.countdownAsset with
  | some a => s.requestLevelOne a none .countdown
  | none => s

/-- What an event sends to the arbiter at level 1 where it has found the countdown conditions to hold, as `asks` says: the
request of R45, and in PERIOD_END the releases of R47 before it. An event that brings a confirmed run change sends them once
the change has been handed on, all four steps of it: R31 puts them after step 2, and not against steps 3 and 4 (DESIGN CHOICE,
log 17). -/
def State.sendCountdown (asks : Bool) (s : State) : State :=
  if asks then
    match s.timing.phase with
    | .idle => s.requestCountdown
    | .periodEnd => (s.releaseLevelOne .idle).requestCountdown
    | .countdown => s
    | .spent => s
  else s

/-- The check of the countdown conditions (R45, and R47 in PERIOD_END) by an event without a run change still to come. -/
def State.checkCountdown (s : State) : State := s.sendCountdown s.countdownDue

/-- A countdown is released once V stands above the threshold (R46). -/
def State.releaseCountdown (s : State) : State :=
  if s.timing.phase = .countdown ∧ s.timing.rules.countdownAt < s.timing.v then s.releaseLevelOne .idle else s

/-- SPENT becomes IDLE at a set or an adjustment (R47). -/
def State.renewCountdown (s : State) : State :=
  s.mapTiming fun t => { t with phase := if t.phase = .spent then .idle else t.phase }

/-- Every outstanding level-1 request is replaced by a timed period-end request (R47). -/
def State.switchPeriodEnd (asset frames : Nat) (s : State) : State :=
  (s.requestAll ⟨1, .asset asset, some frames, none⟩ true s.timing.outstanding).1.mapTiming fun t =>
    { t with phase := .periodEnd }

/-- The period-end handling at an expiry with cause LIMIT (R47). -/
def State.periodEnd (s : State) : State :=
  match if 0 < s.timing.rules.periodEndHold then s.timing.rules.periodEndAsset else none with
  | some a =>
    let frames := s.toFrames s.timing.rules.periodEndHold
    match s.timing.phase with
    | .countdown => s.switchPeriodEnd a frames
    | .periodEnd => s.switchPeriodEnd a frames
    | .idle => if s.countdownZones.isEmpty then s else s.requestLevelOne a (some frames) .periodEnd
    | .spent => if s.countdownZones.isEmpty then s else s.requestLevelOne a (some frames) .periodEnd
  | none => if s.timing.phase = .countdown then s.releaseLevelOne .spent else s

/-! ## Run changes (R31) -/

/-- Step 3 of R31: a start in SETUP moves the session to IN_GAME (R51). -/
def State.sessionStart (run : RunState) (s : State) : State :=
  if run = .running ∧ s.record.game.session = .setup then
    (s.mapGame fun g => { g with session := .inGame }).raise .sessionChanged
      (.sessionChanged .setup .inGame .start s.record.game.period)
  else s

/-- The CLOCK cause of a run change (R77). -/
def clockCauseOf : RunCause → ClockCause
  | .expiry => .expiry
  | _ => .run

/-- A confirmed run change is handed on (R31); the run state has its new value. -/
def State.handOn (cause : RunCause) (backdated : Nat) (s : State) : State :=
  let run := s.timing.run
  let s := s.raise .runChanged (.runChanged run cause s.timing.v backdated)
  let s := match run with
    | .running => s.arbiterStart
    | .stopped => s.arbiterStop
  (s.sessionStart run).sendClock (clockCauseOf cause)

/-! ## Expiries (R32, R33, R39, R42) -/

/-- CLOCK_EXPIRED (R32). -/
def State.raiseExpired (cause : ExpiryCause) (s : State) : State :=
  s.raise .clockExpired (.clockExpired cause s.record.game.period s.timing.rules.direction s.timing.v)

/-- The regulation crossing (R33). -/
def State.checkRegulation (s : State) : State :=
  if upRunOn s.timing.rules && s.timing.run == .running && !s.timing.regulation &&
      s.timing.rules.periodLength ≤ s.timing.v then
    ((s.mapTiming fun t => { t with regulation := true }).raiseExpired .regulation).hornSounds .game
  else s

/-- Expiry is declared (R32); at the ceiling of R33 there is no horn and no period end. `asks` says that the event that
declares it found the countdown conditions to hold while the clock was RUNNING: that request is sent after the run change, as
R31 has it, and before CLOCK_EXPIRED and the period end, which finds the countdown outstanding (DESIGN CHOICE, log 17). -/
def State.expire (asks : Bool) (s : State) : State :=
  let s := ((s.mapTiming fun t =>
    { t with v := clockLimit t.rules, run := .stopped, atLimit := true, expiryPending := false }).handOn .expiry 0).sendCountdown
      asks
  if upRunOn s.timing.rules then s.raiseExpired .ceiling
  else ((s.raiseExpired .limit).hornSounds .game).periodEnd

/-- Play expiry is declared (R39). -/
def State.playExpire (blanked : Bool) (s : State) : State :=
  let s := (s.mapTiming fun t => { t with play := 0, playPending := false }).raise .playExpired
    (.playExpired blanked s.timing.v)
  (if s.timing.rules.playHorn && !blanked then s.hornSounds .play else s).sendClock .play

/-- Break expiry (R42, R177). -/
def State.breakExpire (s : State) : State :=
  let s := (s.mapTiming fun t => { t with brkRunning := false, brkValue := 0 }).raise .breakExpired
    (.breakExpired (s.timing.brkLength / 1000) s.timing.brkHorn)
  let s := if s.timing.brkHorn then s.hornSounds .game else s
  s.featureBreakExpiry.sendClock .breakEnd

/-! ## The run gate (R25 to R30) -/

/-- The gate as it is outside any window. -/
def Timing.gateSteady (t : Timing) : Timing := { t with gate := .steady, window := 0, counted := 0, playCounted := 0 }

/-- The clock as a line start makes it: settled, and backdated by the window count (R26, R38). -/
def Timing.lineStart (t : Timing) : Timing :=
  { t.gateSteady with
    settled := .run
    run := .running
    v := countToward t.rules t.v t.window
    play := if t.playEnabled then t.play - t.window else t.play }

/-- A START_PENDING window is confirmed (R26). The countdown conditions are judged on the backdated clock; where it reaches the
limit, what they ask for is sent after the expiry's run change too (R31). The expiry comes before a play expiry, and a
regulation crossing after the start is handed on (DESIGN CHOICE, log 17). -/
def State.confirmStart (s : State) : State :=
  let t := s.timing
  if t.atLimit then
    (s.mapTiming fun t => { t.gateSteady with settled := .run }).sendClock .gate
  else
    let s := (s.mapTiming Timing.lineStart).handOn .line t.window
    let s := s.checkRegulation
    let s := if s.timing.isAtLimit then s.expire s.countdownDue else s.checkCountdown
    if t.playEnabled ∧ 0 < t.play ∧ t.play ≤ t.window then s.playExpire t.blanked else s

/-- The clock as a line stop makes it: settled, and restored by the counted-off amounts (R27, R38). -/
def Timing.lineStop (t : Timing) : Timing :=
  let v := restore t.rules t.v t.counted
  { t.gateSteady with
    settled := .stop
    run := .stopped
    v := v
    atLimit := if v = clockLimit t.rules then t.atLimit else false
    expiryPending := false
    play := min 99000 (t.play + t.playCounted)
    playPending := false }

/-- A STOP_PENDING window is confirmed (R27). `asks` says that the step that confirms it found the countdown conditions to
hold on the V it had counted; that request and the release at a V restored above the threshold are both sent after the run
change, as R31 has it, the release last (DESIGN CHOICE, log 17). -/
def State.confirmStop (asks : Bool) (s : State) : State :=
  (((s.mapTiming Timing.lineStop).handOn .line s.timing.counted).sendCountdown asks).releaseCountdown

/-- A stop window closes unconfirmed: a pending expiry is declared, and a pending play expiry of a play clock that is enabled
(R28, R29, R38, R40). R45 has no check of the countdown conditions here: the step or the adjustment that set the flag made its
own. The game clock's comes first; and where the play clock has been disabled since, R40 lets it raise no play
expiry and no rule says what becomes of the pending flag: it is cleared, and nothing is declared then or later (DESIGN CHOICE,
log 17). -/
def State.rejectStop (s : State) : State :=
  let t := s.timing
  let s := s.mapTiming fun t => { t.gateSteady with expiryPending := false, playPending := false }
  let s := if t.expiryPending then s.expire false else s.sendClock .gate
  if t.playPending && t.playEnabled then s.playExpire t.playZeroBlanked else s

/-- A window closes unconfirmed, as a glitch or by abandonment. A start window changes nothing but the gate (R28, R29). -/
def State.closeWindow (s : State) : State :=
  match s.timing.gate with
  | .steady => s
  | .startPending => (s.mapTiming Timing.gateSteady).sendClock .gate
  | .stopPending => s.rejectStop

/-- The gate samples the line once it is no longer ignored (R29). -/
def State.sampleLine (s : State) : State :=
  if s.lineIgnored then s else s.mapTiming fun t => { t with settled := t.lineNow }

/-- A window opens; with D = 0 it is confirmed in the same event (R25), which is no step, so that a stop brings no check of the
countdown conditions (R45). -/
def State.openWindow (gate : Gate) (s : State) : State :=
  let s := s.mapTiming fun t => { t.gateSteady with gate := gate }
  if s.timing.rules.debounce = 0 then
    match gate with
    | .startPending => s.confirmStart
    | .stopPending => s.confirmStop false
    | .steady => s
  else s.sendClock .gate

/-- An edge of the RUN line, which is not ignored (R25, R28). -/
def State.lineEdge (level : GateLevel) (s : State) : State :=
  let t := s.timing
  match t.gate with
  | .steady =>
    if level = t.settled then s
    else
      match level, t.run with
      | .run, .stopped =>
        if t.atLimit then s.mapTiming fun t => { t with settled := .run } else s.openWindow .startPending
      | .run, .running => s.mapTiming fun t => { t with settled := .run }
      | .stop, .running => s.openWindow .stopPending
      | .stop, .stopped => s.mapTiming fun t => { t with settled := .stop }
  | .startPending => if level = t.settled then s.closeWindow else s
  | .stopPending => if level = t.settled then s.closeWindow else s

/-- A start or a stop of the clock by CLOCK_START or CLOCK_STOP (R30). -/
def State.linkStart (s : State) : State :=
  (((s.mapTiming fun t => { t with run := .running }).handOn .link 0).checkRegulation).checkCountdown

def State.linkStop (s : State) : State := (s.mapTiming fun t => { t with run := .stopped }).handOn .link 0

/-! ## Set, adjust and reset (R34 to R36) -/

/-- The regulation flag after a set or an adjustment of a clock that is stopped, or that stands below P (R33). -/
def Timing.regulationAfter (t : Timing) : Timing :=
  if t.v < t.rules.periodLength then { t with regulation := false }
  else if upRunOn t.rules && t.run == .stopped then { t with regulation := true }
  else t

/-- CLOCK_SET takes effect (R34). -/
def State.setClock (v : Nat) (s : State) : State :=
  ((s.mapTiming fun t =>
      { t with v := v, atLimit := decide (v = clockLimit t.rules) }.regulationAfter).releaseCountdown.renewCountdown).sendClock
    .set

/-- The value an adjustment gives (R35). -/
def Timing.adjusted (delta : Int) (t : Timing) : Nat := min (clockMax t.rules) ((t.v : Int) + delta).toNat

/-- The flags an adjustment leaves, where it declares no expiry (R35). -/
def Timing.adjust (delta : Int) (t : Timing) : Timing :=
  let t := { t with v := t.adjusted delta }.regulationAfter
  if t.isAtLimit then
    match t.run, t.gate with
    | .stopped, _ => { t with atLimit := true }
    | .running, .stopPending => { t with expiryPending := true }
    | .running, _ => t
  else { t with atLimit := false, expiryPending := false }

/-- CLOCK_ADJUST takes effect (R35). The countdown conditions are judged on the adjusted clock while it is RUNNING; where it
expires, what they ask for is sent after the expiry's run change (R31). No release falls together with an expiry: a countdown
stands only in DOWN, where V at the limit is 0. Where, in UP with run-on, it crosses P and reaches the ceiling too, the
REGULATION of R33 with its horn comes before the CEILING expiry (DESIGN CHOICE, log 17). -/
def State.adjustClock (delta : Int) (s : State) : State :=
  let s := ((s.mapTiming (Timing.adjust delta)).releaseCountdown.renewCountdown).checkRegulation
  let s := if s.timing.isAtLimit ∧ s.timing.run = .running ∧ s.timing.gate = .steady then s.expire s.countdownDue
    else s.checkCountdown
  s.sendClock .adjust

/-- The reset at NEXT_PERIOD and GAME_OPEN (R36). -/
def State.resetClocks (s : State) : State :=
  (s.mapTiming fun t =>
    { t with
      v := clockStartValue t.rules
      atLimit := false
      expiryPending := false
      regulation := false
      play := t.rules.playPrimary * 1000 }).releaseLevelOne .idle

/-! ## The time base (R21, R23) -/

/-- The counted ms of one step and the accumulator it leaves (R21). -/
def trimStep (trim : Int) (acc : Nat) : Nat × Nat :=
  if 1000000 ≤ acc + trim.natAbs then (if 0 < trim then 2 else 0, acc + trim.natAbs - 1000000)
  else (1, acc + trim.natAbs)

/-- The game clock counts `c` ms (R23, R27); `own` is false on a follower, whose mirrored window counts nothing off
(R79). -/
def Timing.countClock (c : Nat) (own : Bool) (t : Timing) : Timing :=
  if t.run = .running ∧ t.isAtLimit = false then
    let v := countToward t.rules t.v c
    { t with
      v := v
      counted := if t.gate = .stopPending ∧ own = true then t.counted + distance t.v v else t.counted
      expiryPending := t.expiryPending || (t.gate == .stopPending && v == clockLimit t.rules) }
  else t

/-- The play clock counts `c` ms (R38); `blanked` is judged just before the step (R39). -/
def Timing.countPlay (c : Nat) (own blanked runs : Bool) (t : Timing) : Timing :=
  if runs then
    { t with
      play := t.play - c
      playCounted := if t.gate = .stopPending ∧ own = true then t.playCounted + min t.play c else t.playCounted
      playPending := t.playPending || (t.gate == .stopPending && decide (t.play ≤ c))
      playZeroBlanked := if t.gate = .stopPending ∧ t.play ≤ c then blanked else t.playZeroBlanked }
  else t

/-- The break timer, the horns and the window count `c` ms (R25, R42, R44). -/
def Timing.countRest (c : Nat) (own : Bool) (t : Timing) : Timing :=
  { t with
    brkValue := if t.brkRunning then t.brkValue - c else t.brkValue
    gameHorn := t.gameHorn.map (· - c)
    playHorn := t.playHorn.map (· - c)
    window := if t.gate ≠ .steady ∧ own = true then t.window + c else t.window }

/-- The timing unit after one step, but for what the step makes due. -/
def Timing.step (own : Bool) (t : Timing) : Timing :=
  let (c, acc) := trimStep t.trim t.trimAcc
  { ((t.countClock c own).countPlay c own t.blanked t.playRuns).countRest c own with trimAcc := acc }

/-- The twin timers after one step (R21). -/
def Twin.step (c : Nat) (w : Twin) : Twin :=
  { w with
    helloTimer := w.helloTimer.map (· - c)
    heartbeatTimer := w.heartbeatTimer.map (· - c)
    clockTimer := w.clockTimer.map (· - c)
    lossTimer := w.lossTimer.map (· - c) }

/-- The game clock reaches its limit by this step with the gate STEADY (R32). -/
def Timing.expires (before after : Timing) : Bool :=
  before.run == .running && before.gate == .steady && !before.isAtLimit && after.isAtLimit

/-- The play clock reaches 0 by this step with the gate STEADY (R39). -/
def Timing.playExpires (before after : Timing) : Bool :=
  before.playRuns && before.gate == .steady && after.play == 0

/-- The window of the gate given has reached D (R26, R27). -/
def Timing.confirms (gate : Gate) (own : Bool) (t : Timing) : Bool :=
  own && t.gate == gate && t.rules.debounce ≤ t.window

/-- A step brings a RUNNING clock a confirmed stop or an expiry, which is made due. -/
def Timing.stops (before after : Timing) (own : Bool) : Bool :=
  after.confirms .stopPending own || before.expires after

/-- What a step of the timing unit makes due. The spec orders none of these events against another: that a confirmation
comes before a game clock expiry, then the play expiry, then the break expiry, then the ends of the horns is the model's
(DESIGN CHOICE, log 2). -/
def Timing.dueAfter (before after : Timing) (own : Bool) : List DueEvent :=
  (if after.confirms .startPending own then [.startConfirm] else []) ++
    (if after.confirms .stopPending own then [.stopConfirm] else []) ++
    (if before.expires after then [.gameExpiry] else []) ++
    (if before.playExpires after then [.playExpiry before.blanked] else []) ++
    (if after.brkRunning && after.brkValue == 0 then [.breakExpiry] else []) ++
    (if after.gameHorn == some 0 then [.hornEnd .game] else []) ++
    (if after.playHorn == some 0 then [.hornEnd .play] else [])

/-- What a step makes due in the twin unit. -/
def Twin.dueAfter (w : Twin) : List DueEvent :=
  (if w.helloTimer == some 0 then [.helloTimer] else []) ++
    (if w.heartbeatTimer == some 0 then [.heartbeatTimer] else []) ++
    (if w.clockTimer == some 0 then [.clockTimer] else []) ++
    (if w.lossTimer == some 0 then [.lossTimer] else [])

/-- One step of the time base (R21, R23): the counts, the crossings that act within the step, and what becomes due. The
countdown conditions are checked within the step, but where it brings a confirmed stop or an expiry they are judged when that
is carried out, on the same counted clock, so that what they ask for is sent after the run change (R31). -/
def State.timeStep (s : State) : State :=
  let own := s.twin.state != .follower
  let t := s.timing.step own
  let w := s.twin.step (trimStep s.timing.trim s.timing.trimAcc).1
  let s' := { s with timing := t, twin := w }.checkRegulation
  let s' := if s.timing.stops t own then s' else s'.checkCountdown
  { s' with due := s'.due ++ s.timing.dueAfter t own ++ w.dueAfter }

end Sys2Proof.Machine
end

