-- ==== Sys2Proof/Machine/Record.lean ====
section
/-! DEFINITION. The game record unit (Chapter 3): what each accepted record changes, whether a table partner sent it or a
twin master's EVENT mirrors it (R67). Each operation ends by handing the change to the twin unit. -/

namespace Sys2Proof.Machine

/-! ## Teams and fields -/

def teamOf (g : RecordFields) : Team → TeamRec
  | .home => g.home
  | .guest => g.guest

def setTeam (team : Team) (r : TeamRec) (g : RecordFields) : RecordFields :=
  match team with
  | .home => { g with home := r }
  | .guest => { g with guest := r }

/-- The fields of a TEAM_SET after clamping (R56). -/
def clampFields (f : TeamFields) : TeamFields :=
  { f with timeouts := f.timeouts.map (min 9), fouls := f.fouls.map (min 99) }

/-- A team record with the fields present applied (R56). -/
def applyFields (f : TeamFields) (t : TeamRec) : TeamRec :=
  { t with
    name := f.name.getD t.name
    timeouts := f.timeouts.getD t.timeouts
    fouls := f.fouls.getD t.fouls }

/-- A team record cleared for a new game: the name is kept (step 1 of R54). -/
def newGameTeam (t : TeamRec) : TeamRec := ⟨t.name, 0, 0, 0⟩

/-- The record after steps 1 to 4 of R54. -/
def newGameRecord (g : RecordFields) : RecordFields :=
  { g with
    home := newGameTeam g.home
    guest := newGameTeam g.guest
    possession := .none
    fields := g.fields.map fun f => { f with value := 0 }
    log := []
    nextSeq := 1
    period := 1 }

/-! ## Score log and score events (R59, R63) -/

/-- An entry joins the tail of the log; at 32 entries the head is removed (R59). -/
def appendLog (e : LogEntry) (log : List LogEntry) : List LogEntry :=
  if 32 ≤ log.length then log.tail ++ [e] else log ++ [e]

/-- A score event for a team is requested in every score-event zone, replacing (R63). -/
def State.requestScoreEvent (team : Team) (s : State) : State :=
  let c := s.record.game.config
  match match team with
    | .home => c.homeAsset
    | .guest => c.guestAsset with
  | none => s
  | some asset =>
    let credit := c.sponsor.filter s.sponsorDefined
    let (s, out) := s.requestAll ⟨2, .asset asset, some (s.toFrames c.duration), credit⟩ true s.scoreEventZones
    s.mapRecord fun r => { r with outstanding := ascending8 (r.outstanding ++ out) }

/-- The points a SCORE_ADD applies: the score saturates at 999 (R60). -/
def appliedPoints (points score : Nat) : Nat := min points (999 - score)

/-- A SCORE_ADD takes effect, its entry taking the seq given (R60, R80). An EVENT names no V, so a mirrored entry's V at
acceptance is the follower's own V when it applies the EVENT (DESIGN CHOICE, log 13). -/
def State.addScore (team : Team) (points seq : Nat) (s : State) : State :=
  let g := s.record.game
  let t := teamOf g team
  let d := appliedPoints points t.score
  let score := t.score + d
  let s := (s.mapGame fun g =>
    { setTeam team { t with score := score } g with
      log := appendLog ⟨seq, .add false, team, d, score, g.period, s.timing.v⟩ g.log
      nextSeq := nextNumber seq }).raise .scoreChanged (.scoreChanged seq team d score g.period)
  (if 0 < d then s.requestScoreEvent team else s).sendEvent (.scoreAdd team d) seq

/-- The entry a SCORE_REVISE names (R61). -/
def findEntry (seq : Nat) (log : List LogEntry) : Option LogEntry := log.find? (·.seq == seq)

/-- The revised flag of an ADD entry is set (R61). -/
def markRevised (seq : Nat) (log : List LogEntry) : List LogEntry :=
  log.map fun e => if e.seq = seq then { e with kind := .add true } else e

/-- A SCORE_REVISE of an ADD entry takes effect, its entry taking the seq given (R61, R80). A mirrored entry's V at
acceptance is the follower's own V, as in `State.addScore` (DESIGN CHOICE, log 13). -/
def State.reviseScore (orig : LogEntry) (seq : Nat) (s : State) : State :=
  let g := s.record.game
  let t := teamOf g orig.team
  let d := min t.score orig.delta.toNat
  let score := t.score - d
  ((s.mapGame fun g =>
    { setTeam orig.team { t with score := score } g with
      log := appendLog ⟨seq, .revise orig.seq, orig.team, -(d : Int), score, g.period, s.timing.v⟩
        (markRevised orig.seq g.log)
      nextSeq := nextNumber seq }).raise .scoreCorrected (.scoreCorrected seq orig.seq orig.team (-(d : Int)) score)).sendEvent
        (.scoreRevise orig.seq) seq

/-! ## Session (R51, R53 to R55) -/

/-- SESSION_CHANGED (R51). -/
def State.raiseSession (before : Session) (cause : SessionCause) (s : State) : State :=
  s.raise .sessionChanged (.sessionChanged before s.record.game.session cause s.record.game.period)

/-- Hands a change of the record to the twin unit with the next seq after it (R67, R80). -/
def State.handChange (c : Change) (s : State) : State := s.sendEvent c s.record.game.nextSeq

/-- GAME_FINAL takes effect (R53); an own open window is abandoned (R29). -/
def State.finalGame (cause : SessionCause) (s : State) : State :=
  let s' := ((s.mapGame fun g => { g with session := .final }).raiseSession s.record.game.session cause).handChange .gameFinal
  if s.twin.state = .follower then s' else s'.closeWindow

/-- GAME_OPEN takes effect (R54). Its releases of level 1 (step 5) are one event of ends, with their evaluations, and those of
level 2 (step 6) another (DESIGN CHOICE, log 20). -/
def State.openGame (cause : SessionCause) (s : State) : State :=
  let s' := (s.mapGame newGameRecord).resetClocks
  let s' := s'.endAll .released (s'.record.outstanding.map fun z => (z, 2))
  let s' := s'.clearExposure.mapGame fun g => { g with session := .setup }
  let s' := s'.raiseSession s.record.game.session cause
  let s' := if s.record.game.session = .final then s'.sampleLine else s'
  (s'.handChange .gameOpen).sendClock .reset

/-- NEXT_PERIOD takes effect (R55). -/
def State.advancePeriod (cause : SessionCause) (s : State) : State :=
  let s' := (s.mapGame fun g => { g with period := g.period + 1 }).resetClocks
  let s' := s'.mapGame fun g =>
    { g with
      home := { g.home with fouls := 0 }
      guest := { g.guest with fouls := 0 }
      fields := g.fields.map fun f => if f.defn.perPeriod then { f with value := 0 } else f }
  ((s'.raiseSession s.record.game.session cause).handChange .nextPeriod).sendClock .reset

/-! ## The other records (R56 to R58, R62) -/

/-- TEAM_SET takes effect; possession is applied whichever team is named (R56). -/
def State.applyTeam (team : Team) (fields : TeamFields) (s : State) : State :=
  let f := clampFields fields
  (s.mapGame fun g =>
    { setTeam team (applyFields f (teamOf g team)) g with possession := f.possession.getD g.possession }).handChange
      (.teamSet team f)

/-- FIELD_DEFINE takes effect (R57). -/
def State.applyDefs (defs : List FieldDef) (s : State) : State :=
  (s.mapGame fun g => { g with fields := defs.map fun d => ⟨d, 0⟩ }).handChange (.fieldDefine defs)

/-- The value FIELD_SET puts into a field: clamped to its maximum (R58); 0 where the field is not defined. -/
def fieldClamped (index value : Nat) (g : RecordFields) : Nat :=
  match g.fields[index]? with
  | some f => min value f.defn.maximum
  | none => 0

/-- FIELD_SET takes effect (R58). -/
def State.applyField (index value : Nat) (s : State) : State :=
  let v := fieldClamped index value s.record.game
  (s.mapGame fun g =>
    { g with fields := g.fields.modify index fun f => { f with value := v } }).handChange (.fieldSet index v)

/-- RECORD_CONFIG takes effect (R62). -/
def State.applyConfig (config : RecordConfig) (s : State) : State :=
  (s.mapGame fun g => { g with config := config }).handChange (.recordConfig config)

end Sys2Proof.Machine
end

