-- ==== Sys2Proof/Machine/TwinUnit.lean ====
section
/-! DEFINITION. The twin unit (Chapter 4): its states and timers, the resolution of roles, loss, and what a follower takes
from its master's records. -/

namespace Sys2Proof.Machine

/-! ## States and timers (R71, R75, R77) -/

/-- The HELLO timer runs (R71). -/
def helloRuns (role : TwinRole) : TwinState → Bool
  | .solo => role != .off
  | .resolving => true
  | .master => false
  | .follower => false
  | .orphan => true
  | .fault => true

/-- The loss timer runs (R75). -/
def lossRuns : TwinState → Bool
  | .solo => false
  | .resolving => true
  | .master => true
  | .follower => true
  | .orphan => false
  | .fault => true

/-- A timer on entry to a state: kept where it runs already, started where it does not, stopped where it is not to run. R75 has
the HELLO timer start at a loss, and does not say whether it starts over where it runs already, in a part that loses its peer
in RESOLVING or FAULT; nor does R71 at the other changes between two states in which it runs, or R75 of the loss timer. The
model keeps the running timer with the ms it has left, at a loss as at every other change (DESIGN CHOICE, log 13). -/
def timerOn (runs : Bool) (ms : Nat) (timer : Option Nat) : Option Nat :=
  if runs then some (timer.getD ms) else none

/-- The twin unit in a new state: its timers change over (R71, R75, R77), a pending decision goes, the origin of RESOLVING
is recorded (R71), and the numbering of a new master starts afresh (R80). The parts of a STATE received so far stay, and its
next part goes on from them, which R69 leaves open; and the records that wait in `out` stay and are sent in the new state,
though R77 gives that state no such record, since the spec does not say what becomes of them (DESIGN CHOICE, log 8). -/
def Twin.enter (new : TwinState) (reason : FaultReason) (t : Twin) : Twin :=
  { t with
    state := new
    reason := reason
    decidedFollower := false
    fromFollower :=
      if new = .resolving ∧ t.state ≠ .resolving then t.state == .follower || t.state == .orphan else t.fromFollower
    helloTimer := timerOn (helloRuns t.role new) 250 t.helloTimer
    lossTimer := timerOn (lossRuns new) 1000 t.lossTimer
    heartbeatTimer := timerOn (new == .follower) 250 t.heartbeatTimer
    clockTimer := timerOn (new == .master) 250 t.clockTimer
    eventNo := if new = .master then 65535 else t.eventNo
    resync := new == .follower && t.resync }

/-- A change of twin state: TWIN_STATE is raised once it has taken effect (R82), and a part that leaves FOLLOWER abandons
its mirrored window and samples the RUN line (R70, R76, R81), which raises what was pending after TWIN_STATE (DESIGN CHOICE,
log 18). -/
def State.enterTwin (new : TwinState) (cause : TwinCause) (reason : FaultReason) (s : State) : State :=
  let old := s.twin.state
  let s := s.mapTwin (Twin.enter new reason)
  if old = new then s
  else
    let s := s.raise .twinState (.twinState old new cause s.twin.lastRole reason)
    if old = .follower then s.closeWindow.sampleLine else s

/-! ## Resolution (R72 to R74) -/

/-- What a part decides (R72). -/
inductive Decision where
  | master | follower
  | fault (reason : FaultReason)
  deriving DecidableEq, Repr

/-- The role a manual configuration takes. -/
def manualRole : TwinRole → Option Decision
  | .manualMaster => some .master
  | .manualFollower => some .follower
  | _ => none

/-- The opposite role. -/
def Decision.opposite : Decision → Decision
  | .master => .follower
  | .follower => .master
  | .fault r => .fault r

/-- Step 3 of R72, by last roles alone: MASTER on exactly one side; and FOLLOWER against NONE, where R76 and section 4.7 have
step 3 decide for the former follower, whose game state is kept (DEDUCED, log 22). -/
def decideLast (last peer : LastRole) : Option Decision :=
  match last, peer with
  | .master, .follower => some .master
  | .master, .none => some .master
  | .follower, .master => some .follower
  | .none, .master => some .follower
  | .follower, .none => some .master
  | .none, .follower => some .follower
  | .master, .master => none
  | .follower, .follower => none
  | .none, .none => none

/-- Steps 4 to 6 of R72. -/
def decidePreference (role : TwinRole) (token : Nat) (peer : Hello) : Decision :=
  if role = .autoPreferMaster ∧ peer.role = .autoPreferFollower then .master
  else if role = .autoPreferFollower ∧ peer.role = .autoPreferMaster then .follower
  else if peer.token < token then .master
  else if token < peer.token then .follower
  else .fault .equalTokens

/-- Steps 3 to 6 of R72. -/
def decideAuto (role : TwinRole) (token : Nat) (last : LastRole) (peer : Hello) : Decision :=
  (decideLast last peer.lastRole).getD (decidePreference role token peer)

/-- A part decides its role (R72). -/
def decide72 (role : TwinRole) (token : Nat) (last : LastRole) (peer : Hello) : Decision :=
  match manualRole role, manualRole peer.role with
  | some d, some e => if d = e then .fault .bothManual else d
  | some d, none => d
  | none, some e => e.opposite
  | none, none => decideAuto role token last peer

/-- The decision from the part's own fields as they stand. -/
def Twin.decide (t : Twin) (peer : Hello) : Decision := decide72 t.role t.token t.lastRole peer

/-- The effect of a decision in RESOLVING (R73). -/
def State.applyDecision (d : Decision) (s : State) : State :=
  match d with
  | .master =>
    (((s.mapTwin fun t => { t with lastRole := .master }).enterTwin .master .resolved .none).sendHello).sendState
  | .follower => s.mapTwin fun t => { t with decidedFollower := true }
  | .fault r => s.enterTwin .fault .resolved r

/-- The part enters RESOLVING, sends a HELLO at once and decides (R71, R74). -/
def State.resolveAfresh (h : Hello) (s : State) : State :=
  let s := (s.enterTwin .resolving .hello .none).sendHello
  s.applyDecision (s.twin.decide h)

/-- Role configuration and token equal the previous peer HELLO's (R74). -/
def sameIdentity (h : Hello) : Option Hello → Bool
  | some p => h.role == p.role && h.token == p.token
  | none => false

/-- A good twin record restarts the loss timer where it runs (R69, R75). -/
def Twin.heard (t : Twin) : Twin := { t with lossTimer := t.lossTimer.map fun _ => 1000 }

/-- A HELLO is received (R71, R73, R74). -/
def State.takeHello (h : Hello) (s : State) : State :=
  let before := s.twin.peer
  let s := s.mapTwin fun t => { t.heard with peer := some h }
  match s.twin.state with
  | .solo => s.resolveAfresh h
  | .orphan => s.resolveAfresh h
  | .resolving => s.applyDecision (s.twin.decide h)
  | .master =>
    match s.twin.decide h with
    | .master => s.sendHello.sendState
    | d => (s.enterTwin .resolving .hello .none).applyDecision d
  | .follower => if h.state = .master ∧ sameIdentity h before = true then s else s.resolveAfresh h
  | .fault => if sameIdentity h before then s else s.resolveAfresh h

/-- A record that shows both parts in one role: the part resolves afresh with cause CONFLICT (R74). -/
def State.conflict (s : State) : State := (s.enterTwin .resolving .conflict .none).sendHello

/-! ## What a follower takes (R78, R79) -/

/-- A value counted down by the compensation, but only as far as 1 (R78). -/
def compDown (k v : Nat) : Nat := if v ≤ 1 then v else max 1 (v - k)

/-- V with the compensation counted off toward the limit, but only as far as 1 ms short of it (R78). -/
def compClock (r : ClockRules) (k v : Nat) : Nat :=
  match r.direction with
  | .down => compDown k v
  | .up => if clockLimit r ≤ v + 1 then v else min (clockLimit r - 1) (v + k)

/-- Received clock fields with the compensation applied, which is only while they show RUNNING (R78, R79). -/
def compensated (r : ClockRules) (k : Nat) (c : ClockFields) : ClockFields :=
  if c.run = .running then
    { c with
      v := compClock r k c.v
      play := if c.playEnabled then compDown k c.play else c.play
      brkValue := if c.brkRunning then compDown k c.brkValue else c.brkValue }
  else c

/-- The mirrored gate: no window counts, and nothing is counted off (R79). -/
def Timing.mirrorGate (g : Gate) (t : Timing) : Timing := { t.gateSteady with gate := g }

/-- The mirrored game clock but for its run state; off the limit its flags are clear (R79). No record sets the expiry-pending
flag, which none carries (Table 4-2): where one shows RUNNING and STOP_PENDING with V already at the limit, on whose master an
expiry is pending, the part keeps a flag of its own and otherwise has none, which R79 leaves open (DESIGN CHOICE, log 18). -/
def Timing.mirrorClock (c : ClockFields) (t : Timing) : Timing :=
  let off := c.v != clockLimit t.rules
  { t with
    v := c.v
    atLimit := c.atLimit && !off
    expiryPending := t.expiryPending && !off
    regulation := c.regulation }

/-- The mirrored play clock; a value above 0 has no play expiry pending (log 13). With the value at 0 the flag stays as it is,
whatever gate is mirrored, until a stop clears it or a window that closes declares it; and no record sets it (DESIGN CHOICE,
log 18). -/
def Timing.mirrorPlay (c : ClockFields) (t : Timing) : Timing :=
  { t with play := c.play, playEnabled := c.playEnabled, playPending := t.playPending && c.play == 0 }

/-- The mirrored break timer. -/
def Timing.mirrorBreak (c : ClockFields) (t : Timing) : Timing :=
  { t with brkRunning := c.brkRunning, brkValue := c.brkValue, brkLength := c.brkLength, brkHorn := c.brkHorn }

/-- The mirrored run state; at a stop nothing stays pending (R79). -/
def Timing.mirrorRun (run : RunState) (t : Timing) : Timing :=
  match run with
  | .running => { t with run := .running }
  | .stopped => { t with run := .stopped, expiryPending := false, playPending := false }

/-- The timing unit after it has taken a STATE's fields (R78). -/
def Timing.adopt (rules : ClockRules) (c : ClockFields) (t : Timing) : Timing :=
  (((({ t with rules := rules }.mirrorGate c.gate).mirrorClock c).mirrorPlay c).mirrorBreak c).mirrorRun c.run

/-- The rotation unit is told of a break that an adopted STATE starts or ends (R78). -/
def State.adoptBreak (before : Bool) (s : State) : State :=
  match before, s.timing.brkRunning with
  | false, true => s.featureBreakStart (s.timing.brkLength / 1000)
  | true, false => s.featureBreakCancel
  | _, _ => s

/-- A STATE's values taken as one operation, with their effects in order (R78). -/
def State.adoptValues (r : StateRecord) (s : State) : State :=
  let c := compensated r.rules s.twin.compensation r.clock
  let t := s.timing
  let s' := { s with
    timing := t.adopt r.rules c
    record := { s.record with game := r.game }
    twin := { s.twin with eventNo := r.eventNo, resync := false } }
  let s' := if c.run = t.run then s' else s'.handOn .mirror 0
  let s' := s'.adoptBreak t.brkRunning
  let s' := (s'.releaseLevelOne .idle).checkCountdown
  s'.raiseSession s.record.game.session .mirror

/-- The first adoption in RESOLVING: an own open window is abandoned, the last role becomes FOLLOWER and the part enters
FOLLOWER (R29, R73). -/
def State.becomeFollower (s : State) : State :=
  (s.closeWindow.mapTwin fun t => { t with lastRole := .follower }).enterTwin .follower .stateAdopted .none

/-- A whole STATE is received (R71, R73, R74, R78). At a first adoption FOLLOWER is entered, with its TWIN_STATE, before the
values are adopted (DESIGN CHOICE, log 18). -/
def State.takeState (r : StateRecord) (s : State) : State :=
  match s.twin.state with
  | .solo => s.sendHello
  | .orphan => s.sendHello
  | .resolving => if s.twin.decidedFollower then s.becomeFollower.adoptValues r else s
  | .master => s.conflict
  | .follower => s.adoptValues r
  | .fault => s

/-- A STATE frame joins the STATE being assembled (R69); true with its last part in order. Parts are numbered from 1
(log 8). -/
def nextPart (part parts : Nat) (held : Option (Nat × Nat)) : Option (Nat × Nat) × Bool :=
  if part = 1 then (if parts = 1 then (none, true) else (some (1, parts), false))
  else if held = some (part - 1, parts) then (if part = parts then (none, true) else (some (part, parts), false))
  else (none, false)

/-- Does a PERIODIC record leave the follower's game clock, play clock or break timer as it is (R79)? -/
def Timing.keepsClock (cause : ClockCause) (t : Timing) : Bool :=
  cause == .periodic && t.run == .stopped && t.isAtLimit && t.atLimit
def Timing.keepsPlay (cause : ClockCause) (t : Timing) : Bool := cause == .periodic && t.play == 0
def Timing.keepsBreak (cause : ClockCause) (t : Timing) : Bool := cause == .periodic && !t.brkRunning

/-- The causes under which a master's V can move above the countdown threshold (R46, log 12). -/
def movesClock : ClockCause → Bool
  | .set => true
  | .adjust => true
  | .reset => true
  | .run => true
  | _ => false

/-- The run state of a CLOCK is compared with the follower's (the table of R79). An expiry that a record declares brings no
countdown request: the conditions are tested once the record is applied, on a clock then STOPPED (DESIGN CHOICE, log 12). -/
def State.mirrorRunChange (c : ClockFields) (s : State) : State :=
  match c.run, s.timing.run with
  | .running, .stopped =>
    (((s.mapTiming (Timing.mirrorRun .running)).handOn .mirror 0).checkRegulation).checkCountdown
  | .stopped, .running =>
    if s.timing.isAtLimit ∧ c.atLimit = true then s.expire false
    else (s.mapTiming (Timing.mirrorRun .stopped)).handOn .mirror 0
  | _, _ => s

/-- The break timer of a CLOCK (R79; other causes, log 12). -/
def State.mirrorBreakChange (cause : ClockCause) (c : ClockFields) (s : State) : State :=
  match cause with
  | .breakStart =>
    if c.brkRunning then (s.mapTiming (Timing.mirrorBreak c)).featureBreakStart (c.brkLength / 1000) else s
  | .breakCancel =>
    if !c.brkRunning && s.timing.brkRunning then
      (s.mapTiming fun t => { t with brkRunning := false, brkValue := 0 }).featureBreakCancel
    else s
  | .breakEnd => if s.timing.brkRunning then s.breakExpire else s
  | _ => if s.timing.keepsBreak cause then s else s.mapTiming (Timing.mirrorBreak c)

/-- The countdown phase after a CLOCK: a set or an adjustment renews it, and a value above the threshold releases it (R46, R47).
The countdown conditions are then tested at a CLOCK of every cause, PERIODIC, GATE and PLAY among them, on the values applied,
where R45 names the steps, the confirmed starts and CLOCK_ADJUST alone, and R79 says nothing of a test (DESIGN CHOICE,
log 12). -/
def State.mirrorCountdown (cause : ClockCause) (s : State) : State :=
  let s := if movesClock cause then s.releaseCountdown else s
  let s := if cause = .set ∨ cause = .adjust then s.renewCountdown else s
  s.checkCountdown

/-- A follower applies a CLOCK (R79). A PERIODIC record that leaves an expired game clock as it is still mirrors the gate
(DESIGN CHOICE, log 18). -/
def State.applyClock (r : ClockRecord) (s : State) : State :=
  let c := compensated s.timing.rules s.twin.compensation r.clock
  let t := s.timing
  let keep := t.keepsClock r.cause
  let s := s.mapTiming fun t =>
    let t := t.mirrorGate c.gate
    let t := if keep then t else t.mirrorClock c
    if t.keepsPlay r.cause then t else t.mirrorPlay c
  let s := if keep then s else s.mirrorRunChange c
  (s.mirrorBreakChange r.cause c).mirrorCountdown r.cause

/-- A CLOCK is received (R71, R73, R74, R79). -/
def State.takeClock (r : ClockRecord) (s : State) : State :=
  match s.twin.state with
  | .solo => s.sendHello
  | .orphan => s.sendHello
  | .resolving => s
  | .master => s.conflict
  | .follower => s.applyClock r
  | .fault => s

/-! ## Events and heartbeats (R67, R80) -/

/-- The change of an EVENT is made as the master made it, without the refusal tests (R67, R80). -/
def State.applyChange (c : Change) (logSeq : Nat) (s : State) : State :=
  match c with
  | .scoreAdd team points => s.addScore team points logSeq
  | .scoreRevise seq =>
    match findEntry seq s.record.game.log with
    | some e => s.reviseScore e logSeq
    | none => s.mapGame fun g => { g with nextSeq := nextNumber logSeq }
  | .gameOpen => (s.openGame .mirror).mapGame fun g => { g with nextSeq := logSeq }
  | .gameFinal => (s.finalGame .mirror).mapGame fun g => { g with nextSeq := logSeq }
  | .nextPeriod => (s.advancePeriod .mirror).mapGame fun g => { g with nextSeq := logSeq }
  | .teamSet team f => (s.applyTeam team f).mapGame fun g => { g with nextSeq := logSeq }
  | .fieldDefine defs => (s.applyDefs defs).mapGame fun g => { g with nextSeq := logSeq }
  | .fieldSet index value => (s.applyField index value).mapGame fun g => { g with nextSeq := logSeq }
  | .recordConfig config => (s.applyConfig config).mapGame fun g => { g with nextSeq := logSeq }

/-- A follower takes an EVENT (R80). -/
def State.followEvent (r : EventRecord) (s : State) : State :=
  if s.twin.resync then s
  else if r.number = (s.twin.eventNo + 1) % 65536 then
    (s.applyChange r.change r.logSeq).mapTwin fun t => { t with eventNo := r.number }
  else (s.mapTwin fun t => { t with resync := true }).sendHeartbeat

/-- An EVENT is received (R71, R73, R74, R80). -/
def State.takeEvent (r : EventRecord) (s : State) : State :=
  match s.twin.state with
  | .solo => s.sendHello
  | .orphan => s.sendHello
  | .resolving => s
  | .master => s.conflict
  | .follower => s.followEvent r
  | .fault => s

/-- A HEARTBEAT is received (R71, R73, R74, R80). -/
def State.takeHeartbeat (resync : Bool) (s : State) : State :=
  match s.twin.state with
  | .solo => s.sendHello
  | .orphan => s.sendHello
  | .resolving => s
  | .master => if resync then s.sendState else s
  | .follower => s.conflict
  | .fault => s

/-- A good twin frame is received: a part with configuration OFF discards it (R70); any other restarts its loss timer and
handles the record. -/
def State.hearTwin (f : State → State) (s : State) : State :=
  if s.twin.role = .off then s else f (s.mapTwin Twin.heard)

/-- A twin frame is discarded: the count goes up, saturating (R69). -/
def Twin.badFrame (t : Twin) : Twin := { t with framingErrors := satInc 65535 t.framingErrors }
def State.twinBadFrame (s : State) : State := s.mapTwin Twin.badFrame

/-- The twin receiver takes one byte (R69, R3, R4). A whole frame with a right CHECK and a known KIND is a record received,
which is a command of its own (log 8), whatever its TAG: R69 sends TAG 0 and does not say what a frame with another TAG is, and
the model's receiver ignores the TAG and counts no error for it (DESIGN CHOICE, log 8). -/
def Twin.receiveByte (t : Twin) (b : Byte) : Twin :=
  let r := t.rx.take b
  let t := { t with rx := r.1 }
  match r.2 with
  | .quiet => t
  | .oversized => t.badFrame
  | .whole len tag kind got => if checkOk len tag kind got && within 0x01 0x05 kind then t else t.badFrame

/-- The twin receiver takes the characters in their order. -/
def Twin.receive (chars : List LineChar) (t : Twin) : Twin := (keptBytes chars).foldl Twin.receiveByte t

/-- The twin receiver's silence limit passes (R69, R3): in HEADER or BODY the incomplete frame is a bad frame. -/
def Twin.silence (t : Twin) : Twin :=
  match t.rx with
  | .hunt => t
  | _ => { t.badFrame with rx := .hunt }

/-! ## Timers (R71, R75, R77) and configuration (R70) -/

/-- The state a loss leads to (the table of R75). -/
def Twin.lossState (t : Twin) : TwinState :=
  match t.state with
  | .follower => .orphan
  | .resolving => if t.fromFollower then .orphan else .solo
  | _ => .solo

/-- The loss timer expires (R75, R76). -/
def State.lossExpire (s : State) : State := s.enterTwin s.twin.lossState .loss .none

/-- The HELLO timer expires (R71). -/
def State.helloExpire (s : State) : State := (s.mapTwin fun t => { t with helloTimer := some 250 }).sendHello

/-- The heartbeat timer expires (R77). -/
def State.heartbeatExpire (s : State) : State :=
  (s.mapTwin fun t => { t with heartbeatTimer := some 250 }).sendHeartbeat

/-- The part stops sending twin records (R70): what waits for the transmitter is discarded, the frames of a record begun
among it (DESIGN CHOICE, log 8). -/
def Twin.stopSending (t : Twin) : Twin := { t with out := [], outSent := 0 }

/-- What a changed role configuration or token does (the table of R70). -/
def State.reconfigure (old : TwinRole) (s : State) : State :=
  if s.twin.role = .off then (if old = .off then s else (s.enterTwin .solo .config .none).mapTwin Twin.stopSending)
  else if old = .off then (s.enterTwin .solo .config .none).sendHello
  else
    match s.twin.state with
    | .solo => s.sendHello
    | .orphan => s.sendHello
    | _ => (s.enterTwin .resolving .config .none).sendHello

/-- TWIN_CONFIG takes effect (R70). The parts of a STATE received so far stay through every change, OFF among them, which R69
leaves open (DESIGN CHOICE, log 8). -/
def State.configureTwin (role : TwinRole) (token compensation : Nat) (s : State) : State :=
  let old := s.twin
  let s := s.mapTwin fun t => { t with role := role, token := token, compensation := compensation }
  if role = old.role ∧ token = old.token then s else s.reconfigure old.role

end Sys2Proof.Machine
end

