-- ==== Sys2Proof/Machine/Frame.lean ====
section
/-! DEFINITION. The output frame event (Chapter 5): the application of an awaiting configuration or layout, the composition
of the frame and its visibility record, and the per-frame work of the other units; and the frames of the camera inputs with
their rings (Chapters 5 and 7). -/

namespace Sys2Proof.Machine

/-! ## Applying a layout (R90, R123) -/

/-- An empty arbitration state (Table 6-2). -/
def ZoneArb.empty : ZoneArb := ⟨[], [], [], [], 1⟩

def findSpec (specs : List ZoneSpec) (id : Nat) : Option ZoneSpec := specs.find? (·.id == id)

/-- The old zone is kept by the new list: the same id with the same role (R90). -/
def Zone.keptBy (specs : List ZoneSpec) (z : Zone) : Bool :=
  match findSpec specs z.spec.id with
  | some n => n.role == z.spec.role
  | none => false

/-- A zone of the new layout, matched with the old one of its id (R90, R92). -/
def matchZone (old : List Zone) (n : ZoneSpec) : Zone :=
  match old.find? (fun z => z.spec.id == n.id && z.spec.role == n.role) with
  | some z => ⟨n, z.arb, if z.spec.base = n.base then z.basePos else 0⟩
  | none => ⟨n, .empty, 0⟩

/-- The ids of the new layout's zones that gain an attribute, or are added with it (R90); an id that comes back with another
role is added (DESIGN CHOICE, log 19). -/
def gained (attr : ZoneAttrs → Bool) (old : List Zone) (specs : List ZoneSpec) : List Nat :=
  (specs.filter fun n =>
    attr n.attrs && !(old.any fun z => z.spec.id == n.id && z.spec.role == n.role && attr z.spec.attrs)).map (·.id)

/-- The ids of kept zones that lose an attribute (R90). -/
def lost (attr : ZoneAttrs → Bool) (old : List Zone) (specs : List ZoneSpec) : List Nat :=
  (specs.filter fun n =>
    !attr n.attrs && old.any fun z => z.spec.id == n.id && z.spec.role == n.role && attr z.spec.attrs).map (·.id)

/-- The old CRAWL zone is kept as the CRAWL zone: the same id and role, with the CRAWL base in both layouts (R196). -/
def crawlKept (old : List Zone) (specs : List ZoneSpec) : Bool :=
  old.any fun z => z.spec.base == .crawl && z.keptBy specs &&
    specs.any fun n => n.id == z.spec.id && n.base == .crawl

/-- The timing unit acts on the countdown attribute (the table of R46); zones gained come before zones lost (log 9). -/
def State.layoutCountdown (won gone : List Nat) (s : State) : State :=
  let s := match s.timing.phase, s.timing.rules.countdownAsset with
    | .countdown, some a =>
      let (s, out) := s.requestAll ⟨1, .asset a, none, none⟩ false won
      s.mapTiming fun t => { t with outstanding := t.outstanding ++ out }
    | _, _ => s
  (gone.filter s.timing.outstanding.contains).foldl (fun s z => s.release z 1) s

/-- The game record unit acts on the score-event attribute (R64). -/
def State.layoutScore (gone : List Nat) (s : State) : State :=
  (gone.filter s.record.outstanding.contains).foldl (fun s z => s.release z 2) s

/-- A channel acts on the replay-target attribute (R160). -/
def State.layoutReplay (ch : Channel) (gone : List Nat) (s : State) : State :=
  if (s.chan ch).onAir && gone.any fun z => (s.chan ch).headIn z then s.releaseEntry ch .zoneGone else s

/-- The zones and levels that a layout's removals end (R123). -/
def State.removedItems (specs : List ZoneSpec) (s : State) : List (Nat × Nat) :=
  s.standingItems fun z _ => !z.keptBy specs

/-- The new zones take the place of the old, and the crawl and rotation units are told (R90). -/
def State.placeZones (specs : List ZoneSpec) (s : State) : State :=
  let before := s.activePrograms
  let clears := s.crawlZone?.isSome && !crawlKept s.canvas.zones specs
  let s := s.mapCanvas fun c => { c with zones := specs.map (matchZone c.zones) }
  (if clears then s.clearStrip else s).activityChanged before

/-- The width, before the event, of the CRAWL zone that the layout awaiting it keeps (R196). -/
def State.keptWidth (s : State) : Option Nat :=
  match s.canvas.awaitingLayout with
  | some specs => if crawlKept s.canvas.zones specs then s.crawlZone?.map (·.spec.width) else none
  | none => none

/-- What the owners do in answer to what they are told, after the evaluation (R123). R123 does not order them: timing comes
first, then the record, channel A and channel B, and the first of them that releases a level requests the next feature and the
next card, where they are due, before a later owner releases; where none does, both are requested last (DESIGN CHOICE,
log 9). -/
def State.layoutOwners (old : List Zone) (specs : List ZoneSpec) (s : State) : State :=
  let s := s.layoutCountdown (gained (·.countdown) old specs) (lost (·.countdown) old specs)
  let s := s.layoutScore (lost (·.scoreEvent) old specs)
  let s := s.layoutReplay .a (lost (·.replayTarget) old specs)
  (s.layoutReplay .b (lost (·.replayTarget) old specs)).followUps

/-- A layout is applied as one operation (R90, R123). -/
def State.applyLayout (specs : List ZoneSpec) (s : State) : State :=
  let old := s.canvas.zones
  let s := (s.endEach .zoneRemoved (s.removedItems specs)).placeZones specs
  (s.evaluateAll s.zoneIds).layoutOwners old specs

/-- What awaits application is applied at the boundary (R85, R86). -/
def State.applyAwaiting (s : State) : State :=
  let s := match s.canvas.awaitingConfig with
    | some size => s.mapCanvas fun c => { c with size := size, awaitingConfig := none }
    | none => s
  match s.canvas.awaitingLayout with
  | some specs => (s.mapCanvas fun c => { c with awaitingLayout := none }).applyLayout specs
  | none => s

/-! ## Before composition: holds and overruns (R95, R157) -/

/-- A signal-loss hold counts the frame event (R95). -/
def Input.countHold (i : Input) : Input :=
  if i.loss = .holding then { i with holdFrames := i.holdFrames - 1 } else i

/-- Every hold counts, and one that has run out ends (R95, log 2). -/
def State.countHolds (s : State) : State :=
  let s := s.mapCanvas fun c => { c with inputs := c.inputs.map Input.countHold }
  [0, 1, 2, 3].foldl (fun s n =>
    s.addDueIf ((s.input n).loss == .holding && (s.input n).holdFrames == 0) (.holdEnd n)) s

/-- A zone's topmost takeover in the frame being composed: one granted during the event waits for the next (R87, R157). -/
def State.frameTop (z : Zone) (s : State) : Option InService := z.arb.topOf fun t => t.grantFrame ≤ s.canvas.frame

/-- The frame at a clip's sequence is available (R157). -/
def State.available (c : Clip) (seq : Int) (s : State) : Bool :=
  c.inStore seq || decide (((s.ring c.input).oldest : Int) ≤ seq)

/-- The channel's frame is available. -/
def State.channelReady (ch : Channel) (s : State) : Bool :=
  match (s.chan ch).cues with
  | e :: _ =>
    match s.clip? e.fields.clip with
    | some c => s.available c (s.chan ch).pos
    | none => false
  | [] => false

/-- The channel's level is its zone's topmost content in the frame being composed. -/
def State.channelTop (ch : Channel) (s : State) : Bool :=
  match (s.chan ch).cues with
  | e :: _ => ((s.zone? e.fields.zone).bind s.frameTop).any (·.level == channelLevel ch)
  | [] => false

/-- A channel that is to be shown without an available frame ends its entry OVERRUN (R157). -/
def State.testOverrun (ch : Channel) (s : State) : State :=
  if (s.chan ch).onAir && s.channelTop ch && !s.channelReady ch then s.releaseEntry ch .overrun else s

/-! ## Composition (R87, R91, R92, R99) -/

/-- The frame of an asset that an instance at a position shows (R92). -/
def Asset.frameAt (a : Asset) (pos : Nat) : Nat :=
  match a.kind with
  | .still => 0
  | .run => min pos (a.frames - 1)
  | .loop => pos % a.frames

/-- What a zone is rendered as: its picture, the slate reason where it is rendered SLATE, the program it shows, and the
asset it misses. -/
structure Rendering where
  picture : Picture
  slate : Option SlateReason
  program : Option Nat
  missing : Option Nat
  deriving DecidableEq, Repr

def Rendering.content (p : Picture) : Rendering := ⟨p, none, none, none⟩
def Rendering.slateFor (r : SlateReason) : Rendering := ⟨.slate, some r, none, none⟩

/-- An asset rendered at a position (R92, R99). -/
def State.renderAsset (id pos : Nat) (s : State) : Rendering :=
  match s.asset? id with
  | some a => if a.ready then .content (.asset id (a.frameAt pos)) else ⟨.slate, some .missingAsset, none, some id⟩
  | none => ⟨.slate, some .missingAsset, none, some id⟩

/-- A rotation program rendered (R91). -/
def State.renderProgram (p : Nat) (s : State) : Rendering :=
  match (s.program p).onAir with
  | some ⟨some e, _, _, _, pos⟩ => { s.renderAsset e.asset pos with program := some p }
  | _ => { Rendering.slateFor .noEntry with program := some p }

/-- A camera input rendered (R91, R93, R95). -/
def Input.render (n : Nat) (i : Input) : Rendering :=
  if !i.enabled then .slateFor .inputDisabled
  else
    match i.loss, i.latest, i.held with
    | .live, some f, _ => .content (.live n f)
    | .holding, _, some f => if 0 < i.holdFrames then .content (.heldFrame n f) else .slateFor .signalLost
    | _, _, _ => .slateFor .signalLost

/-- The text of a message; none where the queue does not hold it. -/
def Crawl.textOf (id : Nat) (c : Crawl) : Text :=
  match c.message? id with
  | some m => m.text
  | none => []

/-- The strip as it is drawn (section 11.3). -/
def Crawl.drawn (c : Crawl) : List (Text × Int) := c.strip.map fun i => (c.textOf i.id, i.x)

/-- The CRAWL base rendered (R91, R197). -/
def State.renderCrawl (s : State) : Rendering :=
  if s.crawl.isIdle then
    match s.crawl.config.idle with
    | some p => s.renderProgram p
    | none => .slateFor .slateBase
  else .content (.crawl s.crawl.drawn)

/-- A base source rendered (R91). -/
def State.renderBase (z : Zone) (s : State) : Rendering :=
  match z.spec.base with
  | .camera n => (s.input n).render n
  | .clock => .content (.clockText s.timing.clockText)
  | .play => .content (.playText s.timing.playText)
  | .brk => .content (.breakText s.timing.breakText)
  | .score =>
    .content (.score s.record.game.home s.record.game.guest s.record.game.possession s.record.game.fields)
  | .rotation p => s.renderProgram p
  | .crawl => s.renderCrawl
  | .slate => .slateFor .slateBase
  | .asset id => s.renderAsset id z.basePos

/-- A channel's frame rendered (R157). -/
def State.renderChannel (ch : Channel) (s : State) : Rendering :=
  match (s.chan ch).cues with
  | e :: _ =>
    match s.clip? e.fields.clip with
    | some c => .content (.clipFrame c.input (s.chan ch).pos)
    | none => .slateFor .noEntry
  | [] => .slateFor .noEntry

/-- A takeover's content rendered (R91). -/
def State.renderTakeover (t : InService) (s : State) : Rendering :=
  match t.content with
  | .asset id => s.renderAsset id t.pos
  | .channel ch => s.renderChannel ch
  | .card m => .content (.card (s.crawl.textOf m))

/-- A visibility entry of a zone from what is topmost and how it is rendered (Table 5-2). -/
def visEntry (z : Zone) (top : Option InService) (r : Rendering) : VisEntry where
  zone := z.spec.id
  top := match top with
    | some t => .level t.level
    | none => .base
  content := match top with
    | some t => .takeover t.content
    | none => .base z.spec.base
  rendered := r.slate.isNone
  reason := r.slate.getD .none
  credit := top.bind (·.credit)
  weight := z.spec.weight
  program := r.program
  missing := r.missing

/-- A zone as the frame shows it. -/
def State.renderZone (z : Zone) (s : State) : VisEntry × FrameZone :=
  let top := s.frameTop z
  let r := match top with
    | some t => s.renderTakeover t
    | none => s.renderBase z
  (visEntry z top r, ⟨z.spec.id, r.picture⟩)

/-- The frame is composed and the visibility record filled (R86, R87). -/
def State.compose (s : State) : State :=
  let shown := s.canvas.zones.map fun z => s.renderZone z
  s.mapCanvas fun c => { c with visibility := shown.map (·.1), frameOut := shown.map (·.2), surround := .slate }

/-- The rectangle of a zone covers a pixel (Table 5-4). -/
def covers (x y : Nat) (z : ZoneSpec) : Bool :=
  z.left ≤ x && x < z.left + z.width && z.top ≤ y && y < z.top + z.height

/-- What the composed frame shows at a pixel of the canvas: the picture of the zone that covers it, else the slate that
surrounds the zones (R86, R89). -/
def State.pictureAt (x y : Nat) (s : State) : Picture :=
  match s.canvas.zones.find? fun z => covers x y z.spec with
  | some z => ((s.canvas.frameOut.find? (·.zone == z.spec.id)).map (·.picture)).getD .slate
  | none => s.canvas.surround

/-- Each asset newly missing raises ASSET_STATE once, with the lowest zone (R99); several ids in the ascending order of those
zones (DESIGN CHOICE, log 21). -/
def State.reportMissing (s : State) : State :=
  s.canvas.visibility.foldl (fun s e =>
    match e.missing with
    | some id =>
      if s.canvas.missingReported.contains id then s
      else
        (s.mapCanvas fun c => { c with missingReported := c.missingReported ++ [id] }).raise .assetState
          (.assetState id .missing (some e.zone) (s.assetSize id))
    | none => s) s

/-! ## After composition: exposure (R180, R181) -/

/-- The counters a credit counts in. -/
inductive CreditKind where
  | visible | feature | tagged
  deriving DecidableEq, Repr

/-- One zone's credit: the sponsor, the centi-units and the frame counter (R180). -/
structure Credit where
  sponsor : Nat
  units : Nat
  kind : CreditKind
  deriving DecidableEq, Repr

/-- The credit of a program's shown appearance (R180). -/
def State.programCredit (p weight : Nat) (s : State) : Option Credit :=
  ((((s.program p).shown).bind (·.entry)).bind (·.sponsor)).map fun id => ⟨id, weight * 100, .visible⟩

/-- The credit of one visibility entry (R180). -/
def State.creditOf (e : VisEntry) (s : State) : Option Credit :=
  if !e.rendered then none
  else
    match e.top, e.content with
    | .base, .base _ =>
      match e.program with
      | some p => s.programCredit p e.weight
      | none =>
        if e.content = .base .crawl ∧ !s.crawl.strip.isEmpty then
          s.crawl.config.sponsor.map fun id => ⟨id, e.weight * 100, .visible⟩
        else none
    | .level 5, _ => e.credit.map fun id => ⟨id, e.weight * 100, .feature⟩
    | .level 2, _ => e.credit.map fun id => ⟨id, e.weight * s.exposure.tagShare, .tagged⟩
    | .level 3, _ => e.credit.map fun id => ⟨id, e.weight * s.exposure.tagShare, .tagged⟩
    | .level 4, _ => e.credit.map fun id => ⟨id, e.weight * s.exposure.tagShare, .tagged⟩
    | _, _ => none

/-- The credits of the frame just composed (R180). -/
def State.credits (s : State) : List Credit := s.canvas.visibility.filterMap fun e => s.creditOf e

/-- How many credits of a kind a list holds. -/
def countKind (k : CreditKind) (cs : List Credit) : Nat := (cs.filter (·.kind == k)).length

/-- One sponsor's counters take its sums of the frame, with the milestone test (R181). -/
def State.applyCredits (id : Nat) (cs : List Credit) (s : State) : State :=
  let m := s.exposure.mask
  (s.mapExposed id fun x =>
    { x with
      delivered := creditTo true x.delivered (cs.map (·.units)).sum
      visibleFrames := creditTo m.visibleFrames x.visibleFrames (countKind .visible cs)
      featureFrames := creditTo m.featureFrames x.featureFrames (countKind .feature cs)
      taggedFrames := creditTo m.taggedFrames x.taggedFrames (countKind .tagged cs) }).testMilestones id

/-- The frame credit, sponsor by sponsor in ascending id (R181). -/
def State.creditFrame (s : State) : State :=
  let cs := s.credits
  (List.range 64).foldl (fun s id =>
    let own := cs.filter (·.sponsor == id)
    if own.isEmpty then s else s.applyCredits id own) s

/-! ## After composition: rotation (R169, R170) -/

/-- Every program records its shown appearance (R169). -/
def State.recordShown (s : State) : State :=
  s.mapRotation fun r => { r with programs := r.programs.map fun g => { g with shown := g.onAir } }

/-- An appearance counts a frame (R170, R171); its instance advances on a frame that showed the program (R92). -/
def Appearance.count (cover : Cover) (seen : Bool) (a : Appearance) : Appearance :=
  { a with
    elapsed := a.elapsed + 1
    visible := if seen then a.visible + 1 else a.visible
    remaining := if a.entry.isNone || cover == .run || seen then a.remaining - 1 else a.remaining
    pos := if seen then a.pos + 1 else a.pos }

/-- A program counts the frame just composed, and one without dwell left is due to end (R170). -/
def State.countProgram (p : Nat) (s : State) : State :=
  if s.active p then
    match (s.program p).onAir with
    | some a =>
      let a := a.count (s.program p).cover (s.canvas.visibility.any fun e => e.program == some p)
      (s.mapProgram p fun g => { g with onAir := some a }).addDueIf (a.remaining == 0) (.dwellEnd p)
    | none => s
  else s

def State.countPrograms (s : State) : State := [0, 1, 2, 3].foldl (fun s p => s.countProgram p) s

/-! ## After composition: crawl (R194, R195) -/

/-- The crawl was shown in the frame just composed (R194). -/
def State.crawlShown (s : State) : Bool :=
  match s.crawlZone? with
  | some z => s.canvas.visibility.any fun e => e.zone == z.spec.id && e.top == .base
  | none => false

/-- The strip moves and the head of the crawl order may enter (R194, R195). `kept` is the width that a CRAWL zone kept by
this event's layout had before it: entries use the new W from the next event on (R196). -/
def State.stepCrawl (kept : Option Nat) (s : State) : State :=
  match s.crawlZone? with
  | some z => if s.crawlShown then s.moveStrip.enterStrip (kept.getD z.spec.width) else s
  | none => s

/-! ## After composition: takeovers (R92, R103) -/

/-- A takeover counts the frame just composed (R103), and its instance advances where it was topmost (R92). -/
def InService.count (frame : Nat) (top : Top) (t : InService) : InService :=
  if t.grantFrame ≤ frame then
    { t with
      served := min (2 ^ 32 - 1) (t.served + 1)
      remaining := t.remaining.map (· - 1)
      pos := if top = .level t.level then t.pos + 1 else t.pos }
  else t

/-- A zone's takeovers and base instance count the frame. -/
def Zone.count (frame : Nat) (top : Top) (z : Zone) : Zone :=
  { z with
    arb := { z.arb with service := z.arb.service.map (InService.count frame top) }
    basePos := if top = .base then z.basePos + 1 else z.basePos }

/-- What the visibility record gives as a zone's topmost content. -/
def State.shownTop (zone : Nat) (s : State) : Option Top := (s.canvas.visibility.find? (·.zone == zone)).map (·.top)

/-- Every takeover counts, and a zone where one has no frame left is due for its expiries (R103, R113). -/
def State.countTakeovers (s : State) : State :=
  let s' := s.mapCanvas fun c =>
    { c with
      zones := c.zones.map fun z =>
        match s.shownTop z.spec.id with
        | some top => z.count c.frame top
        | none => z }
  { s' with
    due := s'.due ++ (s'.canvas.zones.filter fun z => z.arb.service.any (·.remaining == some 0)).map fun z =>
      .takeoverExpiry z.spec.id }

/-- The takeovers of a zone that have no frame left end together (R113). -/
def State.expireTakeovers (zone : Nat) (s : State) : State :=
  s.endAll .expired (s.serviceItems fun z t => z.spec.id == zone && t.remaining == some 0)

/-! ## After composition: channels (R152, R154, R156) -/

/-- The cadence of a head entry for one shown frame, but for the bounds (R154). -/
def Chan.move (num den : Nat) (forward : Bool) (c : Chan) : Chan :=
  let adv := (c.acc + num) / den
  { c with
    state := .playing
    shown := min (2 ^ 32 - 1) (c.shown + 1)
    acc := (c.acc + num) % den
    pos := if forward then c.pos + adv else c.pos - adv }

/-- The move took the position past the clip in the direction of play (R156). -/
def Clip.past (c : Clip) (forward : Bool) (pos : Int) : Bool :=
  if forward then decide ((c.outSeq : Int) < pos) else decide (pos < (c.inSeq : Int))

/-- Where a further pass starts (R156). -/
def Clip.passStart (c : Clip) (forward : Bool) : Int := if forward then (c.inSeq : Int) else (c.outSeq : Int)

/-- The bounds of R156, on the moved position. Only the position after them is handed to the capture unit and tested (R135,
R136): a moved position past the clip is not handed over itself, and on completion none is (DESIGN CHOICE, log 23). -/
def State.testPass (ch : Channel) (f : CueFields) (clip : Clip) (s : State) : State :=
  if clip.past (0 ≤ f.speed) (s.chan ch).pos then
    let passes := satInc 65535 (s.chan ch).passes
    let s := s.mapChan ch fun c => { c with passes := passes }
    if f.loops = 0 ∨ passes < f.loops then
      (s.mapChan ch fun c => { c with pos := clip.passStart (0 ≤ f.speed) }).syncReaders
    else s.completeEntry ch
  else s.syncReaders

/-- The head entry's cadence advances on a frame that showed it (R154). -/
def State.advance (ch : Channel) (s : State) : State :=
  match (s.chan ch).cues with
  | e :: _ =>
    match s.clip? e.fields.clip with
    | some clip =>
      let out := s.canvas.size.rate
      (s.mapChan ch (Chan.move (cadenceNum e.fields.speed clip.rate out) (cadenceDen clip.rate out)
        (0 ≤ e.fields.speed))).testPass ch e.fields clip
    | none => s
  | [] => s

/-- A channel in service reads its zone's entry of the visibility record (R152). -/
def State.stepChannel (ch : Channel) (s : State) : State :=
  match (s.chan ch).cues with
  | e :: _ =>
    if (s.chan ch).state = .playing ∨ (s.chan ch).state = .covered then
      if s.shownTop e.fields.zone = some (.level (channelLevel ch)) then s.advance ch
      else s.mapChan ch fun c => { c with state := .covered }
    else s
  | [] => s

/-! ## The frame event (R86) -/

/-- The boundary once what awaits is applied: the frame is numbered, holds count and unavailable replays end. -/
def State.frameBoundary (s : State) : State :=
  let s := s.mapCanvas fun c => { c with frame := c.frame + 1 }
  (s.countHolds.testOverrun .a).testOverrun .b

/-- The per-frame work for the frame just composed (its order, log 9). -/
def State.frameWork (kept : Option Nat) (s : State) : State :=
  let s := s.reportMissing.recordShown.creditFrame
  let s := (s.countPrograms.stepCrawl kept).countTakeovers
  (s.stepChannel .a).stepChannel .b

/-- The event once what awaits is applied, `kept` being the width of R196. -/
def State.frameAfter (kept : Option Nat) (s : State) : State := s.frameBoundary.compose.frameWork kept

/-- One output frame event (R86). -/
def State.frameEvent (s : State) : State := s.applyAwaiting.frameAfter s.keptWidth

/-! ## Camera frames (R94, R129 to R132) -/

/-- INPUT_SIGNAL (R94). -/
def State.raiseSignal (n : Nat) (cause : SignalCause) (s : State) : State :=
  s.raise .inputSignal (.inputSignal n (s.input n).signal cause (s.ring n).w)

/-- A captured frame is written to its ring, if the input has one (R129 to R131). What the write makes LOST comes before the
readers are tested (DESIGN CHOICE, log 20). -/
def State.writeFrame (n : Nat) (s : State) : State :=
  let r := s.ring n
  if r.size = 0 then s
  else
    let s := s.mapRing n fun r => { r with w := r.w + 1, rate := some (r.rate.getD (s.input n).rate) }
    let s := if r.floor + r.size ≤ r.w then s.overwriteReport n (r.w - r.size) else s
    s.syncReaders

/-- A valid frame is captured (R91, R129). -/
def State.captureFrame (n : Nat) (s : State) : State :=
  (s.mapInput n fun i => { i with latest := some i.captured, captured := i.captured + 1 }).writeFrame n

/-- The signal becomes PRESENT (R94); a ring of another rate is restarted before its next frame is written (R131). The held
frame of a hold that this ends is discarded at once, which R94 leaves open (DESIGN CHOICE, log 19). INPUT_SIGNAL is raised
before the restart and its CLIP_STATE, which R94 and R131 do not order (DESIGN CHOICE, log 20). -/
def State.detectSignal (n : Nat) (s : State) : State :=
  let s := (s.mapInput n fun i =>
    { i with signal := true, validRun := 8, loss := .live, holdFrames := 0, held := none }).raiseSignal n .detected
  match (s.ring n).rate with
  | some rate => if rate = (s.input n).rate then s else s.captureRestart n
  | none => s

/-- The signal is lost and its hold begins (R94, R95). -/
def State.loseSignal (n : Nat) (s : State) : State :=
  (s.mapInput n fun i =>
    { i with
      signal := false, validRun := 0, loss := .holding, holdFrames := s.toFrames 2000, held := i.latest }).raiseSignal n
        .lost

/-- A frame arrives on an input (R94, R129). -/
def State.cameraFrame (n : Nat) (valid : Bool) (s : State) : State :=
  let i := s.input n
  if !i.enabled then s
  else
    match i.signal, valid with
    | true, true => s.captureFrame n
    | true, false => s.loseSignal n
    | false, true =>
      if 8 ≤ i.validRun + 1 then (s.detectSignal n).captureFrame n
      else s.mapInput n fun i => { i with validRun := i.validRun + 1 }
    | false, false => s.mapInput n fun i => { i with validRun := 0 }

/-- 100 ms pass on an input without a valid frame (R94). -/
def State.signalTimeout (n : Nat) (s : State) : State :=
  let i := s.input n
  if !i.enabled then s
  else if i.signal then s.loseSignal n
  else s.mapInput n fun i => { i with validRun := 0 }

/-- A signal-loss hold has run out (R95). -/
def State.endHold (n : Nat) (s : State) : State :=
  if (s.input n).loss = .holding ∧ (s.input n).holdFrames = 0 then
    s.mapInput n fun i => { i with loss := .slated, held := none }
  else s

/-- One input takes its part of an INPUT_CONFIG (the table of R93). Where enable and rate both change, the rate is stored as
for a disabled input: no RATE cause and no capture restart at the record. A disable also takes the valid-frame run and the
hold frames to 0 (DESIGN CHOICE, log 19). -/
def State.configureInput (n : Nat) (c : InputSetting) (s : State) : State :=
  let i := s.input n
  let off : Input → Input := fun i => { i with signal := false, validRun := 0, loss := .slated, holdFrames := 0, held := none }
  match i.enabled, c.enable with
  | false, false => s.mapInput n fun i => { i with rate := c.rate }
  | false, true => s.mapInput n fun i => { off i with enabled := true, rate := c.rate }
  | true, false =>
    let s := s.mapInput n fun i => { off i with enabled := false, rate := c.rate }
    if i.signal then s.raiseSignal n .disabled else s
  | true, true =>
    if c.rate = i.rate then s
    else
      let s := s.mapInput n fun i => { off i with rate := c.rate }
      let s := if i.signal then s.raiseSignal n .rate else s
      if 0 < (s.ring n).size then s.captureRestart n else s

/-! ## The copy engine (R145) -/

/-- The copy engine copies one frame of the clip at the head of the save queue (R145). A frame the ring no longer holds
cannot be met here: its clip is LOST already (R146). -/
def State.copyFrame (s : State) : State :=
  match s.replay.saveQueue.head?.bind s.clip? with
  | some c =>
    match c.state with
    | .saving start copied =>
      if copied < c.outSeq then
        (s.mapClip c.id fun c => { c with state := .saving start (copied + 1) }).syncReaders
      else
        ((s.mapClip c.id fun c => { c with state := .saved start }).mapReplay fun r =>
            { r with saveQueue := r.saveQueue.tail }).raise .clipState
          (.clipState c.id c.input .saved .complete none) |>.syncReaders
    | _ => s
  | none => s

end Sys2Proof.Machine
end

