-- ==== Sys2Proof/Machine/Due.lean ====
section
/-! DEFINITION. Events that have become due and when they are carried out (log 2), and the taking of a record by its link
(R5 to R8, R10, R11). -/

namespace Sys2Proof.Machine

/-! ## Due events -/

/-- A horn that has reached the end of its time falls silent (R44). -/
def Timing.hornEnds (which : Horn) (t : Timing) : Timing :=
  match which with
  | .game => if t.gameHorn = some 0 then { t with gameHorn := none } else t
  | .play => if t.playHorn = some 0 then { t with playHorn := none } else t

/-- An appearance without dwell left ends (R170). -/
def State.endDwell (p : Nat) (s : State) : State :=
  match (s.program p).onAir with
  | some a => if a.remaining = 0 then s.endAppearance p else s
  | none => s

/-- A zone's takeovers without a frame left end together, where there is one (R113). -/
def State.expireZone (zone : Nat) (s : State) : State :=
  if (s.serviceItems fun z t => z.spec.id == zone && t.remaining == some 0).isEmpty then s else s.expireTakeovers zone

/-- One due event is carried out, if what made it due still stands. A confirmed stop and an expiry judge the countdown
conditions of their step, whose counted clock still stands and is RUNNING (R45, R31). -/
def State.runDue (e : DueEvent) (s : State) : State :=
  match e with
  | .startConfirm =>
    if s.timing.gate = .startPending ∧ s.timing.rules.debounce ≤ s.timing.window then s.confirmStart else s
  | .stopConfirm =>
    if s.timing.gate = .stopPending ∧ s.timing.rules.debounce ≤ s.timing.window then
      s.confirmStop s.countdownDue else s
  | .gameExpiry =>
    if s.timing.run = .running ∧ s.timing.gate = .steady ∧ s.timing.isAtLimit = true then
      s.expire s.countdownDue else s
  | .playExpiry blanked => if s.timing.play = 0 then s.playExpire blanked else s
  | .breakExpiry => if s.timing.brkRunning = true ∧ s.timing.brkValue = 0 then s.breakExpire else s
  | .hornEnd which => s.mapTiming (Timing.hornEnds which)
  | .helloTimer => if s.twin.helloTimer = some 0 then s.helloExpire else s
  | .heartbeatTimer => if s.twin.heartbeatTimer = some 0 then s.heartbeatExpire else s
  | .clockTimer => if s.twin.clockTimer = some 0 then s.sendClock .periodic else s
  | .lossTimer => if s.twin.lossTimer = some 0 then s.lossExpire else s
  | .takeoverExpiry zone => s.expireZone zone
  | .dwellEnd p => s.endDwell p
  | .holdEnd n => s.endHold n
  | .replyPlace l => s.mapLink l LinkState.placeWaiting

/-- Everything due is carried out, in order, before anything else happens (log 2). -/
def State.settle (s : State) : State := s.due.foldl (fun s e => s.runDue e) { s with due := [] }

/-- An event command carries out the first due event that satisfies `p`; where none is due it has no effect (log 2). -/
def State.perform (p : DueEvent → Bool) (s : State) : State :=
  match s.due.find? p with
  | some e => { s with due := s.due.erase e }.runDue e
  | none => s

/-! ## Taking a record (R5 to R8) -/

/-- An owner's answer: the state after it, the status of the reply and its result (R8). -/
abbrev Answered : Type := State × Status × Result

/-- A refusal: nothing changes, and the reply is the status alone (R8). -/
def State.refuse (status : Status) (s : State) : Answered := (s, status, .none)

/-- An acceptance with a result. -/
def State.okWith (r : Result) (s : State) : Answered := (s, .ok, r)

/-- An acceptance without a result. -/
def State.ok (s : State) : Answered := (s, .ok, .none)

/-- Tests in their order; the first failure refuses the record, else the owner performs it (R7). -/
def State.tests (checks : List (Bool × Status)) (accept : State → Answered) (s : State) : Answered :=
  match checks.find? (·.1) with
  | some c => s.refuse c.2
  | none => accept s

/-- The record as the head of its link's inbound queue: it joins an empty queue and is taken, or it is the head already.
`len` is the body length its rule states, where one is stated. None while a reply waits for its place, and where another
record is the head (R6, R7, log 6). -/
def LinkState.present (tag kind : Nat) (len : Option Nat) (l : LinkState) : Option LinkState :=
  if l.waiting.isSome then none
  else
    match l.inbound with
    | [] => some { l with inbound := [⟨tag, kind, List.replicate (len.getD 0) 0⟩] }
    | r :: _ => if r.tag = tag ∧ r.kind = kind then some l else none

/-- The head record's length is the one its rule states, where one is stated (test 4 of R7). -/
def LinkState.lengthFits (len : Option Nat) (l : LinkState) : Bool :=
  match len with
  | some n => l.inbound.head?.all fun r => r.body.length == n
  | none => true

/-- The link interface's tests on taking a record, in order (R7). -/
def State.linkRefusal (link : Link) (kind : Nat) (len : Option Nat) (fits : Bool) (s : State) : Option Status :=
  match kindPermit kind with
  | none => some .unknownKind
  | some p =>
    if !permitted p link then some .notPermitted
    else if link == .table && s.twin.state == .follower && changingKinds.contains kind then some .notAuthority
    else if !(fits && (s.link link).lengthFits len) then some .malformed
    else none

/-- The head record is answered: the link's tests, then its owner (R7). -/
def State.serve (link : Link) (kind : Nat) (len : Option Nat) (fits : Bool) (owner : State → Answered) (s : State) :
    Answered :=
  match s.linkRefusal link kind len fits with
  | some status => s.refuse status
  | none => owner s

/-- A record is taken by its link and answered (R5 to R8). `len` is the body length its rule states, where one is stated, and
`shape` says that its counts and choices are in their sets. -/
def State.takeSized (h : Hdr) (kind : Nat) (len : Option Nat) (shape : Bool) (owner : State → Answered) (s : State) :
    State :=
  let s := s.settle
  if h.tag = 0 then s.mapLink h.link (LinkState.immediate ⟨0, 0xFF, .malformed, .none⟩)
  else
    match (s.link h.link).present h.tag kind len with
    | none => s
    | some l =>
      let (s, status, result) := (s.mapLink h.link fun _ => l).serve h.link kind len (h.fits && shape) owner
      s.mapLink h.link (LinkState.answer ⟨h.tag, replyKind kind, status, result⟩)

/-- A record is taken whose body length, where its rule states one, is the same for every record of its kind. -/
def State.take (h : Hdr) (kind : Nat) (shape : Bool) (owner : State → Answered) (s : State) : State :=
  s.takeSized h kind (statedBodyLength kind) shape owner

end Sys2Proof.Machine
end

