-- ==== Sys2Proof/Machine/ExecLink.lean ====
section
/-! DEFINITION. The commands of Chapter 1: power-on, receiving and transmitting, and the link records. -/

namespace Sys2Proof.Machine

/-- POWER_ON (R19, R50, R68, R84, R100, R125, R139, R163, R179, R189, R201). -/
def execPowerOn (strapProduction strapTable : Nat) (runLine : LineLevel) (s : State) :
    Host.Outcome State Fault Refusal :=
  .next (State.atPowerOn strapProduction strapTable runLine s.pending)

/-- FRAME_RECEIVED: characters arrive on a control link (R1 to R6). -/
def execFrameReceived (link : Link) (chars : List LineChar) (s : State) : Host.Outcome State Fault Refusal :=
  .next (s.settle.mapLink link (LinkState.receive chars))

/-- RECEIVER_SILENCE_EXPIRY (R3, R4). -/
def execReceiverSilenceExpiry (link : Link) (s : State) : Host.Outcome State Fault Refusal :=
  .next (s.settle.mapLink link LinkState.silence)

/-- The first bytes of a frame: SYNC and the two LEN bytes. -/
def headerStart (len : Nat) : List LineChar := (sync :: bytesBE 2 len).map fun b => ⟨b, true⟩

/-- LEN_OVERSIZED: SYNC and a LEN above 1,024 arrive (R3, R4). -/
def execLenOversized (link : Link) (len : Nat) (s : State) : Host.Outcome State Fault Refusal :=
  .next (s.settle.mapLink link (LinkState.receive (headerStart len)))

/-- REPLY_PLACE_FREED: the waiting reply of a link is placed (R6). -/
def execReplyPlaceFreed (link : Link) (s : State) : Host.Outcome State Fault Refusal :=
  .next (s.perform fun e => e == .replyPlace link)

/-- The transmitter sends one whole frame; a freed place is due to a reply that waits for it (R6, R9). -/
def State.transmitOn (link : Link) (s : State) : State :=
  let s := s.mapLink link LinkState.transmit
  s.addDueIf ((s.link link).waiting.isSome && decide ((s.link link).replies.length < 16)) (.replyPlace link)

/-- FRAME_TRANSMIT (R9). -/
def execFrameTransmit (link : Link) (s : State) : Host.Outcome State Fault Refusal := .next (s.settle.transmitOn link)

/-- UNKNOWN_KIND_RECORD: a record whose kind is in no row of Table 1-3 (test 1 of R7). -/
def execUnknownKindRecord (link : Link) (tag kind : Nat) (s : State) : Host.Outcome State Fault Refusal :=
  .next (if (kindPermit kind).isSome then s.settle
    else s.take ⟨link, tag, true⟩ kind true fun s => s.refuse .unknownKind)

/-- The part identity "K620" (R18). -/
def partIdentity : Text := [0x4B#8, 0x36#8, 0x32#8, 0x30#8]

/-- LINK_INFO (R18). -/
def linkInfoOwner (link : Link) (s : State) : Answered :=
  s.okWith (.linkInfo partIdentity 1 0 link (s.link link).lineRate (s.link link).framingErrors s.twin.state
    s.record.game.session)

def execLinkInfo (h : Hdr) (s : State) : Host.Outcome State Fault Refusal := .next (s.take h 0x01 true (linkInfoOwner h.link))

/-- SUBSCRIBE (R14). -/
def subscribeOwner (link : Link) (codes : List Nat) : State → Answered :=
  State.tests [(codes.any (20 ≤ ·), .range), (!noRepeats codes, .range)] fun s =>
    (s.mapLink link fun l => { l with subs := codes }).ok

def execSubscribe (h : Hdr) (count : Nat) (codes : List Nat) (s : State) : Host.Outcome State Fault Refusal :=
  .next (s.take h 0x02 (count == codes.length && count ≤ 20) (subscribeOwner h.link codes))

/-- The pending entries of a condition table in ascending code (R15). -/
def pendingItems (table : List CondEntry) : List CondItem :=
  (table.zipIdx.filter (·.1.pending)).map fun e => ⟨e.2, e.1.count, e.1.first, e.1.latest⟩

/-- Every pending entry is cleared and the notices of its kind withdrawn (R15). -/
def LinkState.clearConditions (l : LinkState) : LinkState :=
  { l with
    table := l.table.map fun e => if e.pending then .clear else e
    notices := l.notices.filter fun n => !(l.entry n.cond).pending }

/-- CONDITIONS (R15). -/
def conditionsOwner (link : Link) (s : State) : Answered :=
  (s.mapLink link LinkState.clearConditions).okWith (.conditions (pendingItems (s.link link).table))

def execConditions (h : Hdr) (s : State) : Host.Outcome State Fault Refusal := .next (s.take h 0x03 true (conditionsOwner h.link))

/-! ## Relay slots (section 1.7) -/

def State.slot (s : State) : Slot → Option Text
  | .toTable => s.slotToTable
  | .toProduction => s.slotToProduction

def State.setSlot (slot : Slot) (text : Option Text) (s : State) : State :=
  match slot with
  | .toTable => { s with slotToTable := text }
  | .toProduction => { s with slotToProduction := text }

/-- The slot that leads away from a link, and the slot that leads toward it. -/
def slotFrom : Link → Slot
  | .production => .toTable
  | .table => .toProduction
def slotToward : Link → Slot
  | .production => .toProduction
  | .table => .toTable

/-- SLOT_POST (R16). -/
def slotPostOwner (link : Link) (text : Text) (s : State) : Answered :=
  s.tests [(!textOk 1 64 text, .range), ((s.slot (slotFrom link)).isSome, .full)] fun s =>
    ((s.setSlot (slotFrom link) (some text)).raise .slotPosted (.slot (slotFrom link) text.length)).ok

def execSlotPost (h : Hdr) (text : Text) (s : State) : Host.Outcome State Fault Refusal :=
  .next (s.take h 0x04 true (slotPostOwner h.link text))

/-- SLOT_TAKE (R17). -/
def slotTakeOwner (link : Link) (s : State) : Answered :=
  match s.slot (slotToward link) with
  | none => s.refuse .notFound
  | some text =>
    ((s.setSlot (slotToward link) none).raise .slotTaken (.slot (slotToward link) text.length)).okWith (.slotText text)

def execSlotTake (h : Hdr) (s : State) : Host.Outcome State Fault Refusal := .next (s.take h 0x05 true (slotTakeOwner h.link))

/-! ## RESTART (R20; the order of the blocks, log 10) -/

/-- The link interface's own effect (R20). -/
def LinkState.restart (l : LinkState) : LinkState := { l with table := List.replicate 20 .clear, notices := [] }

/-- A channel's cue list is emptied, and the channel is IDLE with its reader detached (R139, R163). -/
def State.emptyChannel (ch : Channel) (s : State) : State := s.cutCues ch fun _ => []

/-- The feature list is emptied and each request it made released (R179). -/
def State.emptyFeatures (s : State) : State :=
  let items := match s.rotation.features with
    | f :: _ => f.outstanding.map fun z => (z, 5)
    | [] => []
  (s.mapRotation fun r => { r with features := [], breakRecorded := none }).endAll .released items

/-- A program's part of RESTART (R179). -/
def State.restartProgram (p : Nat) (s : State) : State :=
  let s := (s.dropAppearance p).mapProgram p fun g => { g with pointer := 0 }
  if s.active p then s.select p else s

/-- RESTART reaches every block (R20, R124, R163, R179, R196, R201); the blocks' order and the programs' ascending one are
the model's (DESIGN CHOICE, log 10). -/
def State.restart (s : State) : State :=
  let s := ((s.mapLink .production LinkState.restart).arbiterRestart.emptyChannel .a).emptyChannel .b
  ([0, 1, 2, 3].foldl (fun s p => s.restartProgram p) s).emptyFeatures.clearStrip

/-- RESTART (R20). -/
def restartOwner (s : State) : Answered := s.restart.ok

def execRestart (h : Hdr) (s : State) : Host.Outcome State Fault Refusal := .next (s.take h 0x06 true restartOwner)

end Sys2Proof.Machine
end

