-- ==== Sys2Proof/Machine/ExecTiming.lean ====
section
/-! DEFINITION. The commands of Chapter 2: the time base, the RUN line, the timing events and the timing records. -/

namespace Sys2Proof.Machine

/-- TIME_BASE_STEP (R21, R23). -/
def execTimeBaseStep (s : State) : Host.Outcome State Fault Refusal := .next s.settle.timeStep

/-- The value of T that a TRIM gives (R22). -/
def clampTrim (t : Int) : Int := max (-500) (min 500 t)

/-- TRIM (R22). -/
def trimOwner (t : Int) (s : State) : Answered :=
  (s.mapTiming fun m => { m with trim := clampTrim t }).okWith (.trim (clampTrim t))

def execTrim (h : Hdr) (t : Int) (s : State) : Host.Outcome State Fault Refusal := .next (s.take h 0x1A true (trimOwner t))

/-- The timing unit with a new set of rules (R24). -/
def Timing.setRules (r : ClockRules) (t : Timing) : Timing :=
  { t with
    rules := r
    v := clockStartValue r
    atLimit := false
    expiryPending := false
    regulation := false
    play := r.playPrimary * 1000
    phase := .idle }

/-- CLOCK_RULES (R24, R48). -/
def clockRulesOwner (r : ClockRules) (s : State) : Answered :=
  s.tests
    [(s.record.game.session == .final, .closed), (s.record.game.session == .inGame, .locked),
      (s.timing.gate != .steady, .busy), (!rulesOk r s.record.game.period, .range)] fun s =>
    (s.mapTiming (Timing.setRules r)).sampleLine.sendStateIfMaster.ok

def execClockRules (h : Hdr) (r : ClockRules) (s : State) : Host.Outcome State Fault Refusal :=
  .next (s.take h 0x10 true (clockRulesOwner r))

/-- The RUN line takes a level; a change is an edge unless the line is ignored (R25, R29). -/
def State.runLineTo (level : LineLevel) (s : State) : State :=
  if level = s.timing.runLine then s
  else
    let s := s.mapTiming fun t => { t with runLine := level }
    if s.lineIgnored then s else s.lineEdge s.timing.lineNow

/-- RUN_LINE_EDGE (R25 to R29). -/
def execRunLineEdge (level : LineLevel) (s : State) : Host.Outcome State Fault Refusal :=
  .next (s.settle.runLineTo level)

/-- START_WINDOW_CONFIRM (R26). -/
def execStartWindowConfirm (s : State) : Host.Outcome State Fault Refusal := .next (s.perform fun e => e == .startConfirm)

/-- STOP_WINDOW_CONFIRM (R27). -/
def execStopWindowConfirm (s : State) : Host.Outcome State Fault Refusal := .next (s.perform fun e => e == .stopConfirm)

/-- CLOCK_START (R30). -/
def clockStartOwner (s : State) : Answered :=
  s.tests
    [(s.record.game.session == .final, .closed), (s.timing.rules.source == .line, .wrongSource),
      (s.timing.atLimit, .busy)] fun s =>
    (if s.timing.run = .running then s else s.linkStart).ok

def execClockStart (h : Hdr) (s : State) : Host.Outcome State Fault Refusal := .next (s.take h 0x13 true clockStartOwner)

/-- CLOCK_STOP (R30). -/
def clockStopOwner (s : State) : Answered :=
  s.tests [(s.record.game.session == .final, .closed), (s.timing.rules.source == .line, .wrongSource)] fun s =>
    (if s.timing.run = .running then s.linkStop else s).ok

def execClockStop (h : Hdr) (s : State) : Host.Outcome State Fault Refusal := .next (s.take h 0x14 true clockStopOwner)

/-- GAME_CLOCK_EXPIRY (R32). -/
def execGameClockExpiry (s : State) : Host.Outcome State Fault Refusal := .next (s.perform fun e => e == .gameExpiry)

/-- CLOCK_SET (R34). -/
def clockSetOwner (v : Nat) (s : State) : Answered :=
  s.tests
    [(s.record.game.session == .final, .closed), (s.timing.run != .stopped || s.timing.gate != .steady, .busy),
      (decide (clockMax s.timing.rules < v), .range)] fun s =>
    (s.setClock v).ok

def execClockSet (h : Hdr) (v : Nat) (s : State) : Host.Outcome State Fault Refusal :=
  .next (s.take h 0x11 true (clockSetOwner v))

/-- CLOCK_ADJUST (R35). -/
def clockAdjustOwner (delta : Int) (s : State) : Answered :=
  s.tests
    [(s.record.game.session == .final, .closed), (delta == 0 || decide (600000 < delta.natAbs), .range)] fun s =>
    (s.adjustClock delta).okWith (.count (s.timing.adjusted delta))

def execClockAdjust (h : Hdr) (delta : Int) (s : State) : Host.Outcome State Fault Refusal :=
  .next (s.take h 0x12 true (clockAdjustOwner delta))

/-- The play value a choice gives, in ms (R40). -/
def playChoiceValue (r : ClockRules) : PlayChoice → Nat
  | .primary => r.playPrimary * 1000
  | .secondary => r.playSecondary * 1000
  | .value n => n * 1000

def playChoiceOk : PlayChoice → Bool
  | .value n => within 1 99 n
  | _ => true

/-- PLAY_RESET (R40). -/
def playResetOwner (choice : PlayChoice) (s : State) : Answered :=
  s.tests [(s.record.game.session == .final, .closed), (!playChoiceOk choice, .range)] fun s =>
    ((s.mapTiming fun t =>
      { t with play := playChoiceValue t.rules choice, playPending := false, playCounted := 0 }).sendClock .play).ok

def execPlayReset (h : Hdr) (choice : PlayChoice) (s : State) : Host.Outcome State Fault Refusal :=
  .next (s.take h 0x15 true (playResetOwner choice))

/-- PLAY_ENABLE (R40). -/
def playEnableOwner (on : Bool) (s : State) : Answered :=
  s.tests [(s.record.game.session == .final, .closed)] fun s =>
    ((s.mapTiming fun t => { t with playEnabled := on }).sendClock .play).ok

def execPlayEnable (h : Hdr) (on : Bool) (s : State) : Host.Outcome State Fault Refusal :=
  .next (s.take h 0x16 true (playEnableOwner on))

/-- PLAY_EXPIRY (R39). -/
def execPlayExpiry (s : State) : Host.Outcome State Fault Refusal :=
  .next (s.perform fun e => e == .playExpiry true || e == .playExpiry false)

/-- A break starts (R42). -/
def Timing.startBreak (seconds : Nat) (hornFlag : Bool) (t : Timing) : Timing :=
  { t with brkRunning := true, brkValue := seconds * 1000, brkLength := seconds * 1000, brkHorn := hornFlag }

/-- BREAK_START (R42, R43). -/
def breakStartOwner (seconds : Nat) (hornFlag : Bool) (s : State) : Answered :=
  s.tests
    [(s.record.game.session == .final, .closed), (!within 1 900 seconds, .range), (s.timing.brkRunning, .busy)] fun s =>
    (((s.mapTiming (Timing.startBreak seconds hornFlag)).featureBreakStart seconds).sendClock .breakStart).ok

def execBreakStart (h : Hdr) (seconds : Nat) (hornFlag : Bool) (s : State) : Host.Outcome State Fault Refusal :=
  .next (s.take h 0x17 true (breakStartOwner seconds hornFlag))

/-- BREAK_CANCEL (R43). -/
def breakCancelOwner (s : State) : Answered :=
  s.tests [(s.record.game.session == .final, .closed), (!s.timing.brkRunning, .notFound)] fun s =>
    ((s.mapTiming fun t => { t with brkRunning := false, brkValue := 0 }).featureBreakCancel.sendClock .breakCancel).ok

def execBreakCancel (h : Hdr) (s : State) : Host.Outcome State Fault Refusal := .next (s.take h 0x18 true breakCancelOwner)

/-- BREAK_EXPIRY (R42). -/
def execBreakExpiry (s : State) : Host.Outcome State Fault Refusal := .next (s.perform fun e => e == .breakExpiry)

/-- HORN (R44). -/
def hornOwner (which : Horn) (duration : Nat) : State → Answered :=
  State.tests [(!within 200 5000 duration, .range)] fun s => (s.mapTiming (Timing.soundHorn which duration)).ok

def execHorn (h : Hdr) (which : Horn) (duration : Nat) (s : State) : Host.Outcome State Fault Refusal :=
  .next (s.take h 0x19 true (hornOwner which duration))

/-- HORN_END (R44). -/
def execHornEnd (which : Horn) (s : State) : Host.Outcome State Fault Refusal := .next (s.perform fun e => e == .hornEnd which)

/-- The values of a CLOCK_READ, all read at one instant (R49, Table 2-4). -/
def State.clockReading (s : State) : ClockReading where
  v := s.timing.v
  direction := s.timing.rules.direction
  run := s.timing.run
  gate := s.timing.gate
  window := s.timing.window
  atLimit := s.timing.atLimit
  expiryPending := s.timing.expiryPending
  playPending := s.timing.playPending
  regulation := s.timing.regulation
  period := s.record.game.period
  play := s.timing.play
  playEnabled := s.timing.playEnabled
  playRunning := s.timing.playRuns
  playBlanked := s.timing.blanked
  brk := if s.timing.brkRunning then s.timing.brkValue else 0
  brkRunning := s.timing.brkRunning
  session := s.record.game.session
  clockText := s.timing.clockText
  playText := s.timing.playText
  breakText := s.timing.breakText

/-- CLOCK_READ (R49). -/
def clockReadOwner (s : State) : Answered := s.okWith (.clockRead s.clockReading)

def execClockRead (h : Hdr) (s : State) : Host.Outcome State Fault Refusal := .next (s.take h 0x1B true clockReadOwner)

end Sys2Proof.Machine
end

