-- ==== Sys2Proof/Machine/ExecRecord.lean ====
section
/-! DEFINITION. The commands of Chapter 3: the records of the game record unit. -/

namespace Sys2Proof.Machine

/-- The session is FINAL: the first test of every changing record kind but GAME_OPEN (R52). -/
def State.isFinal (s : State) : Bool := s.record.game.session == .final

/-- The confirmed run state is RUNNING. -/
def State.isRunning (s : State) : Bool := s.timing.run == .running

/-- GAME_FINAL (R53). -/
def gameFinalOwner (s : State) : Answered :=
  s.tests [(s.isFinal, .closed), (s.record.game.session == .setup, .busy), (s.isRunning, .busy)] fun s =>
    (s.finalGame .final).ok

def execGameFinal (h : Hdr) (s : State) : Host.Outcome State Fault Refusal := .next (s.take h 0x21 true gameFinalOwner)

/-- GAME_OPEN (R54). -/
def gameOpenOwner (s : State) : Answered := s.tests [(s.isRunning, .busy)] fun s => (s.openGame .opened).ok

def execGameOpen (h : Hdr) (s : State) : Host.Outcome State Fault Refusal := .next (s.take h 0x20 true gameOpenOwner)

/-- NEXT_PERIOD (R55). -/
def nextPeriodOwner (s : State) : Answered :=
  s.tests
    [(s.isFinal, .closed), (s.isRunning, .busy), (decide (s.timing.rules.maxPeriods ≤ s.record.game.period), .range)]
    fun s => (s.advancePeriod .period).ok

def execNextPeriod (h : Hdr) (s : State) : Host.Outcome State Fault Refusal := .next (s.take h 0x22 true nextPeriodOwner)

/-- SCORE_ADD (R60). -/
def scoreAddOwner (team : Team) (points : Nat) (s : State) : Answered :=
  s.tests [(s.isFinal, .closed), (!within 1 9 points, .range)] fun s =>
    let score := (teamOf s.record.game team).score
    let d := appliedPoints points score
    (s.addScore team points s.record.game.nextSeq).okWith (.score s.record.game.nextSeq d (score + d))

def execScoreAdd (h : Hdr) (team : Team) (points : Nat) (s : State) : Host.Outcome State Fault Refusal :=
  .next (s.take h 0x23 true (scoreAddOwner team points))

/-- The entry can be revised: an ADD whose revised flag is clear (R61). -/
def LogKind.revisable : LogKind → Bool
  | .add revised => !revised
  | .revise _ => false

/-- SCORE_REVISE (R61). -/
def scoreReviseOwner (seq : Nat) (s : State) : Answered :=
  if s.isFinal then s.refuse .closed
  else
    match findEntry seq s.record.game.log with
    | none => s.refuse .notFound
    | some e =>
      if LogKind.revisable e.kind then
        let score := (teamOf s.record.game e.team).score
        let d := min score e.delta.toNat
        (s.reviseScore e s.record.game.nextSeq).okWith (.score s.record.game.nextSeq (-(d : Int)) (score - d))
      else s.refuse .range

def execScoreRevise (h : Hdr) (seq : Nat) (s : State) : Host.Outcome State Fault Refusal :=
  .next (s.take h 0x24 true (scoreReviseOwner seq))

/-- A TEAM_SET carries a field (R56). -/
def teamFieldsAny (f : TeamFields) : Bool :=
  f.name.isSome || f.timeouts.isSome || f.fouls.isSome || f.possession.isSome

/-- TEAM_SET (R56). -/
def teamSetOwner (team : Team) (f : TeamFields) (s : State) : Answered :=
  s.tests
    [(s.isFinal, .closed), (s.record.game.session == .inGame && f.name.isSome, .locked),
      (f.name.any fun n => !textOk 0 12 n, .range)] fun s =>
    let s := s.applyTeam team f
    s.okWith (.teamSet (teamOf s.record.game team) s.record.game.possession)

def execTeamSet (h : Hdr) (team : Team) (f : TeamFields) (s : State) : Host.Outcome State Fault Refusal :=
  .next (s.take h 0x25 (teamFieldsAny f) (teamSetOwner team f))

/-- A field definition lies in its ranges (R57). -/
def fieldDefOk (d : FieldDef) : Bool := textOk 1 8 d.label && within 1 999 d.maximum

/-- FIELD_DEFINE (R57). -/
def fieldDefineOwner (defs : List FieldDef) (s : State) : Answered :=
  s.tests
    [(s.isFinal, .closed), (s.record.game.session == .inGame, .locked), (!defs.all fieldDefOk, .range)] fun s =>
    (s.applyDefs defs).ok

def execFieldDefine (h : Hdr) (count : Nat) (defs : List FieldDef) (s : State) : Host.Outcome State Fault Refusal :=
  .next (s.take h 0x26 (count == defs.length && count ≤ 16) (fieldDefineOwner defs))

/-- FIELD_SET (R58). -/
def fieldSetOwner (index value : Nat) (s : State) : Answered :=
  s.tests
    [(s.isFinal, .closed), (decide (15 < index), .range), (decide (s.record.game.fields.length ≤ index), .notFound)]
    fun s => (s.applyField index value).okWith (.count (fieldClamped index value s.record.game))

def execFieldSet (h : Hdr) (index value : Nat) (s : State) : Host.Outcome State Fault Refusal :=
  .next (s.take h 0x27 true (fieldSetOwner index value))

/-- RECORD_READ (R65). -/
def recordReadOwner (s : State) : Answered :=
  let g := s.record.game
  s.okWith (.recordRead g.session g.period g.home g.guest g.possession g.fields g.config g.nextSeq g.log.length)

def execRecordRead (h : Hdr) (s : State) : Host.Outcome State Fault Refusal := .next (s.take h 0x28 true recordReadOwner)

/-- The log from the entry of a seq on, or from the head for 0 (R66). -/
def logFrom (start : Nat) (log : List LogEntry) : List LogEntry :=
  if start = 0 then log else log.dropWhile (·.seq != start)

/-- The seq of the head entry, 0 when the log is empty (R66). -/
def headSeq (log : List LogEntry) : Nat :=
  match log with
  | e :: _ => e.seq
  | [] => 0

/-- LOG_READ (R66). -/
def logReadOwner (start : Nat) (s : State) : Answered :=
  let g := s.record.game
  s.tests [(start != 0 && (findEntry start g.log).isNone, .notFound)] fun s =>
    s.okWith (.logRead g.log.length (headSeq g.log) g.nextSeq ((logFrom start g.log).take 16))

def execLogRead (h : Hdr) (start : Nat) (s : State) : Host.Outcome State Fault Refusal :=
  .next (s.take h 0x29 true (logReadOwner start))

/-- The values of a RECORD_CONFIG lie in their ranges (R62). -/
def recordConfigOk (c : RecordConfig) : Bool :=
  within 500 15000 c.duration && optAtMost 1023 c.homeAsset && optAtMost 1023 c.guestAsset && optAtMost 63 c.sponsor

/-- RECORD_CONFIG (R62). -/
def recordConfigOwner (c : RecordConfig) (s : State) : Answered :=
  s.tests [(s.isFinal, .closed), (!recordConfigOk c, .range), (!s.sponsorKnown c.sponsor, .notFound)] fun s =>
    (s.applyConfig c).ok

def execRecordConfig (h : Hdr) (c : RecordConfig) (s : State) : Host.Outcome State Fault Refusal :=
  .next (s.take h 0x2A true (recordConfigOwner c))

end Sys2Proof.Machine
end

