-- ==== Sys2Proof/Machine/ExecTwin.lean ====
section
/-! DEFINITION. The commands of Chapter 4: the twin's configuration and status, the records it receives and its timers. -/

namespace Sys2Proof.Machine

/-- TWIN_CONFIG (R70). -/
def twinConfigOwner (role : TwinRole) (token compensation : Nat) : State → Answered :=
  State.tests [(decide (20 < compensation), .range)] fun s => (s.configureTwin role token compensation).ok

def execTwinConfig (h : Hdr) (role : TwinRole) (token compensation : Nat) (s : State) :
    Host.Outcome State Fault Refusal :=
  .next (s.take h 0x30 true (twinConfigOwner role token compensation))

/-- The values of a TWIN_STATUS (R83). -/
def Twin.reading (t : Twin) : TwinReading where
  state := t.state
  role := t.role
  token := t.token
  compensation := t.compensation
  lastRole := t.lastRole
  reason := t.reason
  decidedFollower := t.decidedFollower
  peer := t.peer
  sinceLast := t.lossTimer.map (1000 - ·)
  eventNo := if t.state = .master ∨ t.state = .follower then some t.eventNo else none
  resync := t.resync
  framingErrors := t.framingErrors

/-- TWIN_STATUS (R83). -/
def twinStatusOwner (s : State) : Answered := s.okWith (.twinStatus s.twin.reading)

def execTwinStatus (h : Hdr) (s : State) : Host.Outcome State Fault Refusal := .next (s.take h 0x31 true twinStatusOwner)

/-- TWIN_HELLO_RECEIVED (R71 to R74). -/
def execTwinHelloReceived (hello : Hello) (s : State) : Host.Outcome State Fault Refusal :=
  .next (s.settle.hearTwin (State.takeHello hello))

/-- A STATE frame: a part that cannot be a part of its STATE does not fit its kind (R69, log 8). R71 and R74 speak of a STATE
received, and R69 does not say whether one part of it is that already: the model takes the whole STATE alone, with its last
part in order. So in SOLO and ORPHAN an earlier or a misplaced part brings no HELLO, and in MASTER no conflict (DESIGN CHOICE,
log 8). -/
def State.takePart (part parts : Nat) (r : StateRecord) (s : State) : State :=
  let (held, whole) := nextPart part parts s.twin.parts
  let s := s.mapTwin fun t => { t with parts := held }
  if whole then s.takeState r else s

/-- TWIN_STATE_RECEIVED (R69, R73, R74, R78). -/
def execTwinStateReceived (part parts : Nat) (r : StateRecord) (s : State) : Host.Outcome State Fault Refusal :=
  .next (if within 1 parts part then s.settle.hearTwin (State.takePart part parts r) else s.settle.twinBadFrame)

/-- TWIN_CLOCK_RECEIVED (R74, R79). -/
def execTwinClockReceived (r : ClockRecord) (s : State) : Host.Outcome State Fault Refusal :=
  .next (s.settle.hearTwin (State.takeClock r))

/-- TWIN_EVENT_RECEIVED (R74, R80). -/
def execTwinEventReceived (r : EventRecord) (s : State) : Host.Outcome State Fault Refusal :=
  .next (s.settle.hearTwin (State.takeEvent r))

/-- TWIN_HEARTBEAT_RECEIVED (R74, R80). -/
def execTwinHeartbeatReceived (_applied : Nat) (resync : Bool) (s : State) : Host.Outcome State Fault Refusal :=
  .next (s.settle.hearTwin (State.takeHeartbeat resync))

/-- TWIN_RECEIVER_SILENCE_EXPIRY: the characters of a frame arrive and 50 ms pass; what is incomplete then is a bad frame
(R69). -/
def execTwinReceiverSilenceExpiry (s : State) (chars : List LineChar := [⟨0xC3#8, true⟩]) :
    Host.Outcome State Fault Refusal :=
  .next (s.settle.mapTwin fun t => (t.receive chars).silence)

/-- TWIN_FRAME_DISCARDED: a bad frame, an unknown kind or an unfitting body (R69). -/
def execTwinFrameDiscarded (_why : TwinDiscard) (s : State) : Host.Outcome State Fault Refusal := .next s.settle.twinBadFrame

/-- HELLO_TIMER_EXPIRY (R71). -/
def execHelloTimerExpiry (s : State) : Host.Outcome State Fault Refusal := .next (s.perform fun e => e == .helloTimer)

/-- HEARTBEAT_TIMER_EXPIRY (R77). -/
def execHeartbeatTimerExpiry (s : State) : Host.Outcome State Fault Refusal :=
  .next (s.perform fun e => e == .heartbeatTimer)

/-- CLOCK_TIMER_EXPIRY (R77). -/
def execClockTimerExpiry (s : State) : Host.Outcome State Fault Refusal := .next (s.perform fun e => e == .clockTimer)

/-- LOSS_TIMER_EXPIRY (R75, R76). -/
def execLossTimerExpiry (s : State) : Host.Outcome State Fault Refusal := .next (s.perform fun e => e == .lossTimer)

end Sys2Proof.Machine
end

