-- ==== Sys2Proof/Machine/ExecCanvas.lean ====
section
/-! DEFINITION. The commands of Chapter 5: the frame event, the canvas, layout and asset records, and the camera inputs. -/

namespace Sys2Proof.Machine

/-- OUTPUT_FRAME_EVENT (R86). -/
def execOutputFrameEvent (s : State) : Host.Outcome State Fault Refusal := .next s.settle.frameEvent

/-- A CANVAS_CONFIG or a LAYOUT awaits application. -/
def State.awaits (s : State) : Bool := s.canvas.awaitingConfig.isSome || s.canvas.awaitingLayout.isSome

/-- The values of a CANVAS_CONFIG lie in their ranges, and no zone in force would leave the canvas (R85). -/
def canvasOk (rate : Rate) (width height : Nat) (zones : List Zone) : Bool :=
  canvasRates.contains rate && within 320 7680 width && within 64 2160 height &&
    zones.all fun z => rectInside width height z.spec

/-- CANVAS_CONFIG (R85). -/
def canvasConfigOwner (rate : Rate) (width height : Nat) (s : State) : Answered :=
  s.tests
    [(s.isFinal, .closed), (s.record.game.session == .inGame, .locked),
      (s.awaits || s.replay.chanA.onAir || s.replay.chanB.onAir, .busy),
      (!canvasOk rate width height s.canvas.zones, .range)] fun s =>
    (s.mapCanvas fun c => { c with awaitingConfig := some ⟨rate, width, height⟩ }).ok

def execCanvasConfig (h : Hdr) (rate : Rate) (width height : Nat) (s : State) : Host.Outcome State Fault Refusal :=
  .next (s.take h 0x38 true (canvasConfigOwner rate width height))

/-- Test 7 of R89 on one zone. -/
def replayTargetOk (z : ZoneSpec) : Bool := !z.attrs.replayTarget || z.role == .main || z.role == .general

/-- LAYOUT (R89): a count above 8, then the eight tests in order. -/
def layoutOwner (count : Nat) (zones : List ZoneSpec) (s : State) : Answered :=
  s.tests
    [(decide (8 < count), .range),
      (!noRepeats (zones.map (·.id)), .duplicate),
      (!zones.all fun z => z.id ≤ 7 && baseOk z.base, .range),
      (!zones.all (rectInside s.canvas.size.width s.canvas.size.height), .range),
      (anyOverlap zones, .range),
      (decide (1 < (zones.filter (·.base == .crawl)).length), .range),
      (zones.any fun z => z.role == .clock && z.base != .clock, .range),
      (!zones.all replayTargetOk, .range),
      (s.awaits, .busy)] fun s =>
    (s.mapCanvas fun c => { c with awaitingLayout := some (normalLayout zones) }).ok

def execLayout (h : Hdr) (count : Nat) (zones : List ZoneSpec) (s : State) : Host.Outcome State Fault Refusal :=
  .next (s.take h 0x39 (count == zones.length) (layoutOwner count zones))

/-- The frame count fits the kind (R96). -/
def frameCountOk : AssetKind → Nat → Bool
  | .still, n => n == 1
  | .run, n => within 2 65535 n
  | .loop, n => within 2 65535 n

/-- An id's missing-reported flag is cleared (R99). -/
def Canvas.clearMissing (id : Nat) (c : Canvas) : Canvas :=
  { c with missingReported := c.missingReported.filter (· != id) }

/-- ASSET_DEFINE (R96, R99). -/
def assetDefineOwner (id : Nat) (kind : AssetKind) (frames size : Nat) (s : State) : Answered :=
  s.tests
    [(decide (1023 < id) || !within 1 assetCapacity size || !frameCountOk kind frames, .range),
      ((s.asset? id).isSome, .duplicate), (decide (s.assetFree < size), .noSpace)] fun s =>
    let s := s.mapCanvas fun c => { c.clearMissing id with assets := c.assets ++ [⟨id, kind, frames, size, [], false⟩] }
    s.okWith (.count s.assetFree)

def execAssetDefine (h : Hdr) (id : Nat) (kind : AssetKind) (frames size : Nat) (s : State) :
    Host.Outcome State Fault Refusal :=
  .next (s.take h 0x3A true (assetDefineOwner id kind frames size))

/-- An asset takes a chunk; loaded whole, it is READY (R97). -/
def Asset.load (data : List Byte) (a : Asset) : Asset :=
  { a with data := a.data ++ data, ready := a.data.length + data.length == a.size }

/-- The chunk of an asset that is loading is stored (R97). -/
def State.loadChunk (a : Asset) (data : List Byte) (s : State) : State :=
  let s := s.mapCanvas fun c => { c with assets := c.assets.map fun b => if b.id = a.id then b.load data else b }
  if a.data.length + data.length = a.size then
    (s.mapCanvas (Canvas.clearMissing a.id)).raise .assetState (.assetState a.id .ready none a.size)
  else s

/-- ASSET_CHUNK (R97). -/
def assetChunkOwner (id offset count : Nat) (data : List Byte) (s : State) : Answered :=
  if 1023 < id then s.refuse .range
  else
    match s.asset? id with
    | none => s.refuse .notFound
    | some a =>
      s.tests [(a.ready || offset != a.data.length || decide (a.size < offset + count), .range)] fun s =>
        (s.loadChunk a data).okWith (.count (a.data.length + data.length))

def execAssetChunk (h : Hdr) (id offset count : Nat) (data : List Byte) (s : State) : Host.Outcome State Fault Refusal :=
  .next (s.takeSized h 0x3B (some (8 + count)) (count == data.length && within 1 1016 count)
    (assetChunkOwner id offset count data))

/-- ASSET_DROP (R98). -/
def assetDropOwner (id : Nat) (s : State) : Answered :=
  s.tests [(decide (1023 < id), .range), ((s.asset? id).isNone, .notFound)] fun s =>
    let s := (s.mapCanvas fun c => { c with assets := c.assets.filter (·.id != id) }).raise .assetState
      (.assetState id .dropped none 0)
    s.okWith (.count s.assetFree)

def execAssetDrop (h : Hdr) (id : Nat) (s : State) : Host.Outcome State Fault Refusal :=
  .next (s.take h 0x3C true (assetDropOwner id))

/-- INPUT_CONFIG (R93). -/
def inputConfigOwner (i0 i1 i2 i3 : InputSetting) : State → Answered :=
  State.tests [(!([i0, i1, i2, i3].all fun i => cameraRates.contains i.rate), .range)] fun s =>
    ((((s.configureInput 0 i0).configureInput 1 i1).configureInput 2 i2).configureInput 3 i3).ok

def execInputConfig (h : Hdr) (i0 i1 i2 i3 : InputSetting) (s : State) : Host.Outcome State Fault Refusal :=
  .next (s.take h 0x3D true (inputConfigOwner i0 i1 i2 i3))

/-- CAMERA_FRAME (R94, R129 to R132). -/
def execCameraFrame (input : Nat) (valid : Bool) (s : State) : Host.Outcome State Fault Refusal :=
  .next (s.settle.cameraFrame input valid)

/-- INPUT_SIGNAL_TIMEOUT: 100 ms pass without a valid frame (R94, R95). -/
def execInputSignalTimeout (input : Nat) (s : State) : Host.Outcome State Fault Refusal :=
  .next (s.settle.signalTimeout input)

/-- SIGNAL_LOSS_HOLD_END (R95). -/
def execSignalLossHoldEnd (input : Nat) (s : State) : Host.Outcome State Fault Refusal :=
  .next (s.perform fun e => e == .holdEnd input)

end Sys2Proof.Machine
end

