-- ==== Sys2Proof/Machine/ExecArbiter.lean ====
section
/-! DEFINITION. The commands of Chapter 6: the production records of the arbiter and the expiry of timed takeovers. -/

namespace Sys2Proof.Machine

/-- A duration in ms as a request carries it: 0 is open, any other is converted once (R116). -/
def State.openOrFrames (ms : Nat) (s : State) : Option Nat := if ms = 0 then none else some (s.toFrames ms)

/-- The result of a zone's answer; a pending request says why it waits (R116). -/
def State.takeoverResult (zone level : Nat) (a : Answer) (s : State) : TakeoverResult :=
  match a with
  | .noZone => .notFound
  | .granted => .granted
  | .replaced => .replaced
  | _ =>
    match s.zone? zone with
    | some z =>
      if z.arb.maskedAt level then .masked
      else if heldAt s.timing.run z.spec.policy level then .held
      else .covered
    | none => .notFound

/-- A TAKEOVER applied zone by zone as a replacing request (R116). -/
def State.takeoverZones (r : Request) (zones : List Nat) (s : State) : State × List (Nat × TakeoverResult) :=
  zones.foldl (fun acc z =>
    let (s, a) := acc.1.request z r true
    (s, acc.2 ++ [(z, s.takeoverResult z r.level a)])) (s, [])

/-- The zones a record names: an empty set names every zone of the layout in force (R116, R117). They stand in ascending id,
which R116 states for the results of a TAKEOVER and which is the model's for those of a RELEASE (DESIGN CHOICE, log 20). -/
def State.namedZones (z : ZoneSet) (s : State) : List Nat := if z.ids.isEmpty then s.zoneIds else ascending8 z.ids

/-- TAKEOVER (R116). -/
def takeoverOwner (level : Nat) (zones : ZoneSet) (asset duration : Nat) (s : State) : Answered :=
  s.tests
    [(within 1 6 level, .notPermitted),
      (decide (7 < level) || decide (1023 < asset) || (duration != 0 && !within 100 600000 duration) ||
        (level == 7 && zones.ids.isEmpty) || !zoneSetIdsOk zones, .range)] fun s =>
    let frames := s.openOrFrames duration
    let (t, results) := s.takeoverZones ⟨level, .asset asset, frames, none⟩ (s.namedZones zones)
    t.okWith (.takeover (frames.getD 0) results)

def execTakeover (h : Hdr) (level : Nat) (zones : ZoneSet) (asset duration : Nat) (s : State) :
    Host.Outcome State Fault Refusal :=
  .next (s.take h 0x40 (zoneSetCounted zones) (takeoverOwner level zones asset duration))

/-- The outcome of a production RELEASE: RELEASED at its own levels, CLEARED at the others (R117). -/
def releaseOutcome (level : Nat) : Outcome := if level = 0 ∨ level = 7 then .released else .cleared

/-- The result of one zone of a RELEASE (R117). -/
def State.releaseResult (level zone : Nat) (s : State) : ReleaseResult :=
  match s.standsAt zone level with
  | some (stage, _) => .ended stage
  | none => .notFound

/-- RELEASE (R117). -/
def releaseOwner (level : Nat) (zones : ZoneSet) (s : State) : Answered :=
  s.tests [(decide (7 < level), .range), (level == 1, .notPermitted), (!zoneSetIdsOk zones, .range)] fun s =>
    let named := s.namedZones zones
    (s.endAll (releaseOutcome level) ((named.filter fun z => (s.standsAt z level).isSome).map fun z => (z, level))).okWith
      (.release (named.map fun z => (z, s.releaseResult level z)))

def execRelease (h : Hdr) (level : Nat) (zones : ZoneSet) (s : State) : Host.Outcome State Fault Refusal :=
  .next (s.take h 0x41 (zoneSetCounted zones) (releaseOwner level zones))

/-- The zone's highest level in service that is not yielded. -/
def State.topLevel (zone : Nat) (s : State) : Option Nat :=
  ((s.zone? zone).bind fun z => z.arb.topOf fun _ => true).map (·.level)

/-- CLEAR_TOP (R118). -/
def clearTopOwner (zone : Nat) (s : State) : Answered :=
  match s.topLevel zone with
  | none => s.refuse .notFound
  | some level =>
    s.tests [(level == 1, .notPermitted)] fun s =>
      (s.endAll .cleared [(zone, level)]).okWith (.topmost (.level level))

def execClearTop (h : Hdr) (zone : Nat) (s : State) : Host.Outcome State Fault Refusal :=
  .next (s.take h 0x42 true (clearTopOwner zone))

/-- MASK (R119). A level that stands twice in the set is accepted and counts once (DESIGN CHOICE, log 6). -/
def maskOwner (zone : Nat) (levels : List Nat) (s : State) : Answered :=
  s.tests [((s.zone? zone).isNone, .notFound), (!levels.all (within 1 7), .range)] fun s =>
    ((s.mapArb zone fun a => { a with mask := ascending8 levels }).evaluate zone).ok

def execMask (h : Hdr) (zone : Nat) (levels : List Nat) (s : State) : Host.Outcome State Fault Refusal :=
  .next (s.take h 0x43 true (maskOwner zone levels))

/-- The yield set with a level put in or taken out (R120). -/
def ZoneArb.setYield (level : Nat) (on : Bool) (a : ZoneArb) : ZoneArb :=
  { a with
    yielded := if on then ascending8 (level :: a.yielded) else a.yielded.filter (· != level) }

/-- The zone's topmost level at this instant, or BASE (R120, R122). -/
def State.topNow (zone : Nat) (s : State) : Top :=
  match s.topLevel zone with
  | some n => .level n
  | none => .base

/-- YIELD (R120). -/
def yieldOwner (zone level : Nat) (on : Bool) (s : State) : Answered :=
  s.tests
    [((s.zone? zone).isNone, .notFound), (decide (7 < level), .range),
      (((s.zone? zone).bind fun z => z.arb.serviceAt level).isNone, .notFound)] fun s =>
    let s := (s.mapArb zone (ZoneArb.setYield level on)).evaluate zone
    s.okWith (.topmost (s.topNow zone))

def execYield (h : Hdr) (zone level : Nat) (on : Bool) (s : State) : Host.Outcome State Fault Refusal :=
  .next (s.take h 0x44 true (yieldOwner zone level on))

/-- ZONE_POLICY (R121). -/
def zonePolicyOwner (zone : Nat) (policy : Policies) (s : State) : Answered :=
  s.tests
    [((s.zone? zone).isNone, .notFound), ((s.zone? zone).any fun z => z.spec.role == .clock, .notPermitted)] fun s =>
    ((s.mapZone zone fun z => { z with spec := { z.spec with policy := policy } }).evaluate zone).ok

def execZonePolicy (h : Hdr) (zone : Nat) (policy : Policies) (s : State) : Host.Outcome State Fault Refusal :=
  .next (s.take h 0x45 true (zonePolicyOwner zone policy))

/-- The values of a ZONE_QUERY (R122). -/
def Zone.reading (run : RunState) (z : Zone) : ZoneReading where
  id := z.spec.id
  role := z.spec.role
  run := run
  pending := z.arb.pending.map fun r =>
    ⟨r, ownerOf r.level, z.arb.maskedAt r.level, heldAt run z.spec.policy r.level, z.arb.coveredAt r.level⟩
  service := z.arb.service.map fun t => ⟨t, z.arb.yielded.contains t.level⟩
  mask := z.arb.mask
  yielded := z.arb.yielded
  heldLevels := (z.arb.pending.filter fun r => heldAt run z.spec.policy r.level).map (·.level)
  policy := z.spec.policy
  top := z.arb.topNow
  wouldGrant := (z.arb.pending.find? fun r => !z.arb.maskedAt r.level && !heldAt run z.spec.policy r.level).map (·.level)

/-- ZONE_QUERY (R122). -/
def zoneQueryOwner (zone : Nat) (s : State) : Answered :=
  match s.zone? zone with
  | some z => s.okWith (.zoneQuery (z.reading s.timing.run))
  | none => s.refuse .notFound

def execZoneQuery (h : Hdr) (zone : Nat) (s : State) : Host.Outcome State Fault Refusal :=
  .next (s.take h 0x46 true (zoneQueryOwner zone))

/-- TAKEOVER_EXPIRY (R113). -/
def execTakeoverExpiry (zone : Nat) (s : State) : Host.Outcome State Fault Refusal :=
  .next (s.perform fun e => e == .takeoverExpiry zone)

end Sys2Proof.Machine
end

