-- ==== Sys2Proof/Machine/ExecReplay.lean ====
section
/-! DEFINITION. The commands of Chapters 7 and 8: the capture records, the clips and the playout channels. -/

namespace Sys2Proof.Machine

/-! ## Capture (Chapter 7) -/

/-- A ring size: 0, or 1,200..120,000 (R126). -/
def ringSizeOk (n : Nat) : Bool := n == 0 || within 1200 120000 n

/-- The clip is SAVING or SAVED. -/
def Clip.holdsExtent (c : Clip) : Bool := c.extent.isSome

/-- A partition empties every ring and gives it its new size (R127). -/
def Ring.partition (size : Nat) (r : Ring) : Ring := { r with size := size, floor := r.w, rate := none }

/-- RING_PARTITION takes effect (R127, R140); several clips become LOST in the clip table's order (DESIGN CHOICE, log 20). -/
def State.partitionRings (r0 r1 r2 r3 : Nat) (s : State) : State :=
  let s := (((s.mapRing 0 (Ring.partition r0)).mapRing 1 (Ring.partition r1)).mapRing 2 (Ring.partition r2)).mapRing 3
    (Ring.partition r3)
  (s.replay.clips.filter fun c => c.state == .ring).foldl (fun s c => s.loseClip .partition none c) s

/-- RING_PARTITION (R126, R127). -/
def ringPartitionOwner (r0 r1 r2 r3 : Nat) (s : State) : Answered :=
  s.tests
    [(!([r0, r1, r2, r3].all ringSizeOk) || decide (frameSlots < r0 + r1 + r2 + r3), .range),
      (s.replay.clips.any (·.holdsExtent) || s.replay.chanA.state != .idle || s.replay.chanB.state != .idle, .busy)]
    fun s =>
    let s := s.partitionRings r0 r1 r2 r3
    s.okWith (.count s.storeSize)

def execRingPartition (h : Hdr) (r0 r1 r2 r3 : Nat) (s : State) : Host.Outcome State Fault Refusal :=
  .next (s.take h 0x48 true (ringPartitionOwner r0 r1 r2 r3))

/-- CAPTURE_RESTART (R133, R134). -/
def captureRestartOwner (input : Nat) : State → Answered :=
  State.tests [(decide (3 < input), .range)] fun s =>
    let s := s.captureRestart input
    s.okWith (.count (s.ring input).floor)

def execCaptureRestart (h : Hdr) (input : Nat) (s : State) : Host.Outcome State Fault Refusal :=
  .next (s.take h 0x49 true (captureRestartOwner input))

def thresholdOk : Threshold → Bool
  | .programmed v => within 1 65535 v
  | _ => true

/-- A reader is tested if it reads the input (R137). -/
def State.testReaderOf (input : Nat) (name : ReaderName) (s : State) : State :=
  if (s.reader name).any (·.input == input) then s.testReader name else s

/-- MARGIN_SET (R137); the readers of the input are tested in the order SAVE, CHANNEL_A, CHANNEL_B (DESIGN CHOICE, log 20). -/
def marginSetOwner (input : Nat) (choice : Threshold) : State → Answered :=
  State.tests [(decide (3 < input) || !thresholdOk choice, .range)] fun s =>
    let s := s.mapRing input fun r => { r with threshold := choice }
    let s := ((s.testReaderOf input .save).testReaderOf input .channelA).testReaderOf input .channelB
    s.okWith (.count (thresholdFrames choice))

def execMarginSet (h : Hdr) (input : Nat) (choice : Threshold) (s : State) : Host.Outcome State Fault Refusal :=
  .next (s.take h 0x4A true (marginSetOwner input choice))

/-- The attached readers of an input as RING_STATUS shows them (R138), which gives them no order: SAVE, CHANNEL_A, CHANNEL_B
(DESIGN CHOICE, log 20). -/
def State.readersOf (input : Nat) (s : State) : List ReaderReading :=
  [ReaderName.save, .channelA, .channelB].filterMap fun name =>
    match s.reader name with
    | some r => if r.input = input then some ⟨name, r.seq, s.margin r, r.armed⟩ else none
    | none => none

/-- The values of a RING_STATUS (R138). -/
def State.ringReading (n : Nat) (s : State) : RingReading where
  input := n
  enabled := (s.input n).enabled
  signal := (s.input n).signal
  rate := (s.input n).rate
  ringRate := (s.ring n).rate
  size := (s.ring n).size
  w := (s.ring n).w
  floor := (s.ring n).floor
  oldest := (s.ring n).oldest
  held := (s.ring n).w - (s.ring n).oldest
  storeSize := s.storeSize
  threshold := thresholdFrames (s.ring n).threshold
  choice := (s.ring n).threshold
  readers := s.readersOf n

/-- RING_STATUS (R138). -/
def ringStatusOwner (input : Nat) : State → Answered :=
  State.tests [(decide (3 < input), .range)] fun s => s.okWith (.ringStatus (s.ringReading input))

def execRingStatus (h : Hdr) (input : Nat) (s : State) : Host.Outcome State Fault Refusal :=
  .next (s.take h 0x4B true (ringStatusOwner input))

/-! ## Clips (sections 8.1 to 8.3) -/

/-- A clip as CLIP_CREATE makes it (R141). -/
def newClip (id input inSeq outSeq : Nat) (rate : Option Rate) (tag : Option Nat) (label : Option Text) : Clip :=
  ⟨id, input, inSeq, outSeq, rate.getD ⟨60, 1⟩, .ring, tag, label⟩

/-- CLIP_CREATE (R141). -/
def clipCreateOwner (id input inSeq outSeq : Nat) (tag : Option Nat) (label : Option Text) (s : State) : Answered :=
  s.tests
    [(decide (127 < id) || decide (3 < input), .range),
      ((s.clip? id).isSome, .duplicate),
      (label.any fun t => !textOk 1 16 t, .range),
      (decide (outSeq < inSeq) || decide (36000 < outSeq - inSeq + 1), .range),
      (decide (inSeq < (s.ring input).oldest) || decide ((s.ring input).w ≤ outSeq), .range),
      (!optAtMost 63 tag, .range),
      (!s.sponsorKnown tag, .notFound)] fun s =>
    (s.mapReplay fun r =>
      { r with clips := r.clips ++ [newClip id input inSeq outSeq (s.ring input).rate tag label] }).okWith
        (.count (outSeq - inSeq + 1))

def execClipCreate (h : Hdr) (id input inSeq outSeq : Nat) (tag : Option Nat) (label : Option Text) (s : State) :
    Host.Outcome State Fault Refusal :=
  .next (s.take h 0x50 true (clipCreateOwner id input inSeq outSeq tag label))

/-- CLIP_SAVE (R143, R144). -/
def clipSaveOwner (id : Nat) (s : State) : Answered :=
  if 127 < id then s.refuse .range
  else
    match s.clip? id with
    | none => s.refuse .notFound
    | some c =>
      match c.state with
      | .lost => s.refuse .notFound
      | .saving _ _ => s.refuse .busy
      | .saved _ => s.refuse .duplicate
      | .ring =>
        if 8 ≤ s.replay.saveQueue.length then s.refuse .full
        else
          match s.firstFit c.length with
          | none => s.refuse .noSpace
          | some start =>
            (((s.mapClip id fun c => { c with state := .saving start c.inSeq }).mapReplay fun r =>
              { r with saveQueue := r.saveQueue ++ [id] }).syncReaders).okWith
                (.pair start s.replay.saveQueue.length)

def execClipSave (h : Hdr) (id : Nat) (s : State) : Host.Outcome State Fault Refusal :=
  .next (s.take h 0x51 true (clipSaveOwner id))

/-- CLIP_DELETE (R147). -/
def clipDeleteOwner (id : Nat) (s : State) : Answered :=
  s.tests
    [(decide (127 < id), .range), ((s.clip? id).isNone, .notFound), (decide (0 < s.cuesNaming id), .busy)] fun s =>
    let s := (s.mapReplay fun r =>
      { r with clips := r.clips.filter (·.id != id), saveQueue := r.saveQueue.filter (· != id) }).syncReaders
    s.okWith (.count s.freeSlots)

def execClipDelete (h : Hdr) (id : Nat) (s : State) : Host.Outcome State Fault Refusal :=
  .next (s.take h 0x52 true (clipDeleteOwner id))

/-- The place of a value in a list, none where it has none. The head is 0: R142 says so of the save queue, and MSG_LIST counts
its places alike, for which R200 gives no base (DESIGN CHOICE, log 24). -/
def placeIn (n : Nat) (l : List Nat) : Option Nat := if l.contains n then some (l.idxOf n) else none

/-- CLIP_READ (R142). -/
def clipReadOwner (id : Nat) (s : State) : Answered :=
  if 127 < id then s.refuse .range
  else
    match s.clip? id with
    | none => s.refuse .notFound
    | some c =>
      s.okWith (.clipRead ⟨c, placeIn id s.replay.saveQueue, s.cuesNaming id, s.freeSlots, s.longestRun⟩)

def execClipRead (h : Hdr) (id : Nat) (s : State) : Host.Outcome State Fault Refusal :=
  .next (s.take h 0x53 true (clipReadOwner id))

/-- SAVE_COPY_FRAME (R145). -/
def execSaveCopyFrame (s : State) : Host.Outcome State Fault Refusal := .next s.settle.copyFrame

/-! ## Channels (sections 8.4 to 8.8) -/

/-- The values of a CUE_ADD lie in their ranges (test 1 of R148). -/
def cueOk (f : CueFields) : Bool :=
  f.clip ≤ 127 && speedOk f.speed && f.loops ≤ 8 && f.zone ≤ 7 && optAtMost 63 f.tag

/-- The clip a cue can name: held and not LOST (test 2 of R148). -/
def State.cueClip (id : Nat) (s : State) : Option Clip := (s.clip? id).filter fun c => c.state != .lost

/-- The entry joins the tail of the list; a head is loaded (R148, R149). -/
def State.addCue (ch : Channel) (f : CueFields) (clip : Clip) (s : State) : State :=
  let tag := f.tag.or clip.tag
  let wasIdle := (s.chan ch).state == .idle
  let s := s.mapChan ch fun c =>
    { c with cues := c.cues ++ [⟨c.nextCue, { f with tag := tag }⟩], nextCue := nextNumber c.nextCue }
  if wasIdle then s.loadHead ch else s

/-- CUE_ADD (R148). -/
def cueAddOwner (ch : Channel) (f : CueFields) (s : State) : Answered :=
  if !cueOk f then s.refuse .range
  else
    match s.cueClip f.clip with
    | none => s.refuse .notFound
    | some clip =>
      s.tests
        [(decide (clip.length ≤ f.offset), .range), ((s.zone? f.zone).isNone, .notFound),
          (!s.replayTarget f.zone, .range), (!s.sponsorKnown f.tag, .notFound),
          (decide (16 ≤ (s.chan ch).cues.length), .full)] fun s =>
        (s.addCue ch f clip).okWith (.pair (s.chan ch).nextCue ((s.chan ch).cues.length + 1))

def execCueAdd (h : Hdr) (ch : Channel) (f : CueFields) (s : State) : Host.Outcome State Fault Refusal :=
  .next (s.take h 0x54 true (cueAddOwner ch f))

/-- The entry of a number leaves the list; a removed head is followed by the next (R150). Where the numbering has wrapped and
two entries of the list hold one number, the head leaves alone if it has the number, else every entry that has it (DESIGN
CHOICE, log 24). -/
def State.removeCue (ch : Channel) (number : Nat) (s : State) : State :=
  if (s.chan ch).cues.head?.any (·.number == number) then s.popHead ch
  else s.mapChan ch fun c => { c with cues := c.cues.filter (·.number != number) }

/-- CUE_REMOVE (R150). -/
def cueRemoveOwner (ch : Channel) (number : Nat) (s : State) : Answered :=
  s.tests
    [(!(s.chan ch).cues.any (·.number == number), .notFound),
      ((s.chan ch).cues.head?.any (·.number == number) && (s.chan ch).onAir, .busy)] fun s =>
    let s := s.removeCue ch number
    s.okWith (.count (s.chan ch).cues.length)

def execCueRemove (h : Hdr) (ch : Channel) (number : Nat) (s : State) : Host.Outcome State Fault Refusal :=
  .next (s.take h 0x55 true (cueRemoveOwner ch number))

/-- CHANNEL_ROLL (R151). -/
def channelRollOwner (ch : Channel) (s : State) : Answered :=
  s.tests
    [((s.chan ch).state == .idle, .notFound), ((s.chan ch).onAir, .busy), (s.canvas.awaitingConfig.isSome, .busy)]
    fun s =>
    let (t, dropped, result) := s.roll ch
    t.okWith (.roll dropped result)

def execChannelRoll (h : Hdr) (ch : Channel) (s : State) : Host.Outcome State Fault Refusal :=
  .next (s.take h 0x56 true (channelRollOwner ch))

/-- The number of a channel's head entry. -/
def Chan.headNumber (c : Chan) : Nat := (c.cues.head?.map (·.number)).getD 0

/-- CHANNEL_STOP (R159). -/
def channelStopOwner (ch : Channel) (s : State) : Answered :=
  s.tests [(!(s.chan ch).onAir, .notFound)] fun s =>
    (s.releaseEntry ch .stopped).okWith (.count (s.chan ch).headNumber)

def execChannelStop (h : Hdr) (ch : Channel) (s : State) : Host.Outcome State Fault Refusal :=
  .next (s.take h 0x57 true (channelStopOwner ch))

/-- The head entry takes a speed (R155). -/
def Chan.setSpeed (speed : Int) (c : Chan) : Chan :=
  { c with
    cues := match c.cues with
      | e :: rest => { e with fields := { e.fields with speed := speed } } :: rest
      | [] => [] }

/-- CHANNEL_SPEED (R155). -/
def channelSpeedOwner (ch : Channel) (speed : Int) (s : State) : Answered :=
  s.tests [(!speedOk speed, .range), ((s.chan ch).state == .idle, .notFound)] fun s =>
    (s.mapChan ch (Chan.setSpeed speed)).ok

def execChannelSpeed (h : Hdr) (ch : Channel) (speed : Int) (s : State) : Host.Outcome State Fault Refusal :=
  .next (s.take h 0x58 true (channelSpeedOwner ch speed))

/-- CHANNEL_CHAIN (R153). -/
def channelChainOwner (ch : Channel) (on : Bool) (s : State) : Answered :=
  (s.mapChan ch fun c => { c with chain := on }).ok

def execChannelChain (h : Hdr) (ch : Channel) (on : Bool) (s : State) : Host.Outcome State Fault Refusal :=
  .next (s.take h 0x59 true (channelChainOwner ch on))

/-- The reader of a channel. -/
def readerOf : Channel → ReaderName
  | .a => .channelA
  | .b => .channelB

/-- The head entry as CHANNEL_STATUS shows it (R162). A head whose frame lies neither in the ring nor in the store (its clip
LOST, or the position below O) is shown as not in the store, which R162 leaves open (DESIGN CHOICE, log 24). -/
def State.headReading (ch : Channel) (s : State) : Option HeadReading :=
  match (s.chan ch).cues with
  | [] => none
  | e :: _ =>
    match s.clip? e.fields.clip with
    | none => none
    | some clip =>
      some
        { pos := (s.chan ch).pos
          acc := (s.chan ch).acc
          num := cadenceNum e.fields.speed clip.rate s.canvas.size.rate
          den := cadenceDen clip.rate s.canvas.size.rate
          passes := (s.chan ch).passes
          shown := (s.chan ch).shown
          inStore := clip.inStore (s.chan ch).pos
          margin := (s.reader (readerOf ch)).map s.margin }

/-- CHANNEL_STATUS (R162). -/
def channelStatusOwner (ch : Channel) (s : State) : Answered :=
  s.okWith (.channelStatus (s.chan ch).state (s.chan ch).chain (s.headReading ch) (s.chan ch).cues)

def execChannelStatus (h : Hdr) (ch : Channel) (s : State) : Host.Outcome State Fault Refusal :=
  .next (s.take h 0x5A true (channelStatusOwner ch))

end Sys2Proof.Machine
end

