-- ==== Sys2Proof/Machine/ExecRotation.lean ====
section
/-! DEFINITION. The commands of Chapters 9 and 10: sponsors, rotation programs, features, quotas and exposure. -/

namespace Sys2Proof.Machine

/-! ## Sponsors (R164, R165) -/

/-- An optional quota is absent or in 1..2^48 - 1. -/
def quotaOk : Option Nat → Bool
  | none => true
  | some q => within 1 max48 q

/-- SPONSOR_DEFINE with action DEFINE (R164). -/
def sponsorDefineOwner (id : Nat) (name : Text) (quota : Option Nat) (s : State) : Answered :=
  s.tests
    [(decide (63 < id), .range), (s.sponsorDefined id, .duplicate), (!textOk 1 16 name, .range),
      (!quotaOk quota, .range)] fun s =>
    ((s.mapRotation fun r => { r with sponsors := r.sponsors ++ [⟨id, name⟩] }).setQuota id quota).ok

def execSponsorDefine (h : Hdr) (id : Nat) (name : Text) (quota : Option Nat) (s : State) :
    Host.Outcome State Fault Refusal :=
  .next (s.take h 0x60 true (sponsorDefineOwner id name quota))

/-- A zone names the sponsor as the credit of a request or a takeover. -/
def Zone.credits (id : Nat) (z : Zone) : Bool :=
  z.arb.pending.any (·.credit == some id) || z.arb.service.any (·.credit == some id)

/-- The sponsors that the rotation unit names. -/
def Rotation.names (id : Nat) (r : Rotation) : Bool :=
  r.programs.any (fun g => g.entries.any (·.sponsor == some id)) || r.features.any (·.sponsor == id) ||
    r.breakConfig.any (·.1 == id)

/-- The sponsors that the replay unit names. -/
def Replay.names (id : Nat) (r : Replay) : Bool :=
  (r.chanA.cues ++ r.chanB.cues).any (·.fields.tag == some id) || r.clips.any (·.tag == some id)

/-- Something still names the sponsor (the list of R165). -/
def State.sponsorNamed (id : Nat) (s : State) : Bool :=
  s.rotation.names id || s.record.game.config.sponsor == some id || s.replay.names id ||
    s.crawl.config.sponsor == some id || s.canvas.zones.any (·.credits id)

/-- SPONSOR_DEFINE with action REMOVE (R165). -/
def sponsorRemoveOwner (id : Nat) (s : State) : Answered :=
  s.tests
    [(decide (63 < id), .range), (!s.sponsorDefined id, .notFound), (s.sponsorNamed id, .busy)] fun s =>
    ((s.mapRotation fun r => { r with sponsors := r.sponsors.filter (·.id != id) }).setQuota id none).ok

def execSponsorRemove (h : Hdr) (id : Nat) (s : State) : Host.Outcome State Fault Refusal :=
  .next (s.take h 0x60 true (sponsorRemoveOwner id))

/-! ## Programs (R167, R172 to R174, R178) -/

/-- An entry's values lie in their ranges (test 1 of R167). Table 9-2 gives the id 0..255 and R167 no test of it: an id above
255 is taken as it stands (DESIGN CHOICE, log 6). -/
def rotEntryOk (e : RotEntry) : Bool := e.asset ≤ 1023 && optAtMost 63 e.sponsor && within 2000 60000 e.dwell

/-- ROTATION_LOAD takes effect (R167, R170). -/
def State.loadProgram (p : Nat) (entries : List RotEntry) (s : State) : State :=
  let s := (s.dropAppearance p).mapProgram p fun g => { g with entries := entries, pointer := 0 }
  if s.active p then s.select p else s

/-- ROTATION_LOAD (R167). -/
def rotationLoadOwner (p count : Nat) (entries : List RotEntry) (s : State) : Answered :=
  s.tests
    [(decide (3 < p) || decide (32 < count) || !entries.all rotEntryOk, .range),
      (!noRepeats (entries.map (·.id)), .duplicate),
      (!entries.all fun e => s.sponsorKnown e.sponsor, .notFound)] fun s =>
    (s.loadProgram p entries).okWith (.count count)

def execRotationLoad (h : Hdr) (p count : Nat) (entries : List RotEntry) (s : State) :
    Host.Outcome State Fault Refusal :=
  .next (s.take h 0x61 (count == entries.length) (rotationLoadOwner p count entries))

/-- The entry on air; none while the appearance is absent or a slate. -/
def Program.entryOnAir (g : Program) : Option RotEntry := g.onAir.bind (·.entry)

/-- The pointer after a change of mode (R174). -/
def Program.pointerFor (mode : RotMode) (g : Program) : Nat :=
  match g.mode, mode with
  | .rotate, .fixed =>
    match g.entryOnAir with
    | some e => indexAfter g.entries e.id
    | none => 0
  | _, _ => g.pointer

/-- ROTATION_MODE (R174). -/
def rotationModeOwner (p : Nat) (mode : RotMode) (cover : Cover) : State → Answered :=
  State.tests [(decide (3 < p), .range)] fun s =>
    (s.mapProgram p fun g => { g with mode := mode, cover := cover, pointer := g.pointerFor mode }).ok

def execRotationMode (h : Hdr) (p : Nat) (mode : RotMode) (cover : Cover) (s : State) :
    Host.Outcome State Fault Refusal :=
  .next (s.take h 0x62 true (rotationModeOwner p mode cover))

/-- The tests of the records that name an entry (section 9.4). -/
def State.entryTests (p id : Nat) (s : State) : List (Bool × Status) :=
  [(decide (3 < p), .range), (!(s.program p).entries.any (·.id == id), .notFound)]

/-- An entry's suspended flag is set or cleared (R172). -/
def State.flagEntry (p id : Nat) (suspended : Bool) (s : State) : State :=
  s.mapProgram p fun g =>
    { g with entries := g.entries.map fun e => if e.id = id then { e with suspended := suspended } else e }

/-- ROTATION_SUSPEND takes effect: an entry on air leaves the air at once (R172). -/
def State.suspendEntry (p id : Nat) (s : State) : State :=
  let s := s.flagEntry p id true
  if (s.program p).entryOnAir.any (·.id == id) then s.endAppearance p else s

/-- ROTATION_SUSPEND (R172). -/
def rotationSuspendOwner (p id : Nat) (s : State) : Answered :=
  s.tests (s.entryTests p id) fun s => (s.suspendEntry p id).ok

def execRotationSuspend (h : Hdr) (p id : Nat) (s : State) : Host.Outcome State Fault Refusal :=
  .next (s.take h 0x63 true (rotationSuspendOwner p id))

/-- ROTATION_RESUME (R172). -/
def rotationResumeOwner (p id : Nat) (s : State) : Answered :=
  s.tests (s.entryTests p id) fun s => (s.flagEntry p id false).ok

def execRotationResume (h : Hdr) (p id : Nat) (s : State) : Host.Outcome State Fault Refusal :=
  .next (s.take h 0x64 true (rotationResumeOwner p id))

/-- The entry moves to the head of the list (R173). -/
def moveToHead (id : Nat) (es : List RotEntry) : List RotEntry :=
  es.filter (fun e => e.id == id) ++ es.filter fun e => e.id != id

/-- The named entry becomes the next candidate considered (R173). -/
def Program.front (id : Nat) (g : Program) : Program :=
  match g.mode with
  | .rotate => { g with entries := moveToHead id g.entries }
  | .fixed => { g with pointer := g.entries.findIdx (·.id == id) }

/-- ROTATION_FRONT (R173). -/
def rotationFrontOwner (p id : Nat) (s : State) : Answered :=
  s.tests (s.entryTests p id) fun s =>
    let s := s.mapProgram p (Program.front id)
    s.okWith (.count ((s.program p).entries.findIdx (·.id == id)))

def execRotationFront (h : Hdr) (p id : Nat) (s : State) : Host.Outcome State Fault Refusal :=
  .next (s.take h 0x65 true (rotationFrontOwner p id))

/-- The values of a ROTATION_STATUS (R178). -/
def State.rotationReading (p : Nat) (s : State) : RotationReading where
  program := p
  active := s.active p
  carrying := s.carrying p
  mode := (s.program p).mode
  cover := (s.program p).cover
  pointer := (s.program p).pointer
  entries := (s.program p).entries.map fun e => ⟨e, s.assetReady e.asset, e.sponsor.any fun id => (s.exposed id).fulfilled⟩
  onAir := (s.program p).onAir
  slates := (s.program p).slates
  dropped := s.rotation.featuresDropped
  features := s.rotation.features
  breakConfig := s.rotation.breakConfig
  breakRecorded := s.rotation.breakRecorded

/-- ROTATION_STATUS (R178). -/
def rotationStatusOwner (p : Nat) : State → Answered :=
  State.tests [(decide (3 < p), .range)] fun s => s.okWith (.rotationStatus (s.rotationReading p))

def execRotationStatus (h : Hdr) (p : Nat) (s : State) : Host.Outcome State Fault Refusal :=
  .next (s.take h 0x68 true (rotationStatusOwner p))

/-- APPEARANCE_DWELL_END (R170). -/
def execAppearanceDwellEnd (p : Nat) (s : State) : Host.Outcome State Fault Refusal :=
  .next (s.perform fun e => e == .dwellEnd p)

/-! ## Features (R175, R177) -/

/-- FEATURE_ADD (R175). -/
def featureAddOwner (sponsor asset duration : Nat) (zones : ZoneSet) (s : State) : Answered :=
  s.tests
    [(decide (63 < sponsor) || decide (1023 < asset) || !within 1000 120000 duration || !zoneSetIdsOk zones, .range),
      (!s.sponsorDefined sponsor, .notFound), (decide (8 ≤ s.rotation.features.length), .full)] fun s =>
    (s.appendFeature sponsor asset duration zones.ids false).okWith
      (.pair s.rotation.nextFeature s.rotation.features.length)

def execFeatureAdd (h : Hdr) (sponsor asset duration : Nat) (zones : ZoneSet) (s : State) :
    Host.Outcome State Fault Refusal :=
  .next (s.take h 0x66 (zoneSetCounted zones) (featureAddOwner sponsor asset duration zones))

/-- BREAK_FEATURE (R177). -/
def breakFeatureOwner (config : Option (Nat × Nat)) (s : State) : Answered :=
  s.tests
    [(config.any fun c => decide (63 < c.1) || decide (1023 < c.2), .range),
      (config.any fun c => !s.sponsorDefined c.1, .notFound)] fun s =>
    (s.mapRotation fun r => { r with breakConfig := config }).ok

def execBreakFeature (h : Hdr) (config : Option (Nat × Nat)) (s : State) : Host.Outcome State Fault Refusal :=
  .next (s.take h 0x67 true (breakFeatureOwner config))

/-! ## Exposure (R183, R185, R188) -/

/-- The result of a QUOTA_SET (R185). -/
def Exposed.quotaResult (e : Exposed) : Result := .quota (e.quota.getD 0) e.p50 e.p75 e.p100 e.fulfilled

/-- QUOTA_SET (R185). -/
def quotaSetOwner (id : Nat) (quota : Option Nat) (s : State) : Answered :=
  s.tests [(decide (63 < id) || !quotaOk quota, .range), (!s.sponsorDefined id, .notFound)] fun s =>
    let s := s.setQuota id quota
    s.okWith (s.exposed id).quotaResult

def execQuotaSet (h : Hdr) (id : Nat) (quota : Option Nat) (s : State) : Host.Outcome State Fault Refusal :=
  .next (s.take h 0x6A true (quotaSetOwner id quota))

/-- COUNTER_MASK (R183). -/
def counterMaskOwner (mask : CounterMask) (share : Nat) : State → Answered :=
  State.tests [(!mask.delivered || decide (100 < share), .range)] fun s =>
    (s.mapExposure fun e => { e with mask := mask, tagShare := share }).ok

def execCounterMask (h : Hdr) (mask : CounterMask) (share : Nat) (s : State) : Host.Outcome State Fault Refusal :=
  .next (s.take h 0x6B true (counterMaskOwner mask share))

/-- EXPOSURE_READ (R188, Table 10-2). -/
def exposureReadOwner (id : Nat) : State → Answered :=
  State.tests [(decide (63 < id), .range)] fun s =>
    s.okWith (.exposureRead ⟨id, s.sponsorDefined id, s.exposed id, s.exposure.mask, s.exposure.tagShare⟩)

def execExposureRead (h : Hdr) (id : Nat) (s : State) : Host.Outcome State Fault Refusal :=
  .next (s.take h 0x6C true (exposureReadOwner id))

end Sys2Proof.Machine
end

