-- ==== Sys2Proof/Machine/ExecCrawl.lean ====
section
/-! DEFINITION. The commands of Chapter 11: the crawl configuration and the crowd messages. -/

namespace Sys2Proof.Machine

/-- The values of a CRAWL_CONFIG lie in their ranges (test 1 of R190). -/
def crawlConfigOk (c : CrawlConfig) : Bool :=
  c.speed != 0 && within 16 512 c.gap && c.widths.all (within 4 64) && optAtMost 3 c.idle && optAtMost 63 c.sponsor &&
    zoneSetIdsOk c.zones && within 2000 30000 c.duration && within 1 64 c.backlog

/-- The configuration as it is taken: the speed clamped to 16 (R190). -/
def clampSpeed (c : CrawlConfig) : CrawlConfig := { c with speed := min 16 c.speed }

/-- CRAWL_CONFIG takes effect; a change of idle source is told to the rotation unit (R166, R190). -/
def State.configureCrawl (config : CrawlConfig) (s : State) : State :=
  let before := s.activePrograms
  (s.mapCrawl fun c => { c with config := clampSpeed config }).activityChanged before

/-- CRAWL_CONFIG (R190). -/
def crawlConfigOwner (config : CrawlConfig) (s : State) : Answered :=
  s.tests
    [(!crawlConfigOk config, .range), (!s.sponsorKnown config.sponsor, .notFound),
      (decide (s.crawl.config.gap < config.gap) && !s.crawl.strip.isEmpty, .busy)] fun s =>
    (s.configureCrawl config).okWith (.count (min 16 config.speed))

def execCrawlConfig (h : Hdr) (config : CrawlConfig) (s : State) : Host.Outcome State Fault Refusal :=
  .next (s.take h 0x70 (config.widths.length == 95 && zoneSetCounted config.zones) (crawlConfigOwner config))

/-- How many messages are HELD. -/
def Crawl.heldCount (c : Crawl) : Nat := (c.messages.filter (·.state == .held)).length

/-- CRAWL_BACKLOG where the queue has just come to the mark (R191). -/
def State.raiseBacklog (s : State) : State :=
  let n := s.crawl.messages.length
  if n = s.crawl.config.backlog then
    s.raise .crawlBacklog (.crawlBacklog n s.crawl.heldCount s.crawl.config.backlog)
  else s

/-- MSG_SUBMIT (R191). -/
def msgSubmitOwner (id : Nat) (text : Text) (repeats : Nat) (cls : MsgClass) (s : State) : Answered :=
  s.tests
    [(id == 0 || !textOk 1 200 text || !within 1 5 repeats, .range), ((s.crawl.message? id).isSome, .duplicate),
      (decide (64 ≤ s.crawl.messages.length), .full)] fun s =>
    let s := s.mapCrawl fun c => { c with messages := c.messages ++ [⟨id, text, repeats, cls, .held, false, 0⟩] }
    s.raiseBacklog.okWith (.count s.crawl.messages.length)

def execMsgSubmit (h : Hdr) (id : Nat) (text : Text) (repeats : Nat) (cls : MsgClass) (s : State) :
    Host.Outcome State Fault Refusal :=
  .next (s.take h 0x71 true (msgSubmitOwner id text repeats cls))

/-- MSG_APPROVE takes effect: a FEATURED message that becomes the head of the feature order has its card requested
(R192, R198). -/
def State.approveMessage (m : Message) (s : State) : State :=
  let s := (s.mapMessage m.id fun m => { m with state := .queued }).mapCrawl fun c => { c with order := c.order ++ [m.id] }
  match m.cls with
  | .ordinary => s
  | .featured =>
    let wasEmpty := s.crawl.featureOrder.isEmpty
    let s := s.mapCrawl fun c => { c with featureOrder := c.featureOrder ++ [m.id] }
    if wasEmpty then s.startCards s.crawl.featureOrder else s

/-- MSG_APPROVE (R192). -/
def msgApproveOwner (id : Nat) (s : State) : Answered :=
  if id = 0 then s.refuse .range
  else
    match s.crawl.message? id with
    | none => s.refuse .notFound
    | some m =>
      s.tests [(m.state != .held, .busy)] fun s =>
        let s := s.approveMessage m
        s.okWith (.count s.crawl.messages.length)

def execMsgApprove (h : Hdr) (id : Nat) (s : State) : Host.Outcome State Fault Refusal :=
  .next (s.take h 0x72 true (msgApproveOwner id))

/-- MSG_REJECT (R192). -/
def msgRejectOwner (id : Nat) (s : State) : Answered :=
  if id = 0 then s.refuse .range
  else
    match s.crawl.message? id with
    | none => s.refuse .notFound
    | some m =>
      s.tests [(m.state != .held, .busy)] fun s =>
        let s := s.finishMessage .rejected m
        s.okWith (.count s.crawl.messages.length)

def execMsgReject (h : Hdr) (id : Nat) (s : State) : Host.Outcome State Fault Refusal :=
  .next (s.take h 0x73 true (msgRejectOwner id))

/-- The zones and level of the message's card, if it stands (R193). -/
def Crawl.cardItems (id : Nat) (c : Crawl) : List (Nat × Nat) :=
  match c.card with
  | some k => if k.message = id then k.zones.map fun z => (z, 6) else []
  | none => []

/-- MSG_WITHDRAW takes effect: the message leaves every list, its card is released and the next requested, and
MESSAGE_DONE is raised (R193). -/
def State.withdrawMessage (m : Message) (s : State) : State :=
  let items := s.crawl.cardItems m.id
  ((s.removeMessage m.id).endAll .released items).raiseDone .withdrawn m

/-- MSG_WITHDRAW (R193). -/
def msgWithdrawOwner (id : Nat) (s : State) : Answered :=
  if id = 0 then s.refuse .range
  else
    match s.crawl.message? id with
    | none => s.refuse .notFound
    | some m =>
      let s := s.withdrawMessage m
      s.okWith (.count s.crawl.messages.length)

def execMsgWithdraw (h : Hdr) (id : Nat) (s : State) : Host.Outcome State Fault Refusal :=
  .next (s.take h 0x74 true (msgWithdrawOwner id))

/-- A message as MSG_LIST shows it (R200). -/
def Crawl.reading (form : ListForm) (c : Crawl) (m : Message) : MsgReading where
  id := m.id
  cls := m.cls
  state := m.state
  repeats := m.repeats
  passes := m.passes
  featuredDone := m.featuredDone
  crawlPlace := placeIn m.id c.order
  featurePlace := placeIn m.id c.featureOrder
  x := (c.strip.find? (·.id == m.id)).map (·.x)
  width := ((c.strip.find? (·.id == m.id)).map (·.width)).getD (textWidth c.config.widths m.text)
  text := match form with
    | .text => some m.text
    | .short => none

/-- How many entries a MSG_LIST returns at most (R200). -/
def listLimit : ListForm → Nat
  | .short => 32
  | .text => 4

/-- MSG_LIST (R200). -/
def msgListOwner (start : Nat) (form : ListForm) : State → Answered :=
  State.tests [(decide (63 < start), .range)] fun s =>
    let c := s.crawl
    s.okWith (.msgList c.messages.length c.heldCount c.strip.length c.order.length c.featureOrder.length c.cardsDropped
      (((c.messages.drop start).take (listLimit form)).map (c.reading form)))

def execMsgList (h : Hdr) (start : Nat) (form : ListForm) (s : State) : Host.Outcome State Fault Refusal :=
  .next (s.take h 0x75 true (msgListOwner start form))

end Sys2Proof.Machine
end

