-- ==== Sys2Proof/Machine/Wire.lean ====
section
/-! DEFINITION. The frames a control link puts on its line (sections 1.1, 1.3 and 1.6): the bytes of a reply or a notice,
with the layouts of Tables 2-4 and 10-2 and of the CONDITIONS items. A body whose layout the spec does not give takes its
bytes from Config (log 5). -/

namespace Sys2Proof.Machine

/-- Flags as a byte, the first of the list in bit 0. -/
def flagByte (bits : List Bool) : Byte := BitVec.ofNat 8 (bits.foldr (fun b n => (if b then 1 else 0) + 2 * n) 0)

/-- Table 2-4 from offset 1 on. -/
def clockReadBytes (r : ClockReading) : List Byte :=
  bytesBE 4 r.v ++ [flagByte [r.direction == .up], flagByte [r.run == .running]] ++
    [match r.gate with
      | .steady => 0#8
      | .startPending => 1#8
      | .stopPending => 2#8] ++
    bytesBE 2 r.window ++ [flagByte [r.atLimit, r.expiryPending, r.playPending, r.regulation]] ++ bytesBE 1 r.period ++
    bytesBE 4 r.play ++ [flagByte [r.playEnabled, r.playRunning, r.playBlanked]] ++ bytesBE 4 r.brk ++
    [flagByte [r.brkRunning]] ++
    [match r.session with
      | .setup => 0#8
      | .inGame => 1#8
      | .final => 2#8] ++
    rightAlign 5 r.clockText ++ rightAlign 2 r.playText ++ rightAlign 5 r.breakText

/-- Table 10-2 from offset 1 on. -/
def exposureReadBytes (r : ExposureReading) : List Byte :=
  let e := r.exposed
  bytesBE 1 r.sponsor ++ [flagByte [r.defined, e.quota.isSome, e.fulfilled, e.p50, e.p75, e.p100]] ++
    bytesBE 6 e.delivered ++ bytesBE 6 e.visibleFrames ++ bytesBE 6 e.appearances ++ bytesBE 6 e.shortAppearances ++
    bytesBE 6 e.featureFrames ++ bytesBE 6 e.taggedFrames ++ bytesBE 6 (e.quota.getD 0) ++
    [flagByte [r.mask.delivered, r.mask.visibleFrames, r.mask.appearances, r.mask.shortAppearances,
      r.mask.featureFrames, r.mask.taggedFrames]] ++ bytesBE 1 r.tagShare

/-- The 16 bytes of a detail; both details of a cleared entry are 0 (section 1.6, R15). -/
def detailBytes (d : Detail) : List Byte :=
  if d = .zero then List.replicate 16 0 else (Config.detailBytes d ++ List.replicate 16 0).take 16

/-- One item of the reply to CONDITIONS: 34 bytes (R15). -/
def condItemBytes (i : CondItem) : List Byte :=
  bytesBE 1 i.code ++ bytesBE 1 i.count ++ detailBytes i.first ++ detailBytes i.latest

/-- The bytes of a result. -/
def resultBytes : Result → List Byte
  | .none => []
  | .clockRead r => clockReadBytes r
  | .exposureRead r => exposureReadBytes r
  | .conditions items => bytesBE 1 items.length ++ items.flatMap condItemBytes
  | r => Config.resultBytes r

/-- The body of a reply: the status byte, and the result of an OK reply (R8). -/
def Reply.body (r : Reply) : List Byte := bytesBE 1 r.status.code ++ if r.status = .ok then resultBytes r.result else []

/-- The body of a notice: the condition code and the detail, 17 bytes (R13). -/
def Notice.body (n : Notice) : List Byte := bytesBE 1 n.cond.code ++ detailBytes n.detail

/-- The frame of a reply, and the frame of a notice with tag 0 and kind 0xF0 (R8, R13). -/
def Outgoing.frame : Outgoing → List Byte
  | .reply r => frameBytes r.tag r.kind r.body
  | .notice n => frameBytes 0 0xF0 n.body

end Sys2Proof.Machine
end

