-- ==== Sys2Proof/Machine/Dispatch.lean ====
section
/-! DEFINITION. The dispatch: one arm per command of the opcode table. -/

namespace Sys2Proof.Machine

def exec (i : Instr) (s : State) : Host.Outcome State Fault Refusal :=
  match i with
  | .powerOn strapProduction strapTable runLine => Sys2Proof.Machine.execPowerOn strapProduction strapTable runLine s
  | .frameReceived link chars => Sys2Proof.Machine.execFrameReceived link chars s
  | .receiverSilenceExpiry link => Sys2Proof.Machine.execReceiverSilenceExpiry link s
  | .replyPlaceFreed link => Sys2Proof.Machine.execReplyPlaceFreed link s
  | .frameTransmit link => Sys2Proof.Machine.execFrameTransmit link s
  | .unknownKindRecord link tag kind => Sys2Proof.Machine.execUnknownKindRecord link tag kind s
  | .linkInfo h => Sys2Proof.Machine.execLinkInfo h s
  | .subscribe h count codes => Sys2Proof.Machine.execSubscribe h count codes s
  | .conditions h => Sys2Proof.Machine.execConditions h s
  | .slotPost h text => Sys2Proof.Machine.execSlotPost h text s
  | .slotTake h => Sys2Proof.Machine.execSlotTake h s
  | .restart h => Sys2Proof.Machine.execRestart h s
  | .timeBaseStep => Sys2Proof.Machine.execTimeBaseStep s
  | .trim h t => Sys2Proof.Machine.execTrim h t s
  | .clockRules h rules => Sys2Proof.Machine.execClockRules h rules s
  | .runLineEdge level => Sys2Proof.Machine.execRunLineEdge level s
  | .startWindowConfirm => Sys2Proof.Machine.execStartWindowConfirm s
  | .stopWindowConfirm => Sys2Proof.Machine.execStopWindowConfirm s
  | .clockStart h => Sys2Proof.Machine.execClockStart h s
  | .clockStop h => Sys2Proof.Machine.execClockStop h s
  | .gameClockExpiry => Sys2Proof.Machine.execGameClockExpiry s
  | .clockSet h v => Sys2Proof.Machine.execClockSet h v s
  | .clockAdjust h delta => Sys2Proof.Machine.execClockAdjust h delta s
  | .playReset h choice => Sys2Proof.Machine.execPlayReset h choice s
  | .playEnable h on => Sys2Proof.Machine.execPlayEnable h on s
  | .playExpiry => Sys2Proof.Machine.execPlayExpiry s
  | .breakStart h seconds hornFlag => Sys2Proof.Machine.execBreakStart h seconds hornFlag s
  | .breakCancel h => Sys2Proof.Machine.execBreakCancel h s
  | .breakExpiry => Sys2Proof.Machine.execBreakExpiry s
  | .horn h which duration => Sys2Proof.Machine.execHorn h which duration s
  | .hornEnd which => Sys2Proof.Machine.execHornEnd which s
  | .clockRead h => Sys2Proof.Machine.execClockRead h s
  | .gameFinal h => Sys2Proof.Machine.execGameFinal h s
  | .gameOpen h => Sys2Proof.Machine.execGameOpen h s
  | .nextPeriod h => Sys2Proof.Machine.execNextPeriod h s
  | .scoreAdd h team points => Sys2Proof.Machine.execScoreAdd h team points s
  | .scoreRevise h seq => Sys2Proof.Machine.execScoreRevise h seq s
  | .teamSet h team fields => Sys2Proof.Machine.execTeamSet h team fields s
  | .fieldDefine h count defs => Sys2Proof.Machine.execFieldDefine h count defs s
  | .fieldSet h index value => Sys2Proof.Machine.execFieldSet h index value s
  | .recordRead h => Sys2Proof.Machine.execRecordRead h s
  | .logRead h start => Sys2Proof.Machine.execLogRead h start s
  | .recordConfig h config => Sys2Proof.Machine.execRecordConfig h config s
  | .twinConfig h role token compensation => Sys2Proof.Machine.execTwinConfig h role token compensation s
  | .twinStatus h => Sys2Proof.Machine.execTwinStatus h s
  | .twinHelloReceived hello => Sys2Proof.Machine.execTwinHelloReceived hello s
  | .twinStateReceived part parts record => Sys2Proof.Machine.execTwinStateReceived part parts record s
  | .twinClockReceived record => Sys2Proof.Machine.execTwinClockReceived record s
  | .twinEventReceived record => Sys2Proof.Machine.execTwinEventReceived record s
  | .twinHeartbeatReceived applied resync => Sys2Proof.Machine.execTwinHeartbeatReceived applied resync s
  | .twinReceiverSilenceExpiry chars => Sys2Proof.Machine.execTwinReceiverSilenceExpiry s chars
  | .helloTimerExpiry => Sys2Proof.Machine.execHelloTimerExpiry s
  | .heartbeatTimerExpiry => Sys2Proof.Machine.execHeartbeatTimerExpiry s
  | .clockTimerExpiry => Sys2Proof.Machine.execClockTimerExpiry s
  | .lossTimerExpiry => Sys2Proof.Machine.execLossTimerExpiry s
  | .outputFrameEvent => Sys2Proof.Machine.execOutputFrameEvent s
  | .canvasConfig h rate width height => Sys2Proof.Machine.execCanvasConfig h rate width height s
  | .layout h count zones => Sys2Proof.Machine.execLayout h count zones s
  | .assetDefine h id kind frames size => Sys2Proof.Machine.execAssetDefine h id kind frames size s
  | .assetChunk h id offset count data => Sys2Proof.Machine.execAssetChunk h id offset count data s
  | .assetDrop h id => Sys2Proof.Machine.execAssetDrop h id s
  | .inputConfig h i0 i1 i2 i3 => Sys2Proof.Machine.execInputConfig h i0 i1 i2 i3 s
  | .cameraFrame input valid => Sys2Proof.Machine.execCameraFrame input valid s
  | .inputSignalTimeout input => Sys2Proof.Machine.execInputSignalTimeout input s
  | .signalLossHoldEnd input => Sys2Proof.Machine.execSignalLossHoldEnd input s
  | .takeover h level zones asset duration => Sys2Proof.Machine.execTakeover h level zones asset duration s
  | .release h level zones => Sys2Proof.Machine.execRelease h level zones s
  | .clearTop h zone => Sys2Proof.Machine.execClearTop h zone s
  | .mask h zone levels => Sys2Proof.Machine.execMask h zone levels s
  | .yield h zone level on => Sys2Proof.Machine.execYield h zone level on s
  | .zonePolicy h zone policy => Sys2Proof.Machine.execZonePolicy h zone policy s
  | .zoneQuery h zone => Sys2Proof.Machine.execZoneQuery h zone s
  | .takeoverExpiry zone => Sys2Proof.Machine.execTakeoverExpiry zone s
  | .ringPartition h r0 r1 r2 r3 => Sys2Proof.Machine.execRingPartition h r0 r1 r2 r3 s
  | .captureRestart h input => Sys2Proof.Machine.execCaptureRestart h input s
  | .marginSet h input choice => Sys2Proof.Machine.execMarginSet h input choice s
  | .ringStatus h input => Sys2Proof.Machine.execRingStatus h input s
  | .clipCreate h id input inSeq outSeq tag label => Sys2Proof.Machine.execClipCreate h id input inSeq outSeq tag label s
  | .clipSave h id => Sys2Proof.Machine.execClipSave h id s
  | .clipDelete h id => Sys2Proof.Machine.execClipDelete h id s
  | .clipRead h id => Sys2Proof.Machine.execClipRead h id s
  | .saveCopyFrame => Sys2Proof.Machine.execSaveCopyFrame s
  | .cueAdd h channel cue => Sys2Proof.Machine.execCueAdd h channel cue s
  | .cueRemove h channel number => Sys2Proof.Machine.execCueRemove h channel number s
  | .channelRoll h channel => Sys2Proof.Machine.execChannelRoll h channel s
  | .channelStop h channel => Sys2Proof.Machine.execChannelStop h channel s
  | .channelSpeed h channel speed => Sys2Proof.Machine.execChannelSpeed h channel speed s
  | .channelChain h channel on => Sys2Proof.Machine.execChannelChain h channel on s
  | .channelStatus h channel => Sys2Proof.Machine.execChannelStatus h channel s
  | .sponsorDefine h id name quota => Sys2Proof.Machine.execSponsorDefine h id name quota s
  | .sponsorRemove h id => Sys2Proof.Machine.execSponsorRemove h id s
  | .rotationLoad h program count entries => Sys2Proof.Machine.execRotationLoad h program count entries s
  | .rotationMode h program mode cover => Sys2Proof.Machine.execRotationMode h program mode cover s
  | .rotationSuspend h program entry => Sys2Proof.Machine.execRotationSuspend h program entry s
  | .rotationResume h program entry => Sys2Proof.Machine.execRotationResume h program entry s
  | .rotationFront h program entry => Sys2Proof.Machine.execRotationFront h program entry s
  | .rotationStatus h program => Sys2Proof.Machine.execRotationStatus h program s
  | .appearanceDwellEnd program => Sys2Proof.Machine.execAppearanceDwellEnd program s
  | .featureAdd h sponsor asset duration zones => Sys2Proof.Machine.execFeatureAdd h sponsor asset duration zones s
  | .breakFeature h config => Sys2Proof.Machine.execBreakFeature h config s
  | .quotaSet h id quota => Sys2Proof.Machine.execQuotaSet h id quota s
  | .counterMask h mask share => Sys2Proof.Machine.execCounterMask h mask share s
  | .exposureRead h id => Sys2Proof.Machine.execExposureRead h id s
  | .crawlConfig h config => Sys2Proof.Machine.execCrawlConfig h config s
  | .msgSubmit h id text repeats cls => Sys2Proof.Machine.execMsgSubmit h id text repeats cls s
  | .msgApprove h id => Sys2Proof.Machine.execMsgApprove h id s
  | .msgReject h id => Sys2Proof.Machine.execMsgReject h id s
  | .msgWithdraw h id => Sys2Proof.Machine.execMsgWithdraw h id s
  | .msgList h start form => Sys2Proof.Machine.execMsgList h start form s
  | .lenOversized link len => Sys2Proof.Machine.execLenOversized link len s
  | .twinFrameDiscarded why => Sys2Proof.Machine.execTwinFrameDiscarded why s

end Sys2Proof.Machine
end

