-- ==== Sys2Proof/Machine/TwinWire.lean ====
section
/-! DEFINITION. The frames a twin record is sent in, and the transmitter of the twin link (R69). The spec gives the fields of
a twin record no byte layout, so their bytes come from Config (log 5). -/

namespace Sys2Proof.Machine

/-- The KIND that names a twin record (R69). -/
def TwinRecord.kind : TwinRecord → Nat
  | .hello _ => 0x01
  | .state _ => 0x02
  | .clock _ => 0x03
  | .event _ => 0x04
  | .heartbeat _ _ => 0x05

/-- The greatest LEN of a frame (section 1.1). -/
def maxBody : Nat := 1024

/-- The body of part `i` (from 0) of `n` of a STATE: part number and count in a byte each, then the next 1,022 bytes of its
fields (DESIGN CHOICE, log 8). -/
def partBody (fields : List Byte) (n i : Nat) : List Byte :=
  bytesBE 1 (i + 1) ++ bytesBE 1 n ++ (fields.drop (i * (maxBody - 2))).take (maxBody - 2)

/-- The bodies of a record's frames: one, but for a STATE whose fields exceed 1,024 bytes (R69). -/
def TwinRecord.bodies (r : TwinRecord) : List (List Byte) :=
  let fields := Config.twinBody r
  match r with
  | .state _ =>
    if fields.length ≤ maxBody then [fields]
    else
      let n := ceilQuot fields.length (maxBody - 2)
      (List.range n).map (partBody fields n)
  | _ => [fields]

/-- The frames of a record, each with TAG 0 and the KIND of the record (R69). -/
def TwinRecord.frames (r : TwinRecord) : List (List Byte) := r.bodies.map (frameBytes 0 r.kind)

/-- The twin transmitter sends one whole frame, of the record handed over first; the record leaves with its last frame
(R69). -/
def Twin.transmit (t : Twin) : Twin :=
  match t.out with
  | [] => t
  | r :: rest =>
    let sent := t.outSent + 1
    if sent < r.frames.length then { t with outSent := sent, lastSent := some (r, sent) }
    else { t with out := rest, outSent := 0, lastSent := some (r, sent) }

/-- What the part does where no command waits: the twin transmitter sends a frame, if there is one (DESIGN CHOICE, log 1: the
table has no row for it). -/
def State.whenIdle (s : State) : State := s.mapTwin Twin.transmit

end Sys2Proof.Machine
end

