-- ==== Sys2Proof/WellFormed.lean ====
section
/-! DEFINITION. Well-formed commands: the operands that the part's lines and records can carry. A record's own ranges are
not tested here, since its owner refuses a value outside them (R7). -/

namespace Sys2Proof

def between (lo hi n : Nat) : Bool := lo ≤ n && n ≤ hi

/-- A record that is taken carries a tag of 1..255 (R5). -/
def Hdr.wf (h : Hdr) : Bool := between 1 255 h.tag

/-- The command can reach the part: straps within R1, tags and kinds of one byte (section 1.1), LEN of two bytes and above
1,024 for an oversized one (R4), part numbers of a STATE in order (R69), event numbers and seqs of 16 bits (R59, R80), a
token of 32 bits (R70), TEAM_SET counts of 16 bits (R56), and an input, zone or program the part has. -/
def Instr.wf (i : Instr) : Bool :=
  match i with
  | .powerOn strapProduction strapTable _ => between 1 12000000 strapProduction && between 115200 921600 strapTable
  | .frameReceived _ _ => true
  | .receiverSilenceExpiry _ => true
  | .replyPlaceFreed _ => true
  | .frameTransmit _ => true
  | .unknownKindRecord _ tag kind => between 1 255 tag && between 0 255 kind
  | .linkInfo h => h.wf
  | .subscribe h _ _ => h.wf
  | .conditions h => h.wf
  | .slotPost h _ => h.wf
  | .slotTake h => h.wf
  | .restart h => h.wf
  | .timeBaseStep => true
  | .trim h _ => h.wf
  | .clockRules h _ => h.wf
  | .runLineEdge _ => true
  | .startWindowConfirm => true
  | .stopWindowConfirm => true
  | .clockStart h => h.wf
  | .clockStop h => h.wf
  | .gameClockExpiry => true
  | .clockSet h _ => h.wf
  | .clockAdjust h _ => h.wf
  | .playReset h _ => h.wf
  | .playEnable h _ => h.wf
  | .playExpiry => true
  | .breakStart h _ _ => h.wf
  | .breakCancel h => h.wf
  | .breakExpiry => true
  | .horn h _ _ => h.wf
  | .hornEnd _ => true
  | .clockRead h => h.wf
  | .gameFinal h => h.wf
  | .gameOpen h => h.wf
  | .nextPeriod h => h.wf
  | .scoreAdd h _ _ => h.wf
  | .scoreRevise h seq => h.wf && between 0 65535 seq
  | .teamSet h _ fields => h.wf && fields.timeouts.all (between 0 65535) && fields.fouls.all (between 0 65535)
  | .fieldDefine h _ _ => h.wf
  | .fieldSet h _ _ => h.wf
  | .recordRead h => h.wf
  | .logRead h start => h.wf && between 0 65535 start
  | .recordConfig h _ => h.wf
  | .twinConfig h _ token _ => h.wf && between 0 (2 ^ 32 - 1) token
  | .twinStatus h => h.wf
  | .twinHelloReceived _ => true
  | .twinStateReceived part parts _ => between 1 parts part && between 1 65535 parts
  | .twinClockReceived _ => true
  | .twinEventReceived record => between 0 65535 record.number && between 0 65535 record.logSeq
  | .twinHeartbeatReceived applied _ => between 0 65535 applied
  | .twinReceiverSilenceExpiry chars => chars.any fun c => c.stopBit && c.byte == 0xC3#8
  | .helloTimerExpiry => true
  | .heartbeatTimerExpiry => true
  | .clockTimerExpiry => true
  | .lossTimerExpiry => true
  | .outputFrameEvent => true
  | .canvasConfig h _ _ _ => h.wf
  | .layout h _ _ => h.wf
  | .assetDefine h _ _ _ _ => h.wf
  | .assetChunk h _ _ _ _ => h.wf
  | .assetDrop h _ => h.wf
  | .inputConfig h _ _ _ _ => h.wf
  | .cameraFrame input _ => between 0 3 input
  | .inputSignalTimeout input => between 0 3 input
  | .signalLossHoldEnd input => between 0 3 input
  | .takeover h _ _ _ _ => h.wf
  | .release h _ _ => h.wf
  | .clearTop h _ => h.wf
  | .mask h _ _ => h.wf
  | .yield h _ _ _ => h.wf
  | .zonePolicy h _ _ => h.wf
  | .zoneQuery h _ => h.wf
  | .takeoverExpiry zone => between 0 7 zone
  | .ringPartition h _ _ _ _ => h.wf
  | .captureRestart h _ => h.wf
  | .marginSet h _ _ => h.wf
  | .ringStatus h _ => h.wf
  | .clipCreate h _ _ _ _ _ _ => h.wf
  | .clipSave h _ => h.wf
  | .clipDelete h _ => h.wf
  | .clipRead h _ => h.wf
  | .saveCopyFrame => true
  | .cueAdd h _ _ => h.wf
  | .cueRemove h _ _ => h.wf
  | .channelRoll h _ => h.wf
  | .channelStop h _ => h.wf
  | .channelSpeed h _ _ => h.wf
  | .channelChain h _ _ => h.wf
  | .channelStatus h _ => h.wf
  | .sponsorDefine h _ _ _ => h.wf
  | .sponsorRemove h _ => h.wf
  | .rotationLoad h _ _ _ => h.wf
  | .rotationMode h _ _ _ => h.wf
  | .rotationSuspend h _ _ => h.wf
  | .rotationResume h _ _ => h.wf
  | .rotationFront h _ _ => h.wf
  | .rotationStatus h _ => h.wf
  | .appearanceDwellEnd program => between 0 3 program
  | .featureAdd h _ _ _ _ => h.wf
  | .breakFeature h _ => h.wf
  | .quotaSet h _ _ => h.wf
  | .counterMask h _ _ => h.wf
  | .exposureRead h _ => h.wf
  | .crawlConfig h _ => h.wf
  | .msgSubmit h id _ _ _ => h.wf && between 0 65535 id
  | .msgApprove h id => h.wf && between 0 65535 id
  | .msgReject h id => h.wf && between 0 65535 id
  | .msgWithdraw h id => h.wf && between 0 65535 id
  | .msgList h _ _ => h.wf
  | .lenOversized _ len => between 1025 65535 len
  | .twinFrameDiscarded _ => true

end Sys2Proof
end

