-- ==== Sys2Proof/Safety.lean ====
section
/-! DEFINITION. What a safe run keeps, in the terms that claims use: when a record is admitted, what its reply does, which
parts of the state an operation leaves alone, the invariants of the links, the zones and the tables, the conditions an
operation raises, and what the readers become. -/

namespace Sys2Proof

/-! ## Kinds of command -/

/-- The header and the kind code of a command that is the taking of a record of Table 1-3. -/
def Instr.record? : Instr → Option (Hdr × Nat)
  | .linkInfo h => some (h, 0x01)
  | .subscribe h _ _ => some (h, 0x02)
  | .conditions h => some (h, 0x03)
  | .slotPost h _ => some (h, 0x04)
  | .slotTake h => some (h, 0x05)
  | .restart h => some (h, 0x06)
  | .trim h _ => some (h, 0x1A)
  | .clockRules h _ => some (h, 0x10)
  | .clockStart h => some (h, 0x13)
  | .clockStop h => some (h, 0x14)
  | .clockSet h _ => some (h, 0x11)
  | .clockAdjust h _ => some (h, 0x12)
  | .playReset h _ => some (h, 0x15)
  | .playEnable h _ => some (h, 0x16)
  | .breakStart h _ _ => some (h, 0x17)
  | .breakCancel h => some (h, 0x18)
  | .horn h _ _ => some (h, 0x19)
  | .clockRead h => some (h, 0x1B)
  | .gameFinal h => some (h, 0x21)
  | .gameOpen h => some (h, 0x20)
  | .nextPeriod h => some (h, 0x22)
  | .scoreAdd h _ _ => some (h, 0x23)
  | .scoreRevise h _ => some (h, 0x24)
  | .teamSet h _ _ => some (h, 0x25)
  | .fieldDefine h _ _ => some (h, 0x26)
  | .fieldSet h _ _ => some (h, 0x27)
  | .recordRead h => some (h, 0x28)
  | .logRead h _ => some (h, 0x29)
  | .recordConfig h _ => some (h, 0x2A)
  | .twinConfig h _ _ _ => some (h, 0x30)
  | .twinStatus h => some (h, 0x31)
  | .canvasConfig h _ _ _ => some (h, 0x38)
  | .layout h _ _ => some (h, 0x39)
  | .assetDefine h _ _ _ _ => some (h, 0x3A)
  | .assetChunk h _ _ _ _ => some (h, 0x3B)
  | .assetDrop h _ => some (h, 0x3C)
  | .inputConfig h _ _ _ _ => some (h, 0x3D)
  | .takeover h _ _ _ _ => some (h, 0x40)
  | .release h _ _ => some (h, 0x41)
  | .clearTop h _ => some (h, 0x42)
  | .mask h _ _ => some (h, 0x43)
  | .yield h _ _ _ => some (h, 0x44)
  | .zonePolicy h _ _ => some (h, 0x45)
  | .zoneQuery h _ => some (h, 0x46)
  | .ringPartition h _ _ _ _ => some (h, 0x48)
  | .captureRestart h _ => some (h, 0x49)
  | .marginSet h _ _ => some (h, 0x4A)
  | .ringStatus h _ => some (h, 0x4B)
  | .clipCreate h _ _ _ _ _ _ => some (h, 0x50)
  | .clipSave h _ => some (h, 0x51)
  | .clipDelete h _ => some (h, 0x52)
  | .clipRead h _ => some (h, 0x53)
  | .cueAdd h _ _ => some (h, 0x54)
  | .cueRemove h _ _ => some (h, 0x55)
  | .channelRoll h _ => some (h, 0x56)
  | .channelStop h _ => some (h, 0x57)
  | .channelSpeed h _ _ => some (h, 0x58)
  | .channelChain h _ _ => some (h, 0x59)
  | .channelStatus h _ => some (h, 0x5A)
  | .sponsorDefine h _ _ _ => some (h, 0x60)
  | .sponsorRemove h _ => some (h, 0x60)
  | .rotationLoad h _ _ _ => some (h, 0x61)
  | .rotationMode h _ _ _ => some (h, 0x62)
  | .rotationSuspend h _ _ => some (h, 0x63)
  | .rotationResume h _ _ => some (h, 0x64)
  | .rotationFront h _ _ => some (h, 0x65)
  | .rotationStatus h _ => some (h, 0x68)
  | .featureAdd h _ _ _ _ => some (h, 0x66)
  | .breakFeature h _ => some (h, 0x67)
  | .quotaSet h _ _ => some (h, 0x6A)
  | .counterMask h _ _ => some (h, 0x6B)
  | .exposureRead h _ => some (h, 0x6C)
  | .crawlConfig h _ => some (h, 0x70)
  | .msgSubmit h _ _ _ _ => some (h, 0x71)
  | .msgApprove h _ => some (h, 0x72)
  | .msgReject h _ => some (h, 0x73)
  | .msgWithdraw h _ => some (h, 0x74)
  | .msgList h _ _ => some (h, 0x75)
  | _ => none

/-- The body length that the rule of a record states: 8 bytes and the data count for ASSET_CHUNK (R97), else what its kind
states. -/
def Instr.statedLength? : Instr → Option Nat
  | .assetChunk _ _ _ count _ => some (8 + count)
  | c => c.record?.bind fun r => Machine.statedBodyLength r.2

/-- The due events that an event command carries out (log 2). -/
def Instr.carriesOut? : Instr → Option (Machine.DueEvent → Bool)
  | .replyPlaceFreed link => some fun e => e == .replyPlace link
  | .startWindowConfirm => some fun e => e == .startConfirm
  | .stopWindowConfirm => some fun e => e == .stopConfirm
  | .gameClockExpiry => some fun e => e == .gameExpiry
  | .playExpiry => some fun e => e == .playExpiry true || e == .playExpiry false
  | .breakExpiry => some fun e => e == .breakExpiry
  | .hornEnd which => some fun e => e == .hornEnd which
  | .helloTimerExpiry => some fun e => e == .helloTimer
  | .heartbeatTimerExpiry => some fun e => e == .heartbeatTimer
  | .clockTimerExpiry => some fun e => e == .clockTimer
  | .lossTimerExpiry => some fun e => e == .lossTimer
  | .signalLossHoldEnd input => some fun e => e == .holdEnd input
  | .takeoverExpiry zone => some fun e => e == .takeoverExpiry zone
  | .appearanceDwellEnd program => some fun e => e == .dwellEnd program
  | _ => none

end Sys2Proof

namespace Sys2Proof.Machine

/-! ## Taking a record -/

/-- The record of the header is at the head of its link and can be answered: nothing is due, its tag is 1..255, no reply
waits and the reply list has a place (R6). -/
def State.offers (h : Hdr) (kind : Nat) (s : State) : Bool :=
  s.due.isEmpty && between 1 255 h.tag && (s.link h.link).waiting.isNone &&
  decide ((s.link h.link).replies.length < 16) &&
  (s.link h.link).inbound.head?.any (fun r => r.tag == h.tag && r.kind == kind)

/-- Tests 1 to 3 of R7: the kind is permitted on the link (R10), and the part is no follower where it changes game state
(R11). -/
def State.allows (link : Link) (kind : Nat) (s : State) : Bool :=
  (kindPermit kind).any (fun p => permitted p link) &&
  !(link == .table && s.twin.state == .follower && changingKinds.contains kind)

/-- The record of the header is at the head of its link, can be answered, and passes the link's four tests but for its
counts and choices, and for the length of an ASSET_CHUNK, which rests on its count (R7, R97). -/
def State.admits (h : Hdr) (kind : Nat) (s : State) : Bool :=
  s.offers h kind && s.allows h.link kind && h.fits &&
    (s.link h.link).lengthFits (statedBodyLength kind)

/-- Bytes as the characters of a line, each with its stop bit. -/
def onLine (bytes : List Byte) : List LineChar := bytes.map fun b => ⟨b, true⟩

/-- The record at the head of a link has an empty body. -/
def State.bodyEmpty (link : Link) (s : State) : Bool := (s.link link).inbound.head?.all fun r => r.body.isEmpty

/-- The head record leaves its queue and its reply joins the reply list (R7, R8). -/
def State.replied (h : Hdr) (kind : Nat) (status : Status) (result : Result) (s : State) : State :=
  s.mapLink h.link fun l =>
    { l with inbound := l.inbound.tail, replies := l.replies ++ [⟨h.tag, kind + 0x80, status, result⟩] }

/-! ## Frames -/

/-- The parts the state is made of, beside the queues and the links. -/
inductive Part where
  | slots
  /-- the timing unit but for its horns and its countdown phase -/
  | clock
  | horns
  /-- the countdown phase and the zones outstanding at level 1 -/
  | phase
  | session
  /-- the game record but for its session state -/
  | game
  /-- the zones outstanding at level 2 -/
  | levelTwo
  /-- the records handed to the twin transmitter and the CLOCK timer -/
  | twinOut
  /-- the twin unit but for `twinOut` -/
  | twin
  /-- the zones of the layout in force with their arbitration state -/
  | zones
  | assets
  | inputs
  /-- size, frame number, what awaits application, and the frame composed -/
  | canvas
  | rings
  | readers
  /-- the clip table and the save queue -/
  | clips
  | channels
  /-- the sponsor table and the break-feature configuration -/
  | sponsors
  | programs
  /-- the feature list, its numbers and the break feature recorded -/
  | features
  | exposure
  | crawlConfig
  | crawl
  deriving DecidableEq, Repr

/-- Two states agree in a part. -/
def samePart (s t : State) : Part → Prop
  | .slots => t.slotToTable = s.slotToTable ∧ t.slotToProduction = s.slotToProduction
  | .clock =>
    { t.timing with phase := .idle, outstanding := [], gameHorn := none, playHorn := none } =
      { s.timing with phase := .idle, outstanding := [], gameHorn := none, playHorn := none }
  | .horns => t.timing.gameHorn = s.timing.gameHorn ∧ t.timing.playHorn = s.timing.playHorn
  | .phase => t.timing.phase = s.timing.phase ∧ t.timing.outstanding = s.timing.outstanding
  | .session => t.record.game.session = s.record.game.session
  | .game => { t.record.game with session := .setup } = { s.record.game with session := .setup }
  | .levelTwo => t.record.outstanding = s.record.outstanding
  | .twinOut => t.twin.out = s.twin.out ∧ t.twin.clockTimer = s.twin.clockTimer
  | .twin => { t.twin with out := [], clockTimer := none } = { s.twin with out := [], clockTimer := none }
  | .zones => t.canvas.zones = s.canvas.zones
  | .assets => t.canvas.assets = s.canvas.assets ∧ t.canvas.missingReported = s.canvas.missingReported
  | .inputs => t.canvas.inputs = s.canvas.inputs
  | .canvas =>
    t.canvas.size = s.canvas.size ∧ t.canvas.frame = s.canvas.frame ∧
      t.canvas.awaitingConfig = s.canvas.awaitingConfig ∧ t.canvas.awaitingLayout = s.canvas.awaitingLayout ∧
      t.canvas.visibility = s.canvas.visibility ∧ t.canvas.frameOut = s.canvas.frameOut ∧
      t.canvas.surround = s.canvas.surround
  | .rings => t.capture.rings = s.capture.rings
  | .readers =>
    t.capture.readSave = s.capture.readSave ∧ t.capture.readA = s.capture.readA ∧ t.capture.readB = s.capture.readB
  | .clips => t.replay.clips = s.replay.clips ∧ t.replay.saveQueue = s.replay.saveQueue
  | .channels => t.replay.chanA = s.replay.chanA ∧ t.replay.chanB = s.replay.chanB
  | .sponsors => t.rotation.sponsors = s.rotation.sponsors ∧ t.rotation.breakConfig = s.rotation.breakConfig
  | .programs => t.rotation.programs = s.rotation.programs
  | .features =>
    t.rotation.features = s.rotation.features ∧ t.rotation.featuresDropped = s.rotation.featuresDropped ∧
      t.rotation.nextFeature = s.rotation.nextFeature ∧ t.rotation.breakRecorded = s.rotation.breakRecorded
  | .exposure => t.exposure = s.exposure
  | .crawlConfig => t.crawl.config = s.crawl.config
  | .crawl => { t.crawl with config := Crawl.reset.config } = { s.crawl with config := Crawl.reset.config }

/-- A link after a run of occurrences (R12, R13). -/
def LinkState.occurs (l : LinkState) (events : List (Cond × Detail)) : LinkState :=
  events.foldl (fun l e => l.occur e.1 e.2) l

/-- The links differ only by conditions raised, each recorded on both (R12). -/
def OnlyRaises (s t : State) : Prop :=
  ∃ events, t.production = s.production.occurs events ∧ t.table = s.table.occurs events

/-- From `s` to `t` nothing changes but the parts listed and the conditions raised on both links; the queue of commands and
the due events stand. -/
structure Frame (parts : List Part) (s t : State) : Prop where
  pending : t.pending = s.pending
  due : t.due = s.due
  links : OnlyRaises s t
  same : ∀ p, p ∉ parts → samePart s t p

/-- The parts that ends of takeovers reach: their owners and the arbiter (R114). -/
def endParts : List Part := [.zones, .phase, .levelTwo, .channels, .readers, .features, .crawl]

/-- The parts that a confirmed run change reaches (R31). -/
def runParts : List Part := [.session, .twinOut] ++ endParts

/-- The parts an expiry reaches (R32). -/
def expiryParts : List Part := [.clock, .horns] ++ runParts

/-- A condition entry after occurrences of its kind, in their order (the table of R12). -/
def CondEntry.gained (details : List Detail) (e : CondEntry) : CondEntry :=
  match details.head?, details.getLast? with
  | some first, some latest =>
    ⟨true, min 255 (e.count + details.length), if e.pending then e.first else first, latest⟩
  | _, _ => e

/-- From `s` to `t` both links record these occurrences of one kind of condition, in this order, and no other of the kind
(R12). -/
def Gains (s t : State) (c : Cond) (details : List Detail) : Prop :=
  ∀ link, (t.link link).entry c = ((s.link link).entry c).gained details

/-! ## Invariants -/

/-- An entry of a condition table that is not pending is clear; one that is pending has a count of 1..255 (R12). -/
def CondEntry.wf (e : CondEntry) : Prop := if e.pending then 1 ≤ e.count ∧ e.count ≤ 255 else e = .clear

/-- What holds of a control link (R4 to R6, R12 to R14). -/
structure LinkState.wf (l : LinkState) : Prop where
  table : l.table.length = 20
  entries : ∀ e ∈ l.table, e.wf
  inbound : l.inbound.length ≤ 8
  replies : l.replies.length ≤ 16
  errors : l.framingErrors ≤ 65535
  subs : l.subs.Nodup ∧ ∀ c ∈ l.subs, c < 20
  kinds : (l.notices.map (·.cond)).Nodup
  noticed : ∀ n ∈ l.notices, (l.entry n.cond).pending = true
  waiting : l.waiting.isSome = true → l.inbound ≠ []

/-- Both control links are well formed. -/
def State.linksWf (s : State) : Prop := s.production.wf ∧ s.table.wf

/-- What holds of a zone's arbitration state (R102, Table 6-2): at most one request and one takeover a level, in ascending
level, never both at one level, yielded only what is in service, masked only levels 1..7. -/
structure ZoneArb.wf (a : ZoneArb) : Prop where
  pending : (a.pending.map (·.level)).Pairwise (· < ·)
  service : (a.service.map (·.level)).Pairwise (· < ·)
  levels : (∀ r ∈ a.pending, r.level ≤ 7) ∧ ∀ t ∈ a.service, t.level ≤ 7
  apart : ∀ r ∈ a.pending, ∀ t ∈ a.service, r.level ≠ t.level
  yielded : a.yielded.Nodup ∧ ∀ l ∈ a.yielded, (a.serviceAt l).isSome = true
  mask : a.mask.Nodup ∧ ∀ l ∈ a.mask, 1 ≤ l ∧ l ≤ 7
  arrival : 1 ≤ a.nextArrival ∧ a.nextArrival ≤ 65535

/-- The zones of the layout in force, and of one that awaits application, stand in ascending id with ids 0..7 (R89, R90),
and each zone's arbitration state is well formed. -/
structure State.zonesWf (s : State) : Prop where
  ids : (s.canvas.zones.map (·.spec.id)).Pairwise (· < ·)
  small : ∀ z ∈ s.canvas.zones, z.spec.id ≤ 7
  arb : ∀ z ∈ s.canvas.zones, z.arb.wf
  awaiting : ∀ specs ∈ s.canvas.awaitingLayout, (specs.map (·.id)).Pairwise (· < ·) ∧ ∀ n ∈ specs, n.id ≤ 7

/-- Each counter of a sponsor id fits its 48 bits (Table 10-1). -/
def Exposed.wf (e : Exposed) : Prop :=
  e.delivered ≤ max48 ∧ e.visibleFrames ≤ max48 ∧ e.appearances ≤ max48 ∧ e.shortAppearances ≤ max48 ∧
    e.featureFrames ≤ max48 ∧ e.taggedFrames ≤ max48

/-- The part's fixed tables have their sizes: four inputs, four rings, four programs and 64 sponsor ids, whose counters fit
(Tables 5-5, 7-1, 9-1, 10-1). -/
structure State.tablesWf (s : State) : Prop where
  inputs : s.canvas.inputs.length = 4
  rings : s.capture.rings.length = 4
  programs : s.rotation.programs.length = 4
  ids : s.exposure.ids.length = 64
  counters : ∀ e ∈ s.exposure.ids, e.wf

/-! ## Owners and readers -/

/-- What the countdown check makes of a state in the phase given, where `asks` says that the conditions of R45 hold: in IDLE
an open-ended level-1 request with the countdown asset and no credit in every countdown zone where level 1 does not stand, and
in PERIOD_END the same once what is outstanding is released; those zones are outstanding, and the phase is COUNTDOWN, or SPENT
without one (R45, R47). In every other case phase, outstanding zones and zones stand. -/
def CountdownChecked (asks : Bool) (phase : Phase) (s t : State) : Prop :=
  let m := s.timing
  let n := t.timing
  let takers := (s.canvas.zones.filter (·.spec.attrs.countdown)).map (·.spec.id)
  let joins := takers.filter fun zone =>
    (s.standsAt zone 1).isNone || (phase == .periodEnd && m.outstanding.contains zone);
  (asks = false ∨ phase = .countdown ∨ phase = .spent →
    n.phase = phase ∧ n.outstanding = m.outstanding ∧ t.canvas.zones = s.canvas.zones) ∧
  (asks = true → phase = .idle ∨ phase = .periodEnd → s.zonesWf →
    n.outstanding = joins ∧ n.phase = (if joins = [] then .spent else .countdown) ∧
    (phase = .idle → ∀ z ∈ s.canvas.zones, z.spec.id ∉ joins → t.zone? z.spec.id = some z) ∧
    (phase = .periodEnd → ∀ zone ∈ m.outstanding, zone ∉ joins → t.standsAt zone 1 = none) ∧
    ∀ a ∈ m.rules.countdownAsset, ∀ zone ∈ joins, ∃ z, t.zone? zone = some z ∧
      (z.arb.serviceAt 1 = some ⟨1, .asset a, none, s.canvas.frame + 1, 0, none, 0⟩ ∨
        ∃ r, z.arb.pendingAt 1 = some r ∧ r.content = .asset a ∧ r.frames = none ∧ r.credit = none))

/-- What a reader is to read (R135): the save copy the next frame to copy of the clip at the head of the save queue, a channel
the frame at its position, unless that frame lies in the store. -/
def State.reads (s : State) : ReaderName → Option Reader
  | .save =>
    match s.replay.saveQueue.head?.bind s.clip? with
    | some c =>
      match c.state with
      | .saving _ copied => some ⟨c.input, copied, c.id, 0, true⟩
      | _ => none
    | none => none
  | .channelA => channelReads s.replay.chanA
  | .channelB => channelReads s.replay.chanB
where
  channelReads (c : Chan) : Option Reader :=
    match c.cues with
    | [] => none
    | e :: _ =>
      match s.clip? e.fields.clip with
      | none => none
      | some clip =>
        match clip.state with
        | .saved _ => none
        | .saving _ copied => if c.pos < copied then none else some ⟨clip.input, c.pos, clip.id, e.number, true⟩
        | _ => some ⟨clip.input, c.pos, clip.id, e.number, true⟩

/-- Two readings are one reader's: of one input and clip, and of one cue entry. -/
def sameReader (r w : Reader) : Bool := r.input == w.input && r.clip == w.clip && r.cue == w.cue

/-- The margin of a reading in a state, and the threshold it is tested against (R135, R136). -/
def State.marginOf (s : State) (w : Reader) : Int := w.seq - ((s.ring w.input).oldest : Int)
def State.thresholdOf (s : State) (w : Reader) : Int := (thresholdFrames (s.ring w.input).threshold : Nat)

/-- The reader that `old` becomes with the reading `want` (R135, R136): none without one; a reader that goes on reading, or
attaches at or above O, is armed where its margin is at or above the threshold and disarmed below it; a frame below O attaches
no reader (the model's choice, log 20). -/
def State.readerAfter (s : State) (old want : Option Reader) : Option Reader :=
  match want with
  | none => none
  | some w =>
    if (old.any fun r => sameReader r w) = true ∨ 0 ≤ s.marginOf w then
      some { w with armed := decide (s.thresholdOf w ≤ s.marginOf w) }
    else none

/-- The warning of a reader that was armed, or attaches, with its margin below the threshold (R136). -/
def State.warningOf (s : State) (name : ReaderName) (old want : Option Reader) : List (Cond × Detail) :=
  match want with
  | none => []
  | some w =>
    let armed := match old with
      | some r => if sameReader r w then r.armed else decide (0 ≤ s.marginOf w)
      | none => decide (0 ≤ s.marginOf w)
    if armed && decide (s.marginOf w < s.thresholdOf w) then
      [(.nearOvertake, .nearOvertake w.input name w.clip (s.marginOf w) (s.thresholdOf w).toNat)]
    else []

/-- Each reader of `t` is what the reader of `s` becomes with what `t` gives it to read (R135, R136). -/
def ReadersFollow (s t : State) : Prop := ∀ name, t.reader name = t.readerAfter (s.reader name) (t.reads name)

/-- The state with a channel's reader detached, as the channel's head entry leaves it (R150, R158): what the next head reads
attaches afresh. -/
def State.detached (ch : Channel) (s : State) : State :=
  match ch with
  | .a => { s with capture := { s.capture with readA := none } }
  | .b => { s with capture := { s.capture with readB := none } }

/-- The warnings raised as the readers of `s` become those of `t`: SAVE, then CHANNEL_A, then CHANNEL_B (R136; the order is the
model's, log 20). -/
def warnings (s t : State) : List (Cond × Detail) :=
  [ReaderName.save, .channelA, .channelB].flatMap fun name => t.warningOf name (s.reader name) (t.reads name)

/-- `n` entries off the head of a channel's list, its reader detached and the next entry at its start position (R149, R150,
R151, R158). -/
def State.dropHeads (ch : Channel) (n : Nat) (s : State) : State :=
  let left := (s.chan ch).cues.drop n
  let start (e : Cue) : Int := match s.clip? e.fields.clip with
    | some clip => if 0 ≤ e.fields.speed then (clip.inSeq : Int) + e.fields.offset else (clip.outSeq : Int) - e.fields.offset
    | none => 0
  (s.detached ch).mapChan ch fun c => { c with cues := left, pos := (left.head?.map start).getD 0 }

/-- The warnings raised as the entry loaded behind `k` others leaves the head of a channel's list: at the first every reader
follows, and at each further one the channel's reader attaches anew (R136, R151, R158). -/
def State.dropWarning (ch : Channel) (k : Nat) (s : State) : List (Cond × Detail) :=
  if k = 0 then warnings (s.detached ch) (s.dropHeads ch 1)
  else s.warningOf (channelReader ch) none ((s.dropHeads ch (k + 1)).reads (channelReader ch))

/-- The warnings raised as `n` entries leave the head of a channel's list one by one (R136, R151, R158). -/
def State.dropWarnings (ch : Channel) (n : Nat) (s : State) : List (Cond × Detail) :=
  (List.range n).flatMap fun k => s.dropWarning ch k

/-- The readers of one input disarmed, as a capture restart does before they follow (R134). -/
def State.disarmed (input : Nat) (s : State) : State :=
  let off (r : Option Reader) : Option Reader := r.map fun r => if r.input = input then { r with armed := false } else r
  { s with capture :=
    { s.capture with
      readSave := off s.capture.readSave, readA := off s.capture.readA, readB := off s.capture.readB } }

end Sys2Proof.Machine
end

