-- ==== Sys2Proof/Certificates/Slice0/Obligations.lean ====
section
/-! DEFINITION. The statements for the provers, chapter by chapter. A record's statement takes the record as admitted by its
link (`State.admits`, R7) and says the whole next state, its refusals among them, as the owner's tests come. -/

open Sys2Proof Sys2Proof.Machine

/-! ## The machine (log 1, log 2) -/

/-- One step takes the command at the front of the queue and carries it out with the queue's rest; on an empty queue the
twin transmitter sends one whole frame of the record handed over first, which leaves with its last frame, and without a
record the part idles (spec/95: each row of the table is one whole step; the queue, the idling and the transmitter's turn
are the model's, log 1). -/
def Obligations.StepTakesTheFrontCommand : Prop :=
  (∀ (c : Instr) (rest : List Instr) (s : State), s.pending = c :: rest → step s = exec c { s with pending := rest }) ∧
  (∀ s : State, s.pending = [] → s.twin.out = [] → step s = .next s) ∧
  ∀ (r : TwinRecord) (rest : List TwinRecord) (s : State), s.pending = [] → s.twin.out = r :: rest →
    let sent := s.twin.outSent + 1;
    step s = .next { s with twin :=
      if sent < r.frames.length then { s.twin with outSent := sent, lastSent := some (r, sent) }
      else { s.twin with out := rest, outSent := 0, lastSent := some (r, sent) } }

/-- No command stops the machine, and none but the step itself takes from the queue (Table 1-1: a request that cannot be
served is refused by its reply; the queue is the model's, log 1). -/
def Obligations.EveryCommandAnswersNext : Prop :=
  ∀ (c : Instr) (s : State), ∃ t, exec c s = .next t ∧ t.pending = s.pending

/-- What has become due is carried out before anything else, so that every command but power-on and the event commands
acts on the settled state, in which nothing is due; an event command with nothing of its kind due has no effect. The due
events are the model's (log 2). -/
def Obligations.DueEventsComeFirst : Prop :=
  (∀ (c : Instr) (s : State), c.carriesOut? = none → (∀ a b l, c ≠ .powerOn a b l) →
    s.settle.due = [] ∧ exec c s = exec c s.settle) ∧
  ∀ (c : Instr) (p : DueEvent → Bool) (s : State), c.carriesOut? = some p → (∀ e ∈ s.due, p e = false) →
    exec c s = .next s

/-! ## Chapter 1: the control links -/

/-- A frame whose CHECK is right reaches the inbound queue byte for byte, or is answered at once: MALFORMED with tag 0 and
kind 0xFF where its tag is 0, FULL with its own tag where the queue holds 8; an immediate reply that finds 16 replies is a
framing error (R2, R3, R5, R6, R8). The three kinds of bad frame are discarded without a reply and counted, saturating at
65,535, and the receiver hunts again: a CHECK that differs, a LEN above 1,024, and a frame that falls silent; silence in
HUNT has no effect (R2 to R4). Bytes are taken in their order whatever the runs they arrive in, characters without a stop
bit are no bytes, and in HUNT every byte but 0xC3 is discarded (R1, R3). The transmitter sends the head reply, or else the
head notice; where a reply waits, the place that this frees is due to it, and it is placed there, its record leaving the
inbound queue (R6, R9, R13). The due list is the model's (log 2). -/
def Obligations.LinksReceiveAndTransmit : Prop :=
  (∀ (link : Link) (tag kind : Nat) (body : List Byte) (s : State), s.due = [] → tag ≤ 255 → kind ≤ 255 →
    body.length ≤ 1024 → (s.link link).rx = .hunt →
    exec (.frameReceived link (onLine (frameBytes tag kind body))) s = .next (s.mapLink link fun l =>
      if 1 ≤ tag ∧ l.inbound.length < 8 then { l with inbound := l.inbound ++ [⟨tag, kind, body⟩] }
      else if 16 ≤ l.replies.length then { l with framingErrors := min 65535 (l.framingErrors + 1) }
      else if tag = 0 then { l with replies := l.replies ++ [⟨0, 0xFF, .malformed, .none⟩] }
      else
        { l with
          replies := l.replies ++ [⟨tag, if 1 ≤ kind ∧ kind ≤ 0x7F then kind + 0x80 else 0xFF, .full, .none⟩] })) ∧
  ((∀ (link : Link) (tag kind : Nat) (body : List Byte) (c1 c2 : Byte) (s : State), s.due = [] → tag ≤ 255 → kind ≤ 255 →
    body.length ≤ 1024 → (s.link link).rx = .hunt →
    c1.toNat * 256 + c2.toNat ≠ (crc16 (checkedBytes tag kind body)).toNat →
    exec (.frameReceived link (onLine (sync :: checkedBytes tag kind body ++ [c1, c2]))) s = .next (s.mapLink link fun l =>
      { l with framingErrors := min 65535 (l.framingErrors + 1) })) ∧
  (∀ (link : Link) (len : Nat) (s : State), s.due = [] → 1025 ≤ len → len ≤ 65535 → (s.link link).rx = .hunt →
    exec (.lenOversized link len) s = .next (s.mapLink link fun l =>
      { l with framingErrors := min 65535 (l.framingErrors + 1) })) ∧
  (∀ (link : Link) (s : State), s.due = [] → (s.link link).rx ≠ .hunt →
    exec (.receiverSilenceExpiry link) s = .next (s.mapLink link fun l =>
      { l with rx := .hunt, framingErrors := min 65535 (l.framingErrors + 1) })) ∧
  ∀ (link : Link) (s : State), s.due = [] → (s.link link).rx = .hunt → exec (.receiverSilenceExpiry link) s = .next s) ∧
  ((∀ (link : Link) (a b : List LineChar) (s t : State), exec (.frameReceived link a) s = .next t →
    exec (.frameReceived link (a ++ b)) s = exec (.frameReceived link b) t) ∧
  (∀ (link : Link) (cs : List LineChar) (s : State),
    exec (.frameReceived link cs) s = exec (.frameReceived link (cs.filter (·.stopBit))) s) ∧
  ∀ (link : Link) (cs : List LineChar) (s : State), s.due = [] → (s.link link).rx = .hunt →
    (∀ c ∈ cs, c.byte ≠ 0xC3#8) → exec (.frameReceived link cs) s = .next s) ∧
  ((∀ (link : Link) (s : State), s.due = [] →
    exec (.frameTransmit link) s = .next
      { s.mapLink link (fun l =>
          match l.replies, l.notices with
          | r :: rest, _ => { l with replies := rest, lastSent := some (.reply r) }
          | [], n :: rest => { l with notices := rest, lastSent := some (.notice n) }
          | [], [] => l) with
        due := if (s.link link).waiting.isSome ∧ (s.link link).replies.length ≤ 16 then [.replyPlace link] else [] }) ∧
  ∀ (link : Link) (r : Reply) (rest : List DueEvent) (s : State), s.due = .replyPlace link :: rest →
    (s.link link).waiting = some r → (s.link link).replies.length < 16 →
    exec (.replyPlaceFreed link) s = .next (({ s with due := rest } : State).mapLink link fun l =>
      { l with waiting := none, replies := l.replies ++ [r], inbound := l.inbound.tail }))

/-- The link interface's tests on taking a record, in their order: a kind outside Table 1-3, a kind not permitted on the
link, a kind that changes game state on a follower, a body that does not fit; each is answered with its status and changes
nothing else (R7, R8, R10, R11). A reply that finds the reply list full waits and its record stays at the head (R6); while
it waits, and while another record is the head, no record is taken, and a record that arrives at an empty queue is its
head (R5, R7; the last three are how the model reads the taking of a record, log 6). That CONDITIONS and SLOT_TAKE have an
empty body, so that one with a byte is MALFORMED, is the model's reading (log 5). -/
def Obligations.RecordsAreTakenAndTested : Prop :=
  ((∀ (link : Link) (tag kind : Nat) (s : State), s.offers ⟨link, tag, true⟩ kind = true → kindPermit kind = none →
    exec (.unknownKindRecord link tag kind) s = .next (s.mapLink link fun l =>
      { l with
        inbound := l.inbound.tail
        replies := l.replies ++
          [⟨tag, if 1 ≤ kind ∧ kind ≤ 0x7F then kind + 0x80 else 0xFF, .unknownKind, .none⟩] })) ∧
  ∀ (c : Instr) (h : Hdr) (kind : Nat) (s : State), c.record? = some (h, kind) → s.offers h kind = true →
    ((kindPermit kind).any (fun p => permitted p h.link) = false →
      exec c s = .next (s.replied h kind .notPermitted .none)) ∧
    ((kindPermit kind).any (fun p => permitted p h.link) = true → h.link = .table → s.twin.state = .follower →
      changingKinds.contains kind = true → exec c s = .next (s.replied h kind .notAuthority .none)) ∧
    (s.allows h.link kind = true → (h.fits = false ∨ (s.link h.link).lengthFits c.statedLength? = false) →
      exec c s = .next (s.replied h kind .malformed .none))) ∧
  (∀ (c : Instr) (h : Hdr) (kind : Nat) (s : State), c.record? = some (h, kind) → s.due = [] → 1 ≤ h.tag → h.tag ≤ 255 →
    ((s.link h.link).waiting = none → (s.link h.link).replies.length = 16 →
      (s.link h.link).inbound.head?.any (fun r => r.tag == h.tag && r.kind == kind) = true →
      ∃ t r, exec c s = .next t ∧ r.tag = h.tag ∧ r.kind = kind + 0x80 ∧ (t.link h.link).waiting = some r ∧
        (t.link h.link).inbound = (s.link h.link).inbound ∧ (t.link h.link).replies = (s.link h.link).replies) ∧
    ((s.link h.link).waiting.isSome = true → exec c s = .next s) ∧
    ((s.link h.link).inbound.head?.any (fun r => r.tag != h.tag || r.kind != kind) = true → exec c s = .next s) ∧
    ((s.link h.link).waiting = none → (s.link h.link).inbound = [] →
      exec c s = exec c (s.mapLink h.link fun l =>
        { l with inbound := [⟨h.tag, kind, List.replicate (c.statedLength?.getD 0) 0⟩] })))

/-- LINK_INFO reports the part's identity and revision, its link with line rate and framing errors, the twin state and the
session state, and changes nothing else; a body that is not empty is MALFORMED (R18). -/
def Obligations.LinkInfoReportsTheLink : Prop :=
  ∀ (h : Hdr) (s : State), s.offers h 0x01 = true →
    exec (.linkInfo h) s = .next
      (if h.fits = true ∧ s.bodyEmpty h.link = true then
        s.replied h 0x01 .ok (.linkInfo [0x4B#8, 0x36#8, 0x32#8, 0x30#8] 1 0 h.link (s.link h.link).lineRate
          (s.link h.link).framingErrors s.twin.state s.record.game.session)
      else s.replied h 0x01 .malformed .none)

/-- SUBSCRIBE replaces the set of its own link and touches nothing else (R14); CONDITIONS returns the pending entries of
its own link in ascending code, clears them, and withdraws the notices of their kinds (R15). The status of a count above
20 is the model's reading (log 6). -/
def Obligations.SubscribeAndConditionsActOnTheirLink : Prop :=
  (∀ (h : Hdr) (count : Nat) (codes : List Nat) (s : State), s.admits h 0x02 = true →
    exec (.subscribe h count codes) s = .next
      (if count ≠ codes.length ∨ 20 < count then s.replied h 0x02 .malformed .none
      else if codes.any (20 ≤ ·) = true ∨ ¬codes.Nodup then s.replied h 0x02 .range .none
      else (s.mapLink h.link fun l => { l with subs := codes }).replied h 0x02 .ok .none)) ∧
  ∀ (h : Hdr) (s : State), s.admits h 0x03 = true →
    exec (.conditions h) s = .next ((s.mapLink h.link fun l =>
      { l with
        table := l.table.map fun e => if e.pending then ⟨false, 0, .zero, .zero⟩ else e
        notices := l.notices.filter fun n => !(l.table.getD n.cond.code .clear).pending }).replied h 0x03 .ok
          (.conditions (((s.link h.link).table.zipIdx.filter (·.1.pending)).map fun e =>
            ⟨e.2, e.1.count, e.1.first, e.1.latest⟩)))

/-- The relay slots: a post fills the slot that leads away from its link, a take empties the one that leads toward it, and
each raises its condition (R16, R17). -/
def Obligations.RelaySlotsPassTexts : Prop :=
  (∀ (h : Hdr) (text : Text) (s : State), s.admits h 0x04 = true →
    exec (.slotPost h text) s = .next
      (if text.length = 0 ∨ 64 < text.length ∨ text.any (fun c => c.toNat < 0x20 || 0x7E < c.toNat) = true then
        s.replied h 0x04 .range .none
      else
        match h.link with
        | .production =>
          if s.slotToTable.isSome then s.replied h 0x04 .full .none
          else (({ s with slotToTable := some text } : State).raise .slotPosted (.slot .toTable text.length)).replied h 0x04
            .ok .none
        | .table =>
          if s.slotToProduction.isSome then s.replied h 0x04 .full .none
          else (({ s with slotToProduction := some text } : State).raise .slotPosted
            (.slot .toProduction text.length)).replied h 0x04 .ok .none)) ∧
  ∀ (h : Hdr) (s : State), s.admits h 0x05 = true →
    exec (.slotTake h) s = .next
      (match h.link with
      | .table =>
        match s.slotToTable with
        | none => s.replied h 0x05 .notFound .none
        | some text => (({ s with slotToTable := none } : State).raise .slotTaken (.slot .toTable text.length)).replied h
            0x05 .ok (.slotText text)
      | .production =>
        match s.slotToProduction with
        | none => s.replied h 0x05 .notFound .none
        | some text => (({ s with slotToProduction := none } : State).raise .slotTaken
            (.slot .toProduction text.length)).replied h 0x05 .ok (.slotText text))

/-- A raised condition is recorded in the tables of both links by the table of R12, whatever either subscribes to; a
notice joins a link's queue exactly where the kind was not pending there and is subscribed (R13), and nothing else
changes. -/
def Obligations.ConditionsAreRecordedOnBothLinks : Prop :=
  ∀ (c : Cond) (d : Detail) (s : State),
    (∀ link, (s.link link).table.length = 20) →
    (∀ link : Link,
      let e := (s.link link).table.getD c.code .clear
      ((s.raise c d).link link).table = (s.link link).table.set c.code
        (if e.pending = false then ⟨true, 1, d, d⟩
        else if e.count < 255 then ⟨true, e.count + 1, e.first, d⟩
        else { e with count := min e.count 255, latest := d }) ∧
      ((s.raise c d).link link).table.length = 20 ∧
      (s.raise c d).link link = { s.link link with
        table := ((s.raise c d).link link).table
        notices := if e.pending = false ∧ c.code ∈ (s.link link).subs then (s.link link).notices ++ [⟨c, d⟩]
          else (s.link link).notices }) ∧
    Frame [] s (s.raise c d)

/-- Power-on from any state: the queue of commands stands, the line rates come from the straps and the settled level from
the RUN line, and everything else is as at reset (R1, R19, R50); what reset holds is in the values listed (R19, R50, R68,
R84, R100, R125, R139, R163, R179, R189, R201). That the queue stands is the model's choice (log 1), and so are the reset
values the spec does not give: the break length and its horn flag, the flag of a blanked play clock, the origin of
RESOLVING, and the zeros of a channel without a head (log 3). -/
def Obligations.PowerOnStartsAfresh : Prop :=
  (∀ (a b : Nat) (level : LineLevel) (s : State), exec (.powerOn a b level) s = .next
    { State.reset with
      pending := s.pending
      production := { State.reset.production with lineRate := a }
      table := { State.reset.table with lineRate := b }
      timing := { State.reset.timing with runLine := level, settled := if level = .high then .run else .stop } }) ∧
  (∀ link, let l := State.reset.link link;
    l.rx = .hunt ∧ l.inbound = [] ∧ l.replies = [] ∧ l.notices = [] ∧ l.subs = [] ∧ l.framingErrors = 0 ∧
      l.table = List.replicate 20 ⟨false, 0, .zero, .zero⟩) ∧
  (State.reset.slotToTable = none ∧ State.reset.slotToProduction = none) ∧
  (let t := State.reset.timing;
    t.rules = defaultRules ∧ t.v = 720000 ∧ t.run = .stopped ∧ t.gate = .steady ∧ t.window = 0 ∧ t.counted = 0 ∧
      t.playCounted = 0 ∧ t.atLimit = false ∧ t.expiryPending = false ∧ t.regulation = false ∧ t.phase = .idle ∧
      t.outstanding = [] ∧ t.play = 24000 ∧ t.playEnabled = true ∧ t.playPending = false ∧ t.brkRunning = false ∧
      t.gameHorn = none ∧ t.playHorn = none ∧ t.trim = 0 ∧ t.trimAcc = 0) ∧
  (let g := State.reset.record.game;
    g.session = .setup ∧ g.period = 1 ∧ g.home = ⟨[], 0, 0, 0⟩ ∧ g.guest = ⟨[], 0, 0, 0⟩ ∧ g.possession = .none ∧
      g.fields = [] ∧ g.log = [] ∧ g.nextSeq = 1 ∧ g.config = ⟨none, none, 4000, none⟩ ∧
      State.reset.record.outstanding = []) ∧
  (let w := State.reset.twin;
    w.role = .off ∧ w.token = 0 ∧ w.compensation = 0 ∧ w.lastRole = .none ∧ w.state = .solo ∧ w.peer = none ∧
      w.decidedFollower = false ∧ w.helloTimer = none ∧ w.heartbeatTimer = none ∧ w.clockTimer = none ∧
      w.lossTimer = none ∧ w.eventNo = 0 ∧ w.resync = false ∧ w.framingErrors = 0 ∧ w.rx = .hunt) ∧
  (let c := State.reset.canvas;
    c.size = ⟨⟨60, 1⟩, 1920, 1080⟩ ∧ c.frame = 0 ∧ c.awaitingConfig = none ∧ c.awaitingLayout = none ∧ c.zones = [] ∧
      c.visibility = [] ∧ c.surround = .slate ∧ (∀ x y, State.reset.pictureAt x y = .slate) ∧ c.assets = [] ∧ c.missingReported = [] ∧ c.inputs.length = 4 ∧
      ∀ i ∈ c.inputs, i.enabled = false ∧ i.rate = ⟨60, 1⟩ ∧ i.signal = false ∧ i.held = none) ∧
  (State.reset.capture.rings = List.replicate 4 ⟨0, 0, 0, none, .preset120⟩ ∧ State.reset.capture.readSave = none ∧
    State.reset.capture.readA = none ∧ State.reset.capture.readB = none) ∧
  (State.reset.replay.clips = [] ∧ State.reset.replay.saveQueue = [] ∧
    ∀ ch, (State.reset.chan ch).state = .idle ∧ (State.reset.chan ch).cues = [] ∧ (State.reset.chan ch).chain = false ∧
      (State.reset.chan ch).nextCue = 1) ∧
  (State.reset.rotation = ⟨[], List.replicate 4 ⟨.fixed, .hold, [], 0, none, none, 0⟩, [], 0, 1, none, none⟩ ∧
    State.reset.exposure = ⟨List.replicate 64 ⟨0, 0, 0, 0, 0, 0, none, false, false, false, false⟩,
      ⟨true, true, true, true, true, true⟩, 25⟩) ∧
  State.reset.crawl = ⟨⟨4, 64, List.replicate 95 24, none, none, ⟨0, []⟩, 8000, 56⟩, [], [], [], [], none, 0⟩

/-- RESTART: the link interface clears the production link's conditions and notices; the arbiter ends levels 0 and 3..7,
so that none of 0, 3, 4, 5 and 7 stands, while levels 1 and 2 stand as they did, a pending one now perhaps granted; both
channels are emptied and their readers detached without a warning, the save copy's reader staying as it is; each program
restarts with its pointer at 0 and its appearance dropped, and an active one selects afresh from its head; the feature
list is emptied and the strip cleared; the timing unit and the game record stay as they are, and nothing else changes but
what ends and evaluations reach (R20, R50, R68, R124, R139, R163, R168, R179, R196, R201). The order of the blocks, and
that a head's successor is placed and named in CHANNEL_STATE but warns of nothing, are the model's choice (log 10, log
20). -/
def Obligations.RestartReachesEveryBlock : Prop :=
  ∀ (h : Hdr) (s : State), s.admits h 0x06 = true →
    ∃ t, exec (.restart h) s = .next (t.replied h 0x06 .ok .none) ∧
      Frame ([.programs, .exposure] ++ endParts)
        { s with production := { s.production with table := List.replicate 20 ⟨false, 0, .zero, .zero⟩, notices := [] } } t ∧
      (t.timing = s.timing ∧ t.record = s.record) ∧
      (∀ ch, (t.chan ch).state = .idle ∧ (t.chan ch).cues = [] ∧ (t.chan ch).chain = (s.chan ch).chain ∧
        (t.chan ch).nextCue = (s.chan ch).nextCue) ∧
      (t.capture.readSave = s.capture.readSave ∧ t.capture.readA = none ∧ t.capture.readB = none ∧
        t.production.entry .nearOvertake = ⟨false, 0, .zero, .zero⟩ ∧
        t.table.entry .nearOvertake = s.table.entry .nearOvertake) ∧
      (let select := [0, 1, 2, 3].foldl (fun u p => u.restartProgram p) s;
        t.rotation.programs = select.rotation.programs ∧ t.exposure = select.exposure) ∧
      (s.tablesWf → ∀ p, p < 4 →
        let g := s.program p
        let n := t.program p;
        n.mode = g.mode ∧ n.cover = g.cover ∧ n.entries = g.entries ∧
        (s.active p = false → n.onAir = none ∧ n.pointer = 0 ∧ n.slates = g.slates) ∧
        (s.active p = true → match s.choose g.entries with
          | some e => n.onAir = some ⟨some e, s.toFrames e.dwell, 0, 0, 0⟩ ∧ n.slates = g.slates ∧
            n.pointer = (if g.mode = .fixed then indexAfter g.entries e.id else 0)
          | none => n.onAir = some ⟨none, s.toFrames 5000, 0, 0, 0⟩ ∧ n.slates = min 65535 (g.slates + 1) ∧ n.pointer = 0)) ∧
      (t.rotation.features = [] ∧ t.rotation.breakRecorded = none ∧ t.rotation.nextFeature = s.rotation.nextFeature) ∧
      (t.crawl.strip = [] ∧ (s.crawl.card = none → t.crawl.order = s.crawl.strip.map (·.id) ++ s.crawl.order)) ∧
      (t.canvas.zones.map fun z => (z.spec, z.arb.mask)) = (s.canvas.zones.map fun z => (z.spec, z.arb.mask)) ∧
      (s.rotation.features = [] → s.crawl.card = none →
        t.canvas.zones.map (·.arb.nextArrival) = s.canvas.zones.map (·.arb.nextArrival)) ∧
      (∀ zone, ∀ level ∈ [0, 3, 4, 5, 7], t.standsAt zone level = none) ∧
      (s.zonesWf → ∀ z ∈ s.canvas.zones, ∃ y, t.zone? z.spec.id = some y ∧ ∀ level ∈ [1, 2],
        (level ∈ y.arb.yielded ↔ level ∈ z.arb.yielded) ∧
        (∀ k ∈ z.arb.serviceAt level, y.arb.serviceAt level = some k) ∧
        (∀ r ∈ z.arb.pendingAt level, y.arb.pendingAt level = some r ∨
          y.arb.serviceAt level = some ⟨level, r.content, r.frames, s.canvas.frame + 1, 0, r.credit, 0⟩) ∧
        (z.arb.standing level = none → y.arb.standing level = none))

/-! ## What every step keeps -/

/-- Every step keeps both control links well formed: 20 condition entries, each clear or pending with a count of 1..255;
at most 8 inbound records and 16 replies; framing errors at most 65,535; subscribed codes distinct and below 20; at most
one notice of a kind, and only of a kind that is pending; a reply waits only for a record still in its queue (R4 to R6,
R12 to R15). Every step keeps the part's fixed tables: four inputs, four rings, four programs, 64 sponsor ids, and no
counter above its 48 bits (Tables 5-5, 7-1, 9-1, 10-1; R181, R182). -/
def Obligations.EveryStepKeepsTheLinksAndTables : Prop :=
  (∀ s t : State, s.linksWf → step s = .next t → t.linksWf) ∧
  (∀ s t : State, s.tablesWf → step s = .next t → t.tablesWf)

/-- Every step keeps the zones well formed: ids ascending and at most 7, and in each zone at most one request and one
takeover a level, never both, in ascending level, yielded only what is in service, masked only levels 1..7 (R90, R102,
Table 6-2). -/
def Obligations.EveryStepKeepsTheZones : Prop :=
  ∀ s t : State, s.zonesWf → step s = .next t → t.zonesWf

/-- The machine after reset meets the three invariants (R19, R100, R125, R139, R179, R189). -/
def Obligations.ResetMeetsTheInvariants : Prop :=
  State.reset.linksWf ∧ State.reset.zonesWf ∧ State.reset.tablesWf

/-! ## Chapter 2: game timing -/

/-- One step of the time base: the trim decides c, every timing quantity and every twin timer counts c, V and the play
value toward their ends, the stop window what it counts off; a regulation crossing sounds the horn at once; and what
reaches its end is due. Where the countdown conditions hold on the counted V in phase IDLE, one open-ended level-1 request
with the countdown asset and no credit is made in every countdown zone where level 1 does not stand, those zones are
outstanding, and the phase is COUNTDOWN, or SPENT without one; in PERIOD_END what is outstanding is released before; else
phase, outstanding zones and zones stand, as they do where the step makes a confirmed stop or an expiry due, whose run change
comes before what the conditions ask for (R21, R23, R25, R31, R33, R38, R42, R44 to R47, R75, R77; the list of due events and
their order within one step are the model's, log 2, and so is what such a step asks for, log 17). -/
def Obligations.TimeBaseCounts : Prop :=
  ∀ s : State, s.due = [] →
    ∃ t, exec .timeBaseStep s = .next t ∧
      let m := s.timing
      let n := t.timing
      let acc := m.trimAcc + m.trim.natAbs
      let c := if acc < 1000000 then 1 else if 0 < m.trim then 2 else 0
      let own := decide (s.twin.state ≠ .follower)
      let running := decide (m.run = .running)
      let stopping := decide (m.gate = .stopPending)
      let crossing := upRunOn m.rules && running && !m.regulation && decide (m.rules.periodLength ≤ n.v);
      n.trimAcc = (if acc < 1000000 then acc else acc - 1000000) ∧
      n.v = (if running then
          match m.rules.direction with
          | .down => m.v - c
          | .up => if clockLimit m.rules ≤ m.v then m.v else min (m.v + c) (clockLimit m.rules)
        else m.v) ∧
      n.counted = (if running && stopping && own then m.counted + ((m.v - n.v) + (n.v - m.v)) else m.counted) ∧
      n.expiryPending =
        (m.expiryPending ||
          (running && stopping && decide (m.v ≠ clockLimit m.rules) && decide (n.v = clockLimit m.rules))) ∧
      n.play = (if running && m.playEnabled then m.play - c else m.play) ∧
      n.playCounted =
        (if running && m.playEnabled && stopping && own then m.playCounted + min m.play c else m.playCounted) ∧
      n.playPending =
        (m.playPending || (running && m.playEnabled && stopping && decide (0 < m.play) && decide (m.play ≤ c))) ∧
      n.window = (if decide (m.gate ≠ .steady) && own then m.window + c else m.window) ∧
      n.brkValue = (if m.brkRunning then m.brkValue - c else m.brkValue) ∧
      n.playHorn = m.playHorn.map (· - c) ∧
      n.regulation = (m.regulation || crossing) ∧
      n.gameHorn =
        (if crossing then some (max ((m.gameHorn.map (· - c)).getD 0) m.rules.hornDuration)
        else m.gameHorn.map (· - c)) ∧
      (n.rules = m.rules ∧ n.trim = m.trim ∧ n.run = m.run ∧ n.gate = m.gate ∧ n.settled = m.settled ∧
        n.atLimit = m.atLimit ∧ n.playEnabled = m.playEnabled ∧ n.brkRunning = m.brkRunning ∧
        n.brkLength = m.brkLength ∧ n.brkHorn = m.brkHorn ∧ n.runLine = m.runLine) ∧
      t.twin =
        { s.twin with
          helloTimer := s.twin.helloTimer.map (· - c)
          heartbeatTimer := s.twin.heartbeatTimer.map (· - c)
          clockTimer := s.twin.clockTimer.map (· - c)
          lossTimer := s.twin.lossTimer.map (· - c) } ∧
      t.due = List.flatten
       [(if own && decide (n.gate = .startPending) && decide (n.rules.debounce ≤ n.window) then [.startConfirm] else []),
        (if own && decide (n.gate = .stopPending) && decide (n.rules.debounce ≤ n.window) then [.stopConfirm] else []),
        (if running && decide (m.gate = .steady) && decide (m.v ≠ clockLimit m.rules) &&
            decide (n.v = clockLimit m.rules) then [.gameExpiry] else []),
        (if running && m.playEnabled && decide (m.gate = .steady) && decide (0 < m.play) && decide (n.play = 0) then
          [.playExpiry (decide (m.rules.direction = .down) && decide (m.v < m.play))] else []),
        (if n.brkRunning && decide (n.brkValue = 0) then [.breakExpiry] else []),
        (if m.gameHorn.map (· - c) = some 0 then [.hornEnd .game] else []),
        (if n.playHorn = some 0 then [.hornEnd .play] else []),
        (if t.twin.helloTimer = some 0 then [.helloTimer] else []),
        (if t.twin.heartbeatTimer = some 0 then [.heartbeatTimer] else []),
        (if t.twin.clockTimer = some 0 then [.clockTimer] else []),
        (if t.twin.lossTimer = some 0 then [.lossTimer] else [])] ∧
      CountdownChecked
        (decide (m.rules.direction = .down ∧ m.rules.regulationPeriods ≤ s.record.game.period ∧
          0 < m.rules.countdownAt ∧ m.rules.countdownAsset ≠ none ∧ m.run = .running ∧ n.v ≤ m.rules.countdownAt ∧
          .stopConfirm ∉ t.due ∧ .gameExpiry ∉ t.due))
        m.phase s t ∧
      Frame ([.clock, .horns, .twinOut, .twin] ++ endParts) s { t with due := [] }

/-- TRIM clamps its value to -500..500, is never refused for range, and changes nothing but T, which governs from the next
step on (R22). -/
def Obligations.TrimIsClamped : Prop :=
  ∀ (h : Hdr) (x : Int) (s : State), s.admits h 0x1A = true →
    let clamped := if x < -500 then -500 else if 500 < x then 500 else x;
    exec (.trim h x) s = .next
      (({ s with timing := { s.timing with trim := clamped } } : State).replied h 0x1A .ok (.trim clamped))

/-- CLOCK_START and CLOCK_STOP (R30, R31, R51, R77, R111): their refusals in order; a record that finds the run state as
it asks changes nothing; else the run state changes with V as it was, RUN_CHANGED is raised on both links with cause LINK,
V and a backdated amount of 0, and a MASTER sends a CLOCK of cause RUN with those values; a start in SETUP moves the
session to IN_GAME, and no takeover whose policy is CUT stays in service after a start. CLOCK_RULES: its refusals in their
order, and all the rules replaced with what that sets (R24, R29, R77, Table 2-2). CLOCK_SET and CLOCK_ADJUST: their
refusals in order, V, and the flags, the regulation flag by R33; a V above the threshold releases the countdown, SPENT
becomes IDLE, and an adjustment of a RUNNING clock meets the countdown check; an adjustment to the limit with the gate
STEADY declares the expiry, with its conditions, horn and period end; a MASTER sends a CLOCK of cause SET, or of ADJUST
after that of the expiry (R12, R32 to R35, R44 to R47, R77). Where an adjustment expires, every zone is evaluated at the
stop, and what the countdown conditions ask for reaches the arbiter after that, and the period end last (R31, R32, R112). The
phase at a CLOCK_RULES, an adjustment that expires, conditions judged before that expiry, and a REGULATION crossing before a
CEILING expiry, are the model's reading (log 14, log 17). -/
def Obligations.TableRunsAndSetsTheClock : Prop :=
  ((∀ (h : Hdr) (s : State), s.admits h 0x13 = true →
    if s.record.game.session = .final then exec (.clockStart h) s = .next (s.replied h 0x13 .closed .none)
    else if s.timing.rules.source = .line then exec (.clockStart h) s = .next (s.replied h 0x13 .wrongSource .none)
    else if s.timing.atLimit = true then exec (.clockStart h) s = .next (s.replied h 0x13 .busy .none)
    else if s.timing.run = .running then exec (.clockStart h) s = .next (s.replied h 0x13 .ok .none)
    else ∃ t, exec (.clockStart h) s = .next (t.replied h 0x13 .ok .none) ∧ t.timing.run = .running ∧
      t.timing.v = s.timing.v ∧ t.timing.play = s.timing.play ∧ t.timing.gate = s.timing.gate ∧
      t.record.game.session = (if s.record.game.session = .setup then .inGame else s.record.game.session) ∧
      (s.zonesWf → ∀ z ∈ t.canvas.zones, ∀ k ∈ z.arb.service, k.level = 0 ∨ policyAt z.spec.policy k.level ≠ .cut) ∧
      (s.linksWf → ∀ link,
        let x := (t.link link).entry .runChanged;
        x.pending = true ∧ x.count = min 255 (((s.link link).entry .runChanged).count + 1) ∧
        x.latest = .runChanged .running .link s.timing.v 0) ∧
      t.twin = (if s.twin.state = .master then
          { s.twin with
            out := s.twin.out ++ [.clock ⟨.run, { s.clockFields with run := .running }⟩], clockTimer := some 250 }
        else s.twin) ∧
      Frame expiryParts s t) ∧
  ∀ (h : Hdr) (s : State), s.admits h 0x14 = true →
    if s.record.game.session = .final then exec (.clockStop h) s = .next (s.replied h 0x14 .closed .none)
    else if s.timing.rules.source = .line then exec (.clockStop h) s = .next (s.replied h 0x14 .wrongSource .none)
    else if s.timing.run = .stopped then exec (.clockStop h) s = .next (s.replied h 0x14 .ok .none)
    else ∃ t, exec (.clockStop h) s = .next (t.replied h 0x14 .ok .none) ∧
      t.timing = { s.timing with run := .stopped } ∧ t.record = s.record ∧
      (s.linksWf → ∀ link,
        let x := (t.link link).entry .runChanged;
        x.pending = true ∧ x.count = min 255 (((s.link link).entry .runChanged).count + 1) ∧
        x.latest = .runChanged .stopped .link s.timing.v 0) ∧
      t.twin = (if s.twin.state = .master then
          { s.twin with
            out := s.twin.out ++ [.clock ⟨.run, { s.clockFields with run := .stopped }⟩], clockTimer := some 250 }
        else s.twin) ∧
      Frame runParts { s with timing := t.timing } t) ∧
  (∀ (h : Hdr) (r : ClockRules) (s : State), s.admits h 0x10 = true →
    exec (.clockRules h r) s = .next
      (if s.record.game.session = .final then s.replied h 0x10 .closed .none
      else if s.record.game.session = .inGame then s.replied h 0x10 .locked .none
      else if s.timing.gate ≠ .steady then s.replied h 0x10 .busy .none
      else if ¬((1000 ≤ r.periodLength ∧ r.periodLength ≤ 5940000 ∧ r.periodLength % 1000 = 0) ∧
          (r.runOn = true → r.direction = .up) ∧ (r.tenths ≤ 60000 ∧ r.tenths % 1000 = 0) ∧ r.countdownAt ≤ 60000 ∧
          r.periodEndHold ≤ 30000 ∧ (1 ≤ r.regulationPeriods ∧ r.regulationPeriods ≤ 9) ∧
          (r.regulationPeriods ≤ r.maxPeriods ∧ r.maxPeriods ≤ 19) ∧ s.record.game.period ≤ r.maxPeriods ∧
          r.debounce ≤ 50 ∧ (200 ≤ r.hornDuration ∧ r.hornDuration ≤ 5000) ∧
          (1 ≤ r.playPrimary ∧ r.playPrimary ≤ 99) ∧ (1 ≤ r.playSecondary ∧ r.playSecondary ≤ 99) ∧
          (∀ a ∈ r.countdownAsset, a ≤ 1023) ∧ ∀ a ∈ r.periodEndAsset, a ≤ 1023) then
        s.replied h 0x10 .range .none
      else
        (({ s with timing :=
            { s.timing with
              rules := r
              v := match r.direction with
                | .down => r.periodLength
                | .up => 0
              atLimit := false
              expiryPending := false
              regulation := false
              play := r.playPrimary * 1000
              phase := .idle
              settled :=
                if r.source = .link then s.timing.settled
                else if (s.timing.runLine = .high ↔ r.polarity = .runHigh) then .run else .stop } } :
            State).sendStateIfMaster).replied h 0x10 .ok .none)) ∧
  ((∀ (h : Hdr) (v : Nat) (s : State), s.admits h 0x11 = true →
    if s.record.game.session = .final then exec (.clockSet h v) s = .next (s.replied h 0x11 .closed .none)
    else if s.timing.run ≠ .stopped ∨ s.timing.gate ≠ .steady then
      exec (.clockSet h v) s = .next (s.replied h 0x11 .busy .none)
    else if (if s.timing.rules.direction = .up ∧ s.timing.rules.runOn = true then 5999999
        else s.timing.rules.periodLength) < v then
      exec (.clockSet h v) s = .next (s.replied h 0x11 .range .none)
    else ∃ t, exec (.clockSet h v) s = .next (t.replied h 0x11 .ok .none) ∧
      (let m := s.timing
        let released := decide (m.phase = .countdown ∧ m.rules.countdownAt < v);
        t.timing =
          { m with
            v := v
            atLimit := decide (v = clockLimit m.rules)
            regulation := if v < m.rules.periodLength then false
              else if m.rules.direction = .up ∧ m.rules.runOn = true then true else m.regulation
            phase := if released = true ∨ m.phase = .spent then .idle else m.phase
            outstanding := if released then [] else m.outstanding } ∧
        (released = false → t.canvas = s.canvas) ∧
        (released = true → ∀ zone ∈ m.outstanding, t.standsAt zone 1 = none)) ∧
      t.twin = (if s.twin.state = .master then
          { s.twin with out := s.twin.out ++ [.clock ⟨.set, t.clockFields⟩], clockTimer := some 250 }
        else s.twin) ∧
      (s.linksWf → Gains s t .runChanged [] ∧ Gains s t .clockExpired [] ∧ Gains s t .sessionChanged []) ∧
      Frame ([.clock, .twinOut] ++ endParts) s t) ∧
  ∀ (h : Hdr) (x : Int) (s : State), s.admits h 0x12 = true →
    if s.record.game.session = .final then exec (.clockAdjust h x) s = .next (s.replied h 0x12 .closed .none)
    else if x = 0 ∨ x < -600000 ∨ 600000 < x then exec (.clockAdjust h x) s = .next (s.replied h 0x12 .range .none)
    else
      let m := s.timing
      let v := min (if m.rules.direction = .up ∧ m.rules.runOn = true then 5999999 else m.rules.periodLength)
        ((m.v : Int) + x).toNat;
      ∃ t, exec (.clockAdjust h x) s = .next (t.replied h 0x12 .ok (.count v)) ∧ t.timing.v = v ∧
      t.timing.run = (if v = clockLimit m.rules ∧ m.run = .running ∧ m.gate = .steady then .stopped else m.run) ∧
      t.timing.atLimit = (if v = clockLimit m.rules then
          (if m.run = .stopped ∨ m.gate = .steady then true else m.atLimit) else false) ∧
      (v = clockLimit m.rules → m.run = .running → m.gate = .stopPending → t.timing.expiryPending = true) ∧
      (v ≠ clockLimit m.rules → t.timing.expiryPending = false) ∧
      t.timing.counted = m.counted ∧ t.timing.play = m.play ∧ t.timing.gate = m.gate ∧
      (let runOn := upRunOn m.rules
        let expires := decide (v = clockLimit m.rules ∧ m.run = .running ∧ m.gate = .steady)
        let above := decide (m.rules.periodLength ≤ v)
        let crosses := runOn && above && decide (m.run = .running) && !m.regulation
        let released := decide (m.phase = .countdown ∧ m.rules.countdownAt < v)
        let phase := if m.phase = .spent then Phase.idle else m.phase
        let asks := decide (m.rules.direction = .down ∧ m.rules.regulationPeriods ≤ s.record.game.period ∧
          0 < m.rules.countdownAt ∧ m.rules.countdownAsset ≠ none ∧ m.run = .running ∧ v ≤ m.rules.countdownAt);
        t.timing.regulation =
          (above && (m.regulation || crosses || (runOn && decide (m.run = .stopped)))) ∧
        t.timing.playHorn = m.playHorn ∧
        t.timing.gameHorn = (if crosses = true ∨ expires = true ∧ runOn = false then
          some (max (m.gameHorn.getD 0) m.rules.hornDuration) else m.gameHorn) ∧
        (expires = false → released = false → CountdownChecked asks phase s t) ∧
        (released = true → expires = false →
          t.timing.phase = .idle ∧ t.timing.outstanding = [] ∧ ∀ zone ∈ m.outstanding, t.standsAt zone 1 = none) ∧
        (expires = true → runOn = false → released = false → ∃ w u : State,
          let stopped : State := { s with timing := { m with run := .stopped } };
          w.canvas = ((s.canvas.zones.map (·.spec.id)).foldl (fun w zone => w.evaluate zone) stopped).canvas ∧
          w.timing =
            { m with
              v := v, run := .stopped, atLimit := true, expiryPending := false, regulation := t.timing.regulation
              phase := phase } ∧
          (s.zonesWf → w.zonesWf) ∧ CountdownChecked asks phase w u ∧ Frame ([.horns] ++ endParts) w u ∧
          t.timing.phase = u.periodEnd.timing.phase ∧ t.timing.outstanding = u.periodEnd.timing.outstanding ∧
          t.canvas = u.periodEnd.canvas) ∧
        (expires = true → runOn = true → released = false →
          t.timing.phase = phase ∧ t.timing.outstanding = m.outstanding) ∧
        t.twin = (if s.twin.state = .master then
            { s.twin with
              out := s.twin.out ++ (if expires then [.clock ⟨.expiry, t.clockFields⟩] else []) ++
                [.clock ⟨.adjust, t.clockFields⟩]
              clockTimer := some 250 }
          else s.twin) ∧
        (s.linksWf →
          Gains s t .runChanged (if expires then [.runChanged .stopped .expiry v 0] else []) ∧
          Gains s t .sessionChanged [] ∧
          Gains s t .clockExpired
            ((if crosses then [.clockExpired .regulation s.record.game.period m.rules.direction v] else []) ++
              if expires then
                [.clockExpired (if runOn then .ceiling else .limit) s.record.game.period m.rules.direction v]
              else []))) ∧
      Frame expiryParts s t)

/-- An edge of the RUN line (R25), a glitch (R28) and the ignored line (R29): an edge opens a window or settles at once by
the run state and the at-limit flag, with D = 0 it is confirmed in the same event, and a return of the line closes the
window: a start window with nothing but the gate changed, a stop window with what was pending declared. Both windows are
confirmed once D is reached (R26, R27): a start is backdated by its window count and may expire at once, or starts nothing
at the limit; a stop restores what was counted off, clears what was pending, has every zone evaluated, then asks for the
countdown whose conditions its step found on the counted V, and last releases a countdown that V now stands above the
threshold of, each zone RELEASED and the phase IDLE (R31, R45 to R47, R112). Each run change
raises RUN_CHANGED on both links with its cause, the new V and the backdated amount, and a MASTER sends a CLOCK of cause
RUN with the values handed on, then one of EXPIRY or PLAY for what expires at the start, and one of GATE where nothing
starts (R31, R77). What a closing window sends, a stop that restores V to the limit, the game clock's expiry before the
play clock's, the pending flag of a disabled play clock cleared with nothing declared, a start handed on before its
regulation crossing, and conditions judged on the V before the restoration, are the model's reading (log 14, log 17). -/
def Obligations.RunLineWindowsAreConfirmed : Prop :=
  (∀ (level : LineLevel) (s : State), s.due = [] →
    let m := s.timing
    let now : GateLevel := if (level = .high ↔ m.rules.polarity = .runHigh) then .run else .stop
    let u : State := { s with timing := { m with runLine := level } }
    let settle : State := { u with timing := { u.timing with settled := now } }
    let open_ (g : Gate) : State :=
      { u with timing := { u.timing with gate := g, window := 0, counted := 0, playCounted := 0 } }
    let glitch : State :=
      { u with timing := { u.timing with gate := .steady, window := 0, counted := 0, playCounted := 0 } }
    let shut : State :=
      { u with timing :=
        { u.timing with
          gate := .steady, window := 0, counted := 0, playCounted := 0, expiryPending := false, playPending := false } }
    let shut' : State := if m.expiryPending then shut.expire false else shut.sendClock .gate;
    exec (.runLineEdge level) s = .next
      (if level = m.runLine then s
      else if m.rules.source = .link ∨ s.record.game.session = .final ∨ s.twin.state = .follower then u
      else if m.gate = .steady then
        if now = m.settled then u
        else if now = .run ∧ m.run = .stopped ∧ m.atLimit = false then
          if m.rules.debounce = 0 then (open_ .startPending).confirmStart else (open_ .startPending).sendClock .gate
        else if now = .stop ∧ m.run = .running then
          if m.rules.debounce = 0 then (open_ .stopPending).confirmStop false else (open_ .stopPending).sendClock .gate
        else settle
      else if now = m.settled ∧ m.gate = .startPending then glitch.sendClock .gate
      else if now = m.settled then (if m.playPending = true ∧ m.playEnabled = true then shut'.playExpire m.playZeroBlanked else shut')
      else u)) ∧
  ((∀ (rest : List DueEvent) (s : State), s.due = .startConfirm :: rest → s.timing.gate = .startPending →
    s.timing.rules.debounce ≤ s.timing.window →
    ∃ t, exec .startWindowConfirm s = .next t ∧
      let m := s.timing
      let n := t.timing
      let v := match m.rules.direction with
        | .down => m.v - m.window
        | .up => if clockLimit m.rules ≤ m.v then m.v else min (m.v + m.window) (clockLimit m.rules);
      n.gate = .steady ∧ n.settled = .run ∧ n.window = 0 ∧ n.rules = m.rules ∧
      (m.atLimit = true → n.v = m.v ∧ n.run = m.run ∧ n.play = m.play ∧ t.record = s.record ∧ t.canvas = s.canvas ∧
        (∀ link, (t.link link).entry .runChanged = (s.link link).entry .runChanged) ∧
        t.twin = (if s.twin.state = .master then
            { s.twin with out := s.twin.out ++ [.clock ⟨.gate, t.clockFields⟩], clockTimer := some 250 }
          else s.twin)) ∧
      (m.atLimit = false → n.v = v ∧ n.play = (if m.playEnabled then m.play - m.window else m.play) ∧
        n.run = (if v = clockLimit m.rules then .stopped else .running) ∧
        n.atLimit = decide (v = clockLimit m.rules) ∧
        t.record.game.session = (if s.record.game.session = .setup then .inGame else s.record.game.session) ∧
        (s.linksWf → ∀ link,
          let e := (s.link link).entry .runChanged
          let x := (t.link link).entry .runChanged;
          x.pending = true ∧ x.count = min 255 (e.count + if v = clockLimit m.rules then 2 else 1) ∧
          x.first = (if e.pending then e.first else .runChanged .running .line v m.window) ∧
          x.latest = (if v = clockLimit m.rules then .runChanged .stopped .expiry v 0
            else .runChanged .running .line v m.window)) ∧
        (let handed : ClockFields := { s.clockFields with v := v, run := .running, gate := .steady, play := n.play }
          let played := decide (m.playEnabled = true ∧ 0 < m.play ∧ m.play ≤ m.window);
          t.twin = if s.twin.state = .master then
            { s.twin with
              out := s.twin.out ++ [.clock ⟨.run, handed⟩] ++
                (if v = clockLimit m.rules then [.clock ⟨.expiry, t.clockFields⟩] else []) ++
                (if played then [.clock ⟨.play, t.clockFields⟩] else [])
              clockTimer := some 250 }
          else s.twin)) ∧
      Frame expiryParts { s with due := rest } t) ∧
  ∀ (rest : List DueEvent) (s : State), s.due = .stopConfirm :: rest → s.timing.gate = .stopPending →
    s.timing.rules.debounce ≤ s.timing.window →
    ∃ t, exec .stopWindowConfirm s = .next t ∧
      let m := s.timing
      let n := t.timing
      let v := match m.rules.direction with
        | .down => min (m.v + m.counted) m.rules.periodLength
        | .up => min (m.v - m.counted) (if m.rules.runOn then 5999999 else m.rules.periodLength);
      n.v = v ∧ n.gate = .steady ∧ n.settled = .stop ∧ n.window = 0 ∧ n.run = .stopped ∧ n.expiryPending = false ∧
      n.playPending = false ∧ n.play = min 99000 (m.play + m.playCounted) ∧
      (n.v ≠ clockLimit m.rules → n.atLimit = false) ∧ t.record.game.session = s.record.game.session ∧
      (∃ u w : State,
        let stopped : State := { s with timing := { m with run := .stopped } }
        let asks := decide (m.rules.direction = .down ∧ m.rules.regulationPeriods ≤ s.record.game.period ∧
          0 < m.rules.countdownAt ∧ m.rules.countdownAsset ≠ none ∧ m.run = .running ∧ m.v ≤ m.rules.countdownAt)
        let released := decide (w.timing.phase = .countdown ∧ m.rules.countdownAt < v);
        u.canvas = ((s.canvas.zones.map (·.spec.id)).foldl (fun u zone => u.evaluate zone) stopped).canvas ∧
        u.timing = { n with phase := m.phase, outstanding := m.outstanding } ∧ (s.zonesWf → u.zonesWf) ∧
        CountdownChecked asks m.phase u w ∧ Frame endParts u w ∧
        n.phase = (if released then .idle else w.timing.phase) ∧
        n.outstanding = (if released then [] else w.timing.outstanding) ∧
        (released = false → t.canvas = w.canvas) ∧
        (released = true → ∀ zone ∈ w.timing.outstanding, t.standsAt zone 1 = none) ∧
        (s.linksWf → asks = false ∨ m.phase ≠ .periodEnd → Gains s w .takeoverEnded []) ∧
        (s.linksWf → w.timing.outstanding.Nodup → Gains w t .takeoverEnded (if released then
          w.timing.outstanding.filterMap fun zone => (w.standsAt zone 1).map fun stood =>
            .takeoverEnded zone 1 .released stood.1 stood.2
        else []))) ∧
      (s.linksWf → ∀ link,
        let x := (t.link link).entry .runChanged;
        x.pending = true ∧ x.count = min 255 (((s.link link).entry .runChanged).count + 1) ∧
        x.latest = .runChanged .stopped .line v m.counted) ∧
      t.twin = (if s.twin.state = .master then
          { s.twin with out := s.twin.out ++ [.clock ⟨.run, t.clockFields⟩], clockTimer := some 250 }
        else s.twin) ∧
      Frame ([.clock] ++ runParts) { s with due := rest } t)

/-- A game clock expiry (R32, R33, R44): the clock is STOPPED at its limit with the at-limit flag set, and the gate's
settled level stands; the run change is handed on with RUN_CHANGED of cause EXPIRY, every zone is evaluated, and a MASTER
sends a CLOCK of cause EXPIRY (R31, R77, R112); what the countdown conditions of its step ask for is sent after that (R31,
R45, R47); below the ceiling GAME HORN sounds and the period end follows, at the ceiling neither. An expiry that no longer
stands when it is carried out has no effect. The period end by phase (R46, R47): with a hold and an asset, in COUNTDOWN and
PERIOD_END every outstanding request is replaced by one timed at the hold, with no re-arbitration where it is in service;
in IDLE and SPENT one is made in every countdown zone where level 1 does not stand; the phase is PERIOD_END, or SPENT where
none is outstanding, and it stands without a countdown zone; with neither, a countdown is released and SPENT, and any other
phase stands. The due list is the model's (log 2), and so are conditions judged while the clock is RUNNING and a request sent
before CLOCK_EXPIRED (log 17). -/
def Obligations.GameClockExpires : Prop :=
  (∀ (rest : List DueEvent) (s : State), s.due = .gameExpiry :: rest →
    if s.timing.run = .running ∧ s.timing.gate = .steady ∧ s.timing.v = clockLimit s.timing.rules then
      ∃ u w : State,
        let m := s.timing
        let stopped : State := { s with timing := { m with run := .stopped } };
        exec .gameClockExpiry s = .next
          (if m.rules.direction = .up ∧ m.rules.runOn = true then
            w.raise .clockExpired (.clockExpired .ceiling s.record.game.period .up m.v)
          else
            State.periodEnd { w.raise .clockExpired
                (.clockExpired .limit s.record.game.period m.rules.direction m.v) with
              timing := { w.timing with
                gameHorn := some (max (w.timing.gameHorn.getD 0) m.rules.hornDuration) } }) ∧
        u.timing = { s.timing with run := .stopped, atLimit := true, expiryPending := false } ∧ u.record = s.record ∧
        u.twin = (if s.twin.state = .master then
            { s.twin with out := s.twin.out ++ [.clock ⟨.expiry, u.clockFields⟩], clockTimer := some 250 }
          else s.twin) ∧
        u.canvas = ((s.canvas.zones.map (·.spec.id)).foldl (fun u zone => u.evaluate zone) stopped).canvas ∧
        (s.zonesWf → u.zonesWf) ∧
        CountdownChecked (decide (m.rules.direction = .down ∧ m.rules.regulationPeriods ≤ s.record.game.period ∧
          0 < m.rules.countdownAt ∧ m.rules.countdownAsset ≠ none ∧ m.v ≤ m.rules.countdownAt)) m.phase u w ∧
        (s.linksWf → Gains s w .runChanged [.runChanged .stopped .expiry m.v 0] ∧ Gains s w .clockExpired [] ∧
          Gains s w .sessionChanged []) ∧
        Frame runParts { s with due := rest, timing := u.timing } u ∧ Frame endParts u w
    else exec .gameClockExpiry s = .next { s with due := rest }) ∧
  ∀ s : State, s.zonesWf →
    let m := s.timing
    let t := s.periodEnd
    let asset := if 0 < m.rules.periodEndHold then m.rules.periodEndAsset else none
    let takers := (s.canvas.zones.filter (·.spec.attrs.countdown)).map (·.spec.id)
    let free := takers.filter fun zone => (s.standsAt zone 1).isNone
    let stands (a zone : Nat) : Prop := ∃ z, t.zone? zone = some z ∧
      ((∃ k, z.arb.serviceAt 1 = some k ∧ k.content = .asset a ∧ k.remaining = some (s.toFrames m.rules.periodEndHold) ∧
          k.credit = none ∧ k.pos = 0) ∨
        ∃ r, z.arb.pendingAt 1 = some r ∧ r.content = .asset a ∧ r.frames = some (s.toFrames m.rules.periodEndHold) ∧
          r.credit = none);
    Frame endParts s t ∧
    (asset = none → m.phase ≠ .countdown → t = s) ∧
    (asset = none → m.phase = .countdown →
      t.timing = { m with phase := .spent, outstanding := [] } ∧ ∀ zone ∈ m.outstanding, t.standsAt zone 1 = none) ∧
    (∀ a, asset = some a → m.phase = .countdown ∨ m.phase = .periodEnd →
      t.timing = { m with phase := .periodEnd } ∧
      (∀ zone ∈ m.outstanding, (s.standsAt zone 1).isSome = true → stands a zone) ∧
      ∀ z ∈ s.canvas.zones,
        (z.spec.id ∉ m.outstanding → t.zone? z.spec.id = some z) ∧
        (z.spec.id ∈ m.outstanding → (z.arb.serviceAt 1).isSome = true → t.zone? z.spec.id = some
          { z with arb := { z.arb with service := z.arb.service.map fun k =>
            if k.level = 1 then
              { k with content := .asset a, remaining := some (s.toFrames m.rules.periodEndHold), credit := none, pos := 0 }
            else k } })) ∧
    (∀ a, asset = some a → m.phase = .idle ∨ m.phase = .spent →
      (takers = [] → t = s) ∧
      (takers ≠ [] →
        t.timing = { m with outstanding := free, phase := if free = [] then .spent else .periodEnd } ∧
        (∀ zone ∈ free, stands a zone) ∧
        ∀ z ∈ s.canvas.zones, z.spec.id ∉ free → t.zone? z.spec.id = some z))

/-- PLAY_RESET, PLAY_ENABLE and the play expiry: their refusals in order, the value and the enable they set, and PLAY HORN
only where the play clock was not blanked (R38 to R40). The due list is the model's (log 2). -/
def Obligations.PlayClockFollowsItsRecords : Prop :=
  (∀ (h : Hdr) (choice : PlayChoice) (s : State), s.admits h 0x15 = true →
    exec (.playReset h choice) s = .next
      (if s.record.game.session = .final then s.replied h 0x15 .closed .none
      else if (match choice with | .value n => n == 0 || decide (99 < n) | _ => false) = true then s.replied h 0x15 .range .none
      else
        (({ s with timing :=
            { s.timing with
              play := match choice with
                | .primary => s.timing.rules.playPrimary * 1000
                | .secondary => s.timing.rules.playSecondary * 1000
                | .value n => n * 1000
              playPending := false
              playCounted := 0 } } : State).sendClock .play).replied h 0x15 .ok .none)) ∧
  (∀ (h : Hdr) (on : Bool) (s : State), s.admits h 0x16 = true →
    exec (.playEnable h on) s = .next
      (if s.record.game.session = .final then s.replied h 0x16 .closed .none
      else
        (({ s with timing := { s.timing with playEnabled := on } } : State).sendClock .play).replied h 0x16 .ok .none)) ∧
  ∀ (blanked : Bool) (rest : List DueEvent) (s : State), s.due = .playExpiry blanked :: rest →
    exec .playExpiry s = .next
      (if s.timing.play = 0 then
        let u : State := ({ s with due := rest, timing := { s.timing with playPending := false } } : State).raise
          .playExpired (.playExpired blanked s.timing.v)
        (if s.timing.rules.playHorn = true ∧ blanked = false then
          { u with timing :=
            { u.timing with playHorn := some (max (u.timing.playHorn.getD 0) u.timing.rules.hornDuration) } }
        else u).sendClock .play
      else { s with due := rest })

/-- The break timer starts, is cancelled and expires, the rotation unit being told of each (R42, R43, R177). HORN sounds a
horn to the later of two ends in every session state and on a follower too, and a horn that has reached its end falls
silent (R44). The due list is the model's (log 2). -/
def Obligations.BreakTimerAndHornsRun : Prop :=
  ((∀ (h : Hdr) (seconds : Nat) (hornFlag : Bool) (s : State), s.admits h 0x17 = true →
    exec (.breakStart h seconds hornFlag) s = .next
      (if s.record.game.session = .final then s.replied h 0x17 .closed .none
      else if seconds = 0 ∨ 900 < seconds then s.replied h 0x17 .range .none
      else if s.timing.brkRunning = true then s.replied h 0x17 .busy .none
      else
        ((({ s with timing :=
            { s.timing with
              brkRunning := true, brkValue := seconds * 1000, brkLength := seconds * 1000, brkHorn := hornFlag } } :
            State).featureBreakStart seconds).sendClock .breakStart).replied h 0x17 .ok .none)) ∧
  (∀ (h : Hdr) (s : State), s.admits h 0x18 = true →
    exec (.breakCancel h) s = .next
      (if s.record.game.session = .final then s.replied h 0x18 .closed .none
      else if s.timing.brkRunning = false then s.replied h 0x18 .notFound .none
      else
        ((({ s with timing := { s.timing with brkRunning := false, brkValue := 0 } } :
            State).featureBreakCancel).sendClock .breakCancel).replied h 0x18 .ok .none)) ∧
  ∀ (rest : List DueEvent) (s : State), s.due = .breakExpiry :: rest →
    exec .breakExpiry s = .next
      (if s.timing.brkRunning = true ∧ s.timing.brkValue = 0 then
        let u : State := ({ s with due := rest, timing := { s.timing with brkRunning := false } } : State).raise
          .breakExpired (.breakExpired (s.timing.brkLength / 1000) s.timing.brkHorn)
        ((if s.timing.brkHorn = true then
          { u with timing :=
            { u.timing with gameHorn := some (max (u.timing.gameHorn.getD 0) u.timing.rules.hornDuration) } }
        else u).featureBreakExpiry).sendClock .breakEnd
      else { s with due := rest })) ∧
  ((∀ (h : Hdr) (which : Horn) (d : Nat) (s : State), s.admits h 0x19 = true →
    exec (.horn h which d) s = .next
      (if d < 200 ∨ 5000 < d then s.replied h 0x19 .range .none
      else
        match which with
        | .game => ({ s with timing :=
            { s.timing with gameHorn := some (max (s.timing.gameHorn.getD 0) d) } } : State).replied h 0x19 .ok .none
        | .play => ({ s with timing :=
            { s.timing with playHorn := some (max (s.timing.playHorn.getD 0) d) } } : State).replied h 0x19 .ok .none)) ∧
  ∀ (rest : List DueEvent) (s : State),
    (s.due = .hornEnd .game :: rest → exec (.hornEnd .game) s = .next { s with
      due := rest
      timing := { s.timing with gameHorn := if s.timing.gameHorn = some 0 then none else s.timing.gameHorn } }) ∧
    (s.due = .hornEnd .play :: rest → exec (.hornEnd .play) s = .next { s with
      due := rest
      timing := { s.timing with playHorn := if s.timing.playHorn = some 0 then none else s.timing.playHorn } }))

/-! ## Chapter 3: the game record -/

/-- In FINAL every changing record kind but GAME_OPEN is refused CLOSED, after the link's own tests, and changes nothing;
only a TEAM_SET without a field, and a FIELD_DEFINE whose count is not that of its definitions, or is above 16, are
MALFORMED before (R7, R24, R30, R34, R35, R40, R42, R43, R52, R56, R57). That a FIELD_DEFINE with a matching count above
16 is MALFORMED, and so before CLOSED, is the model's reading (log 6). -/
def Obligations.FinalClosesTheRecord : Prop :=
  ∀ (c : Instr) (h : Hdr) (kind : Nat) (s : State), c.record? = some (h, kind) → kind ∈ changingKinds → kind ≠ 0x20 →
    s.admits h kind = true → s.record.game.session = .final →
    let unfit : Bool := match c with
      | .teamSet _ _ f => f.name.isNone && f.timeouts.isNone && f.fouls.isNone && f.possession.isNone
      | .fieldDefine _ count defs => decide (count ≠ defs.length ∨ 16 < count)
      | _ => false;
    exec c s = .next (s.replied h kind (if unfit then .malformed else .closed) .none)

/-- GAME_FINAL, GAME_OPEN and NEXT_PERIOD: their refusals in order; FINAL changes the session alone and closes an open
window; a new game clears teams, fields, log and exposure counters and keeps names and configuration, and out of FINAL the
gate samples the RUN line; a new period clears fouls and per-period fields; both reset the clock, and release level 1, a
new game level 2 as well. Each raises SESSION_CHANGED on both links, and a MASTER sends its EVENT with the next event
number, then a CLOCK of cause RESET for the two that reset the clock (R29, R36, R46, R51, R53 to R55, R67, R77, R80,
R187). That GAME_OPEN's releases of level 1 and of level 2 are two events of ends is the model's choice (log 20). -/
def Obligations.GamesOpenAdvanceAndEnd : Prop :=
  (∀ (h : Hdr) (s : State), s.admits h 0x21 = true →
    if s.record.game.session = .final then exec (.gameFinal h) s = .next (s.replied h 0x21 .closed .none)
    else if s.record.game.session = .setup ∨ s.timing.run = .running then
      exec (.gameFinal h) s = .next (s.replied h 0x21 .busy .none)
    else ∃ t, exec (.gameFinal h) s = .next (t.replied h 0x21 .ok .none) ∧
      t.record = { s.record with game := { s.record.game with session := .final } } ∧ t.timing.gate = .steady ∧
      (s.linksWf → ∀ link,
        let x := (t.link link).entry .sessionChanged;
        x.pending = true ∧ x.count = min 255 (((s.link link).entry .sessionChanged).count + 1) ∧
        x.latest = .sessionChanged .inGame .final .final s.record.game.period) ∧
      (s.twin.state ≠ .master → t.twin = s.twin) ∧
      (s.twin.state = .master →
        let number := (s.twin.eventNo + 1) % 65536
        let sent : TwinRecord := .event ⟨number, .gameFinal, s.record.game.nextSeq⟩;
        (s.timing.gate = .steady → t.twin = { s.twin with eventNo := number, out := s.twin.out ++ [sent] }) ∧
        (s.timing.gate = .startPending → t.twin =
          { s.twin with
            eventNo := number, out := s.twin.out ++ [sent, .clock ⟨.gate, t.clockFields⟩], clockTimer := some 250 })) ∧
      (s.timing.gate = .startPending ∨ s.timing.expiryPending = false ∧ s.timing.playPending = false →
        t.timing = (if s.timing.gate = .steady then s.timing
          else { s.timing with gate := .steady, window := 0, counted := 0, playCounted := 0 }) ∧
        Frame [.clock, .session, .twinOut, .twin] s t)) ∧
  (∀ (h : Hdr) (s : State), s.admits h 0x20 = true →
    if s.timing.run = .running then exec (.gameOpen h) s = .next (s.replied h 0x20 .busy .none)
    else ∃ t, exec (.gameOpen h) s = .next (t.replied h 0x20 .ok .none) ∧
      t.record.game =
        { s.record.game with
          session := .setup
          period := 1
          home := ⟨s.record.game.home.name, 0, 0, 0⟩
          guest := ⟨s.record.game.guest.name, 0, 0, 0⟩
          possession := .none
          fields := s.record.game.fields.map fun f => { f with value := 0 }
          log := []
          nextSeq := 1 } ∧
      t.timing.v = (match s.timing.rules.direction with | .down => s.timing.rules.periodLength | .up => 0) ∧
      t.timing.play = s.timing.rules.playPrimary * 1000 ∧ t.timing.atLimit = false ∧ t.timing.expiryPending = false ∧
      t.timing.regulation = false ∧ t.timing.phase = .idle ∧ t.timing.outstanding = [] ∧ t.timing.gate = s.timing.gate ∧
      (∀ zone ∈ s.timing.outstanding, t.standsAt zone 1 = none) ∧
      (∀ zone ∈ s.record.outstanding, t.standsAt zone 2 = none) ∧
      t.timing.settled =
        (if s.record.game.session = .final ∧ s.timing.rules.source = .line then
          if (s.timing.runLine = .high ↔ s.timing.rules.polarity = .runHigh) then .run else .stop
        else s.timing.settled) ∧
      (s.linksWf → ∀ link,
        let x := (t.link link).entry .sessionChanged;
        x.pending = true ∧ x.count = min 255 (((s.link link).entry .sessionChanged).count + 1) ∧
        x.latest = .sessionChanged s.record.game.session .setup .opened 1) ∧
      (let number := (s.twin.eventNo + 1) % 65536;
        t.twin = if s.twin.state = .master then
          { s.twin with
            eventNo := number
            out := s.twin.out ++ [.event ⟨number, .gameOpen, 1⟩, .clock ⟨.reset, t.clockFields⟩], clockTimer := some 250 }
        else s.twin) ∧
      (t.exposure.ids.map (·.quota)) = (s.exposure.ids.map (·.quota)) ∧
      (∀ e ∈ t.exposure.ids, e.delivered = 0 ∧ e.visibleFrames = 0 ∧ e.appearances = 0 ∧ e.shortAppearances = 0 ∧
        e.featureFrames = 0 ∧ e.taggedFrames = 0 ∧ e.p100 = false ∧ e.fulfilled = false) ∧
      Frame ([.game, .twin, .exposure] ++ expiryParts) s t) ∧
  ∀ (h : Hdr) (s : State), s.admits h 0x22 = true →
    if s.record.game.session = .final then exec (.nextPeriod h) s = .next (s.replied h 0x22 .closed .none)
    else if s.timing.run = .running then exec (.nextPeriod h) s = .next (s.replied h 0x22 .busy .none)
    else if s.timing.rules.maxPeriods ≤ s.record.game.period then
      exec (.nextPeriod h) s = .next (s.replied h 0x22 .range .none)
    else ∃ t, exec (.nextPeriod h) s = .next (t.replied h 0x22 .ok .none) ∧
      t.record.game =
        { s.record.game with
          period := s.record.game.period + 1
          home := { s.record.game.home with fouls := 0 }
          guest := { s.record.game.guest with fouls := 0 }
          fields := s.record.game.fields.map fun f => if f.defn.perPeriod then { f with value := 0 } else f } ∧
      t.timing.v = (match s.timing.rules.direction with | .down => s.timing.rules.periodLength | .up => 0) ∧
      t.timing.play = s.timing.rules.playPrimary * 1000 ∧ t.timing.atLimit = false ∧ t.timing.expiryPending = false ∧
      t.timing.regulation = false ∧ t.timing.phase = .idle ∧ t.timing.outstanding = [] ∧ t.timing.gate = s.timing.gate ∧
      (∀ zone ∈ s.timing.outstanding, t.standsAt zone 1 = none) ∧
      (s.linksWf → ∀ link,
        let x := (t.link link).entry .sessionChanged;
        x.pending = true ∧ x.count = min 255 (((s.link link).entry .sessionChanged).count + 1) ∧
        x.latest = .sessionChanged s.record.game.session s.record.game.session .period (s.record.game.period + 1)) ∧
      (let number := (s.twin.eventNo + 1) % 65536;
        t.twin = if s.twin.state = .master then
          { s.twin with
            eventNo := number
            out := s.twin.out ++ [.event ⟨number, .nextPeriod, s.record.game.nextSeq⟩, .clock ⟨.reset, t.clockFields⟩]
            clockTimer := some 250 }
        else s.twin) ∧
      Frame ([.game, .twin] ++ expiryParts) s t

/-- SCORE_ADD and SCORE_REVISE: their refusals in order, the saturating score, the log entry with its seq, and the
condition; only a positive delta requests a score event; the change is handed to the twin, and a MASTER sends it as an
EVENT (R59 to R61, R67, R80). A requested score event stands at level 2 in every score-event zone, pending or in service,
with the team's asset, the duration in frames at the output rate and the credit of a defined score sponsor; with no asset
nothing is requested (R63, R88, R106). That the EVENT carries the applied delta is the model's choice (log 13). -/
def Obligations.ScoresAreAddedAndRevised : Prop :=
  ((∀ (h : Hdr) (team : Team) (points : Nat) (s : State), s.admits h 0x23 = true →
    let g := s.record.game
    let old := (match team with | .home => g.home | .guest => g.guest)
    let d := min points (999 - old.score)
    let entry : LogEntry := ⟨g.nextSeq, .add false, team, d, old.score + d, g.period, s.timing.v⟩
    let log := if 32 ≤ g.log.length then g.log.tail ++ [entry] else g.log ++ [entry]
    let seq := if g.nextSeq ≥ 65535 then 1 else g.nextSeq + 1
    let game : RecordFields := (match team with
      | .home => { g with home := { old with score := old.score + d }, log := log, nextSeq := seq }
      | .guest => { g with guest := { old with score := old.score + d }, log := log, nextSeq := seq })
    let u := ({ s with record := { s.record with game := game } } : State).raise .scoreChanged
      (.scoreChanged g.nextSeq team d (old.score + d) g.period);
    exec (.scoreAdd h team points) s = .next
      (if g.session = .final then s.replied h 0x23 .closed .none
      else if points = 0 ∨ 9 < points then s.replied h 0x23 .range .none
      else
        ((if 0 < d then u.requestScoreEvent team else u).sendEvent (.scoreAdd team d) g.nextSeq).replied h 0x23 .ok
          (.score g.nextSeq d (old.score + d)))) ∧
  ∀ (h : Hdr) (named : Nat) (s : State), s.admits h 0x24 = true →
    let g := s.record.game;
    exec (.scoreRevise h named) s = .next
      (if g.session = .final then s.replied h 0x24 .closed .none
      else
        match g.log.find? (·.seq == named) with
        | none => s.replied h 0x24 .notFound .none
        | some orig =>
          if orig.kind = .add false then
            let old := (match orig.team with | .home => g.home | .guest => g.guest)
            let d := min old.score orig.delta.toNat
            let entry : LogEntry :=
              ⟨g.nextSeq, .revise orig.seq, orig.team, -(d : Int), old.score - d, g.period, s.timing.v⟩
            let marked := g.log.map fun e => if e.seq = orig.seq then { e with kind := .add true } else e
            let log := if 32 ≤ marked.length then marked.tail ++ [entry] else marked ++ [entry]
            let seq := if g.nextSeq ≥ 65535 then 1 else g.nextSeq + 1
            let game : RecordFields := (match orig.team with
              | .home => { g with home := { old with score := old.score - d }, log := log, nextSeq := seq }
              | .guest => { g with guest := { old with score := old.score - d }, log := log, nextSeq := seq })
            ((({ s with record := { s.record with game := game } } : State).raise .scoreCorrected
              (.scoreCorrected g.nextSeq orig.seq orig.team (-(d : Int)) (old.score - d))).sendEvent
                (.scoreRevise orig.seq) g.nextSeq).replied h 0x24 .ok (.score g.nextSeq (-(d : Int)) (old.score - d))
          else s.replied h 0x24 .range .none)) ∧
  (∀ (team : Team) (s : State), s.zonesWf →
    let c := s.record.game.config
    let asset := (match team with | .home => c.homeAsset | .guest => c.guestAsset)
    let t := s.requestScoreEvent team;
    (asset = none → t = s) ∧
    Frame [.zones, .channels, .levelTwo] s t ∧
    ∀ a ∈ asset, ∀ zone ∈ s.scoreEventZones, ∃ z, t.zone? zone = some z ∧ zone ∈ t.record.outstanding ∧
      ((∃ r, z.arb.pendingAt 2 = some r ∧ r.content = .asset a ∧ r.frames = some (s.toFrames c.duration) ∧
          r.credit = c.sponsor.filter s.sponsorDefined) ∨
        ∃ k, z.arb.serviceAt 2 = some k ∧ k.content = .asset a ∧ k.remaining = some (s.toFrames c.duration) ∧ k.pos = 0 ∧
          k.credit = c.sponsor.filter s.sponsorDefined))

/-- TEAM_SET, FIELD_DEFINE, FIELD_SET and RECORD_CONFIG: their refusals in order, what each changes with its clamping, and
the change handed to the twin unit (R56 to R58, R62, R67). The status of a count above 16 is the model's reading (log 6).
-/
def Obligations.RecordItemsAreSet : Prop :=
  (∀ (h : Hdr) (team : Team) (f : TeamFields) (s : State), s.admits h 0x25 = true →
    let g := s.record.game
    let old := (match team with | .home => g.home | .guest => g.guest)
    let new : TeamRec :=
      { old with
        name := f.name.getD old.name
        timeouts := (f.timeouts.map fun n => if 9 < n then 9 else n).getD old.timeouts
        fouls := (f.fouls.map fun n => if 99 < n then 99 else n).getD old.fouls }
    let taken : TeamFields :=
      { f with
        timeouts := f.timeouts.map fun n => if 9 < n then 9 else n
        fouls := f.fouls.map fun n => if 99 < n then 99 else n }
    let possession := f.possession.getD g.possession
    let game : RecordFields := (match team with
      | .home => { g with home := new, possession := possession }
      | .guest => { g with guest := new, possession := possession });
    exec (.teamSet h team f) s = .next
      (if f.name = none ∧ f.timeouts = none ∧ f.fouls = none ∧ f.possession = none then s.replied h 0x25 .malformed .none
      else if g.session = .final then s.replied h 0x25 .closed .none
      else if g.session = .inGame ∧ f.name.isSome = true then s.replied h 0x25 .locked .none
      else if (f.name.any fun n =>
          decide (12 < n.length) || n.any fun c => decide (c.toNat < 0x20) || decide (0x7E < c.toNat)) = true then
        s.replied h 0x25 .range .none
      else
        (({ s with record := { s.record with game := game } } : State).sendEvent (.teamSet team taken) g.nextSeq).replied
          h 0x25 .ok (.teamSet new possession))) ∧
  (∀ (h : Hdr) (count : Nat) (defs : List FieldDef) (s : State), s.admits h 0x26 = true →
    let g := s.record.game;
    exec (.fieldDefine h count defs) s = .next
      (if count ≠ defs.length ∨ 16 < count then s.replied h 0x26 .malformed .none
      else if g.session = .final then s.replied h 0x26 .closed .none
      else if g.session = .inGame then s.replied h 0x26 .locked .none
      else if ¬∀ d ∈ defs, (1 ≤ d.label.length ∧ d.label.length ≤ 8 ∧ ∀ c ∈ d.label, 0x20 ≤ c.toNat ∧ c.toNat ≤ 0x7E) ∧
          1 ≤ d.maximum ∧ d.maximum ≤ 999 then s.replied h 0x26 .range .none
      else
        (({ s with record := { s.record with game := { g with fields := defs.map fun d => ⟨d, 0⟩ } } } : State).sendEvent
          (.fieldDefine defs) g.nextSeq).replied h 0x26 .ok .none)) ∧
  (∀ (h : Hdr) (index value : Nat) (s : State), s.admits h 0x27 = true →
    let g := s.record.game;
    exec (.fieldSet h index value) s = .next
      (if g.session = .final then s.replied h 0x27 .closed .none
      else if 15 < index then s.replied h 0x27 .range .none
      else
        match g.fields[index]? with
        | none => s.replied h 0x27 .notFound .none
        | some f =>
          let v := min value f.defn.maximum
          (({ s with record := { s.record with game := { g with fields := g.fields.set index { f with value := v } } } } :
            State).sendEvent (.fieldSet index v) g.nextSeq).replied h 0x27 .ok (.count v))) ∧
  ∀ (h : Hdr) (c : RecordConfig) (s : State), s.admits h 0x2A = true →
    let g := s.record.game;
    exec (.recordConfig h c) s = .next
      (if g.session = .final then s.replied h 0x2A .closed .none
      else if ¬((500 ≤ c.duration ∧ c.duration ≤ 15000) ∧ (∀ a ∈ c.homeAsset, a ≤ 1023) ∧ (∀ a ∈ c.guestAsset, a ≤ 1023) ∧
          ∀ i ∈ c.sponsor, i ≤ 63) then s.replied h 0x2A .range .none
      else if (c.sponsor.any fun i => !s.rotation.sponsors.any (·.id == i)) = true then s.replied h 0x2A .notFound .none
      else
        (({ s with record := { s.record with game := { g with config := c } } } : State).sendEvent (.recordConfig c)
          g.nextSeq).replied h 0x2A .ok .none)

/-! ## Chapter 4: the twin -/

/-- A part's decision on a HELLO takes the first step that applies (R72): both manual to one role is FAULT with
BOTH_MANUAL; a manual side takes its role and the other side the opposite; a last role MASTER on exactly one side makes it
master; then preference against preference, the higher token, and FAULT with EQUAL_TOKENS. Two parts that decide on each
other's HELLO agree: one is master and the other follower, or both are in FAULT for the same reason (R72, section 4.3). A
last role FOLLOWER against NONE is decided as R76 has it (log 22). -/
def Obligations.TwinDecisionsAgree : Prop :=
  (∀ (role : TwinRole) (token : Nat) (last : LastRole) (p : Hello),
    decide72 role token last p =
      if role = .manualMaster ∧ p.role = .manualMaster ∨ role = .manualFollower ∧ p.role = .manualFollower then
        .fault .bothManual
      else if role = .manualMaster ∨ p.role = .manualFollower then .master
      else if role = .manualFollower ∨ p.role = .manualMaster then .follower
      else if last = .master ∧ p.lastRole ≠ .master then .master
      else if last ≠ .master ∧ p.lastRole = .master then .follower
      else if last = .follower ∧ p.lastRole = .none then .master
      else if last = .none ∧ p.lastRole = .follower then .follower
      else if role = .autoPreferMaster ∧ p.role = .autoPreferFollower then .master
      else if role = .autoPreferFollower ∧ p.role = .autoPreferMaster then .follower
      else if p.token < token then .master
      else if token < p.token then .follower
      else .fault .equalTokens) ∧
  ∀ a b : Hello,
    let x := decide72 a.role a.token a.lastRole b
    let y := decide72 b.role b.token b.lastRole a;
    (x = .master ↔ y = .follower) ∧ (x = .follower ↔ y = .master) ∧ ∀ r, x = .fault r ↔ y = .fault r

/-- TWIN_CONFIG (R70): RANGE above 20 ms, nothing but the compensation where role and token are unchanged, SOLO on OFF,
with nothing left to send, a HELLO at once from OFF and in SOLO and ORPHAN, a fresh resolution in the other states. A
change of twin state: the timers of the new state run and no others, one that runs already being kept with the ms it has
left; a part that becomes MASTER numbers its events afresh; TWIN_STATE is raised only where the state changes; and a part
that leaves FOLLOWER closes its mirrored window and samples the RUN line (R70, R71, R75, R76, R77, R80, R82). A token stored while OFF, a
running timer kept, a HELLO with the fields of its hand-over, discarding what waits to be sent at OFF, the parts of a STATE
kept through both, and TWIN_STATE before what an abandoned window declares, are the model's choice (log 8, log 13,
log 18). -/
def Obligations.TwinIsConfiguredAndEntersItsStates : Prop :=
  (∀ (h : Hdr) (role : TwinRole) (token comp : Nat) (s : State), s.admits h 0x30 = true →
    let u : State := { s with twin := { s.twin with role := role, token := token, compensation := comp } };
    exec (.twinConfig h role token comp) s = .next
      (if 20 < comp then s.replied h 0x30 .range .none
      else
        (if role = s.twin.role ∧ token = s.twin.token then u
        else if role = .off then (
          if s.twin.role = .off then u
          else
            let v := u.enterTwin .solo .config .none;
            { v with twin := { v.twin with out := [], outSent := 0 } })
        else if s.twin.role = .off then (u.enterTwin .solo .config .none).sendHello
        else if s.twin.state = .solo ∨ s.twin.state = .orphan then u.sendHello
        else (u.enterTwin .resolving .config .none).sendHello).replied h 0x30 .ok .none)) ∧
  (∀ (new : TwinState) (cause : TwinCause) (reason : FaultReason) (s : State),
    let w := s.twin
    let hello := decide (new = .solo ∧ w.role ≠ .off ∨ new = .resolving ∨ new = .orphan ∨ new = .fault)
    let loss := decide (new = .resolving ∨ new = .master ∨ new = .follower ∨ new = .fault)
    let entered : Twin :=
      { w with
        state := new
        reason := reason
        decidedFollower := false
        fromFollower := if new = .resolving ∧ w.state ≠ .resolving then decide (w.state = .follower ∨ w.state = .orphan)
          else w.fromFollower
        helloTimer := if hello then some (w.helloTimer.getD 250) else none
        lossTimer := if loss then some (w.lossTimer.getD 1000) else none
        heartbeatTimer := if new = .follower then some (w.heartbeatTimer.getD 250) else none
        clockTimer := if new = .master then some (w.clockTimer.getD 250) else none
        eventNo := if new = .master then 65535 else w.eventNo
        resync := decide (new = .follower) && w.resync }
    let u : State := { s with twin := entered }
    let raised := u.raise .twinState (.twinState w.state new cause w.lastRole reason);
    s.enterTwin new cause reason =
      if w.state = new then u else if w.state = .follower then raised.closeWindow.sampleLine else raised)

/-- A HELLO received is recorded as the peer's, restarts the loss timer, and is handled by the state (R71, R73, R74). What
a part receives outside FOLLOWER: with configuration OFF every record is discarded; in SOLO and ORPHAN a STATE, CLOCK,
EVENT or HEARTBEAT is answered by a HELLO, in RESOLVING (but for an awaited STATE) and FAULT it is discarded; a MASTER
takes a STATE, CLOCK or EVENT for a conflict and answers a HEARTBEAT with the resync flag by a STATE, and a FOLLOWER takes
a HEARTBEAT for a conflict (R70, R71, R73, R74, R80). A STATE in one frame is part 1 of 1, what is sent carries the fields
of its hand-over (log 8), and a last role FOLLOWER against NONE is decided as R76 has it (log 22). -/
def Obligations.TwinRecordsOutsideFollowing : Prop :=
  (∀ (hello : Hello) (s : State), s.due = [] → s.twin.role ≠ .off →
    let w := s.twin
    let u : State := { s with twin := { w with lossTimer := w.lossTimer.map fun _ => 1000, peer := some hello } }
    let d := decide72 w.role w.token w.lastRole hello
    let same := decide (w.peer.map (fun p => (p.role, p.token)) = some (hello.role, hello.token))
    let decided (s : State) : State := (match d with
      | .master => ((({ s with twin := { s.twin with lastRole := .master } } : State).enterTwin .master .resolved
          .none).sendHello).sendState
      | .follower => { s with twin := { s.twin with decidedFollower := true } }
      | .fault reason => s.enterTwin .fault .resolved reason);
    exec (.twinHelloReceived hello) s = .next
      (match w.state with
      | .resolving => decided u
      | .master => if d = .master then u.sendHello.sendState else decided (u.enterTwin .resolving .hello .none)
      | .follower =>
        if hello.state = .master ∧ same = true then u else decided ((u.enterTwin .resolving .hello .none).sendHello)
      | .fault => if same = true then u else decided ((u.enterTwin .resolving .hello .none).sendHello)
      | .solo => decided ((u.enterTwin .resolving .hello .none).sendHello)
      | .orphan => decided ((u.enterTwin .resolving .hello .none).sendHello))) ∧
  (∀ (c : Instr) (r : StateRecord) (k : ClockRecord) (e : EventRecord) (n : Nat) (b : Bool) (s : State), s.due = [] →
    let u : State := { s with twin := { s.twin with lossTimer := s.twin.lossTimer.map fun _ => 1000 } }
    let whole : State := { u with twin := { u.twin with parts := none } }
    let conflict (s : State) : State := (s.enterTwin .resolving .conflict .none).sendHello;
    (s.twin.role = .off → (∃ x, c = .twinHelloReceived x) ∨ c = .twinStateReceived 1 1 r ∨ c = .twinClockReceived k ∨
      c = .twinEventReceived e ∨ c = .twinHeartbeatReceived n b → exec c s = .next s) ∧
    (s.twin.role ≠ .off →
      ((s.twin.state = .solo ∨ s.twin.state = .orphan) → exec (.twinStateReceived 1 1 r) s = .next whole.sendHello ∧
        exec (.twinClockReceived k) s = .next u.sendHello ∧ exec (.twinEventReceived e) s = .next u.sendHello ∧
        exec (.twinHeartbeatReceived n b) s = .next u.sendHello) ∧
      ((s.twin.state = .fault ∨ s.twin.state = .resolving ∧ s.twin.decidedFollower = false) →
        exec (.twinStateReceived 1 1 r) s = .next whole) ∧
      ((s.twin.state = .fault ∨ s.twin.state = .resolving) → exec (.twinClockReceived k) s = .next u ∧
        exec (.twinEventReceived e) s = .next u ∧ exec (.twinHeartbeatReceived n b) s = .next u) ∧
      (s.twin.state = .master → exec (.twinStateReceived 1 1 r) s = .next (conflict whole) ∧
        exec (.twinClockReceived k) s = .next (conflict u) ∧ exec (.twinEventReceived e) s = .next (conflict u) ∧
        exec (.twinHeartbeatReceived n b) s = .next (if b then u.sendState else u)) ∧
      (s.twin.state = .follower → exec (.twinHeartbeatReceived n b) s = .next (conflict u))))

/-- A STATE taken by a follower, or awaited in RESOLVING: the part is FOLLOWER, and rules, clocks, session and record are
the master's, the compensation counted off while RUNNING and only as far as 1 ms short of the end; a STATE in parts is
taken with its last part, each part following the one before. What is raised: what an own stop window had pending, with
its expiry, at a first adoption; TWIN_STATE there; RUN_CHANGED of cause MIRROR where the run state changes, with the
session's start; SESSION_CHANGED of cause MIRROR; no other clock, break or score condition (R12, R69, R73, R78, R79). A
CLOCK applied by a follower: gate, V, flags, play and break values and the run state are the received ones, compensated
while RUNNING; a PERIODIC record leaves a clock at its declared limit, a play value of 0 and an idle break timer as they
are. What is raised: RUN_CHANGED of cause MIRROR where the run state changes, of cause EXPIRY with CLOCK_EXPIRED at a stop
at the limit, the session's start and a regulation crossing at a start, BREAK_EXPIRED at a BREAK_END of a running timer,
and nothing else of the clocks (R12, R31 to R33, R42, R51, R78, R79). Part numbers from 1, what a CLOCK of another cause
mirrors, and a gate mirrored though the expired clock is kept, are the model's choice (log 8, log 12, log 13, log 18). -/
def Obligations.FollowersMirrorStateAndClock : Prop :=
  ((∀ (r : StateRecord) (s : State), s.due = [] → s.twin.role ≠ .off →
    s.twin.state = .follower ∨ s.twin.state = .resolving ∧ s.twin.decidedFollower = true →
    ∃ t, exec (.twinStateReceived 1 1 r) s = .next t ∧
      let k := if r.clock.run = .running then s.twin.compensation else 0
      let down (v : Nat) : Nat := if v ≤ 1 then v else max 1 (v - k)
      let v := match r.rules.direction with
        | .down => down r.clock.v
        | .up => if clockLimit r.rules ≤ r.clock.v + 1 then r.clock.v
          else min (clockLimit r.rules - 1) (r.clock.v + k)
      let m := t.timing;
      (t.twin.state = .follower ∧ t.twin.eventNo = r.eventNo ∧ t.twin.resync = false ∧ t.twin.parts = none ∧
        (s.twin.state = .resolving → t.twin.lastRole = .follower)) ∧
      (m.rules = r.rules ∧ m.run = r.clock.run ∧ m.v = v ∧ m.gate = r.clock.gate ∧ m.window = 0 ∧ m.counted = 0 ∧
        m.regulation = r.clock.regulation ∧ m.atLimit = (r.clock.atLimit && decide (v = clockLimit r.rules)) ∧
        m.play = (if r.clock.playEnabled then down r.clock.play else r.clock.play) ∧
        m.playEnabled = r.clock.playEnabled ∧ m.brkRunning = r.clock.brkRunning ∧
        m.brkValue = (if r.clock.brkRunning then down r.clock.brkValue else r.clock.brkValue) ∧
        m.brkLength = r.clock.brkLength ∧ m.brkHorn = r.clock.brkHorn) ∧
      (let q := s.timing
        let closes := decide (s.twin.state = .resolving ∧ q.gate = .stopPending)
        let expired := closes && q.expiryPending
        let run := if expired then .stopped else q.run
        let starts := decide (r.clock.run = .running ∧ run = .stopped ∧ r.game.session = .setup);
        t.record.game = { r.game with session := if starts then .inGame else r.game.session } ∧
        (s.linksWf →
          Gains s t .twinState
            (if s.twin.state = .resolving then [.twinState .resolving .follower .stateAdopted .follower .none] else []) ∧
          Gains s t .runChanged
            ((if expired then [.runChanged .stopped .expiry (clockLimit q.rules) 0] else []) ++
              if r.clock.run = run then [] else [.runChanged r.clock.run .mirror v 0]) ∧
          Gains s t .sessionChanged
            ((if starts then [.sessionChanged .setup .inGame .start r.game.period] else []) ++
              [.sessionChanged s.record.game.session t.record.game.session .mirror r.game.period]) ∧
          Gains s t .clockExpired
            (if expired then
              [.clockExpired (if upRunOn q.rules then .ceiling else .limit) s.record.game.period q.rules.direction
                (clockLimit q.rules)]
            else []) ∧
          Gains s t .playExpired
            (if closes && q.playPending && q.playEnabled then
              [.playExpired q.playZeroBlanked (if expired then clockLimit q.rules else q.v)]
            else []) ∧
          Gains s t .breakExpired [] ∧ Gains s t .scoreChanged [] ∧ Gains s t .scoreCorrected [])) ∧
      Frame ([.game, .twin, .exposure] ++ expiryParts) s t) ∧
  ∀ (part parts : Nat) (r : StateRecord) (s : State), s.due = [] →
    let heard : Twin := { s.twin with lossTimer := s.twin.lossTimer.map fun _ => 1000 };
    ((part = 0 ∨ parts < part) → exec (.twinStateReceived part parts r) s = .next
      { s with twin := { s.twin with framingErrors := min 65535 (s.twin.framingErrors + 1) } }) ∧
    (s.twin.role ≠ .off → part = 1 → 1 < parts → exec (.twinStateReceived part parts r) s = .next
      { s with twin := { heard with parts := some (1, parts) } }) ∧
    (s.twin.role ≠ .off → 1 < part → part < parts → s.twin.parts = some (part - 1, parts) →
      exec (.twinStateReceived part parts r) s = .next { s with twin := { heard with parts := some (part, parts) } }) ∧
    (s.twin.role ≠ .off → 1 < part → part = parts → s.twin.parts = some (part - 1, parts) →
      exec (.twinStateReceived part parts r) s = exec (.twinStateReceived 1 1 r) s) ∧
    (s.twin.role ≠ .off → 1 < part → part ≤ parts → s.twin.parts ≠ some (part - 1, parts) →
      exec (.twinStateReceived part parts r) s = .next { s with twin := { heard with parts := none } })) ∧
  (∀ (k : ClockRecord) (s : State), s.due = [] → s.twin.role ≠ .off → s.twin.state = .follower →
    ∃ t, exec (.twinClockReceived k) s = .next t ∧
      let m := s.timing
      let n := t.timing
      let c := k.clock
      let x := if c.run = .running then s.twin.compensation else 0
      let down (v : Nat) : Nat := if v ≤ 1 then v else max 1 (v - x)
      let v := match m.rules.direction with
        | .down => down c.v
        | .up => if clockLimit m.rules ≤ c.v + 1 then c.v else min (clockLimit m.rules - 1) (c.v + x)
      let keep := decide (k.cause = .periodic ∧ m.run = .stopped ∧ m.v = clockLimit m.rules ∧ m.atLimit = true);
      n.gate = c.gate ∧ n.window = 0 ∧ n.counted = 0 ∧ n.playCounted = 0 ∧
      n.v = (if keep then m.v else v) ∧ n.run = (if keep then m.run else c.run) ∧
      (keep = false → n.v ≠ clockLimit m.rules → n.atLimit = false ∧ n.expiryPending = false) ∧
      (keep = false → n.v = clockLimit m.rules → n.atLimit = c.atLimit) ∧
      (if k.cause = .periodic ∧ m.play = 0 then n.play = 0 ∧ n.playEnabled = m.playEnabled
        else n.play = (if c.playEnabled then down c.play else c.play) ∧ n.playEnabled = c.playEnabled) ∧
      (k.cause = .periodic → m.brkRunning = false → n.brkRunning = false ∧ n.brkValue = m.brkValue) ∧
      (k.cause = .breakStart → c.brkRunning = true → n.brkRunning = true ∧ n.brkValue = down c.brkValue ∧
        n.brkLength = c.brkLength ∧ n.brkHorn = c.brkHorn) ∧
      ((k.cause = .breakCancel ∧ c.brkRunning = false ∨ k.cause = .breakEnd) → n.brkRunning = false) ∧
      (let starts := keep = false ∧ m.run = .stopped ∧ c.run = .running
        let stops := keep = false ∧ m.run = .running ∧ c.run = .stopped
        let atEnd := v = clockLimit m.rules ∧ c.atLimit = true
        let setup := s.record.game.session = .setup
        let period := s.record.game.period;
        t.record.game = { s.record.game with session :=
          if starts ∧ setup then .inGame else s.record.game.session } ∧
        (s.linksWf →
          Gains s t .runChanged
            (if starts then [.runChanged .running .mirror v 0]
            else if stops ∧ atEnd then [.runChanged .stopped .expiry v 0]
            else if stops then [.runChanged .stopped .mirror v 0] else []) ∧
          Gains s t .sessionChanged (if starts ∧ setup then [.sessionChanged .setup .inGame .start period] else []) ∧
          Gains s t .clockExpired
            (if starts ∧ upRunOn m.rules = true ∧ c.regulation = false ∧ m.rules.periodLength ≤ v then
              [.clockExpired .regulation period m.rules.direction v]
            else if stops ∧ atEnd then
              [.clockExpired (if upRunOn m.rules then .ceiling else .limit) period m.rules.direction v]
            else []) ∧
          Gains s t .breakExpired
            (if k.cause = .breakEnd ∧ m.brkRunning = true then [.breakExpired (m.brkLength / 1000) m.brkHorn] else []) ∧
          Gains s t .playExpired [])) ∧
      t.twin.state = .follower ∧
      Frame ([.game, .twin, .exposure] ++ expiryParts) s t)

/-- A follower applies the EVENT it expects as the master made the change, with the carried seq, and expects the next; any
other number is discarded with a HEARTBEAT that asks for a STATE, and while that is asked every EVENT is discarded. A
mirrored score raises SCORE_CHANGED or SCORE_CORRECTED, and a mirrored GAME_OPEN, GAME_FINAL or NEXT_PERIOD raises
SESSION_CHANGED with cause MIRROR. A mirrored SCORE_ADD of a positive delta requests the follower's own score event; a
mirrored GAME_OPEN clears teams, fields, log and exposure counters and keeps names and configuration, a mirrored
NEXT_PERIOD clears fouls and per-period fields; both reset the clocks and release level 1, GAME_OPEN level 2 as well (R12,
R36, R54, R55, R59 to R61, R63, R67, R80, R187). That an EVENT carries the applied delta, that a mirrored log entry holds
the follower's own V, and that a SCORE_REVISE of a seq the follower's log does not hold changes nothing but the next seq,
are the model's choice (log 13), and so are GAME_OPEN's two events of ends (log 20). -/
def Obligations.EventsAreAppliedInOrder : Prop :=
  ∀ (e : EventRecord) (s : State), s.due = [] → s.twin.role ≠ .off → s.twin.state = .follower →
    let w : Twin := { s.twin with lossTimer := s.twin.lossTimer.map fun _ => 1000 }
    let g := s.record.game
    let logged (log : List LogEntry) (entry : LogEntry) : List LogEntry :=
      (if 32 ≤ log.length then log.tail else log) ++ [entry]
    let clocksReset (t : State) : Prop :=
      t.timing =
        { s.timing with
          v := (match s.timing.rules.direction with | .down => s.timing.rules.periodLength | .up => 0)
          atLimit := false, expiryPending := false, regulation := false
          play := s.timing.rules.playPrimary * 1000, phase := .idle, outstanding := [] } ∧
      ∀ zone ∈ s.timing.outstanding, t.standsAt zone 1 = none;
    (s.twin.resync = true → exec (.twinEventReceived e) s = .next { s with twin := w }) ∧
    (s.twin.resync = false → e.number ≠ (s.twin.eventNo + 1) % 65536 →
      exec (.twinEventReceived e) s = .next
        { s with twin := { w with resync := true, out := w.out ++ [.heartbeat w.eventNo true] } }) ∧
    (s.twin.resync = false → e.number = (s.twin.eventNo + 1) % 65536 →
      ∃ t, exec (.twinEventReceived e) s = .next t ∧ t.twin = { w with eventNo := e.number } ∧
        Frame ([.game, .twin, .exposure] ++ expiryParts) s t ∧
        match e.change with
        | .scoreAdd team points =>
          let old := teamOf g team
          let d := min points (999 - old.score)
          let asked := if 0 < d then s.requestScoreEvent team else s;
          t.record.game =
            { setTeam team { old with score := old.score + d } g with
              log := logged g.log ⟨e.logSeq, .add false, team, d, old.score + d, g.period, s.timing.v⟩
              nextSeq := nextNumber e.logSeq } ∧
          t.canvas = asked.canvas ∧ t.replay = asked.replay ∧ t.record.outstanding = asked.record.outstanding ∧
          t.timing = s.timing ∧ t.exposure = s.exposure ∧
          (s.linksWf → Gains s t .scoreChanged [.scoreChanged e.logSeq team d (old.score + d) g.period] ∧
            Gains s t .scoreCorrected [] ∧ Gains s t .sessionChanged [])
        | .scoreRevise seq =>
          (g.log.find? (·.seq == seq) = none → t = { s with
            twin := t.twin, record := { s.record with game := { g with nextSeq := nextNumber e.logSeq } } }) ∧
          ∀ x ∈ g.log.find? (·.seq == seq),
            let d := min (teamOf g x.team).score x.delta.toNat;
            t.record.game =
              { setTeam x.team { teamOf g x.team with score := (teamOf g x.team).score - d } g with
                log := logged (g.log.map fun y => if y.seq = seq then { y with kind := .add true } else y)
                  ⟨e.logSeq, .revise seq, x.team, -(d : Int), (teamOf g x.team).score - d, g.period, s.timing.v⟩
                nextSeq := nextNumber e.logSeq } ∧
            t.canvas = s.canvas ∧ t.timing = s.timing ∧ t.exposure = s.exposure ∧
            (s.linksWf → Gains s t .scoreCorrected [.scoreCorrected e.logSeq seq x.team (-(d : Int))
                ((teamOf g x.team).score - d)] ∧
              Gains s t .scoreChanged [] ∧ Gains s t .sessionChanged [])
        | .gameOpen =>
          t.record.game =
            { g with
              session := .setup, period := 1
              home := ⟨g.home.name, 0, 0, 0⟩, guest := ⟨g.guest.name, 0, 0, 0⟩, possession := .none
              fields := g.fields.map fun f => { f with value := 0 }
              log := [], nextSeq := e.logSeq } ∧
          clocksReset t ∧ (∀ zone ∈ s.record.outstanding, t.standsAt zone 2 = none) ∧
          t.exposure.mask = s.exposure.mask ∧ t.exposure.ids = (s.exposure.ids.map fun x =>
            { x with
              delivered := 0, visibleFrames := 0, appearances := 0, shortAppearances := 0, featureFrames := 0
              taggedFrames := 0, p50 := x.quota.any fun q => q * 50 / 100 == 0
              p75 := x.quota.any fun q => q * 75 / 100 == 0, p100 := false, fulfilled := false }) ∧
          (s.linksWf → Gains s t .sessionChanged [.sessionChanged g.session .setup .mirror 1])
        | .gameFinal => t.record.game = { g with session := .final, nextSeq := e.logSeq } ∧ t.timing = s.timing ∧
          t.canvas = s.canvas ∧ t.exposure = s.exposure ∧
          (s.linksWf → Gains s t .sessionChanged [.sessionChanged g.session .final .mirror g.period])
        | .nextPeriod =>
          t.record.game =
            { g with
              period := g.period + 1
              home := { g.home with fouls := 0 }, guest := { g.guest with fouls := 0 }
              fields := g.fields.map fun f => if f.defn.perPeriod then { f with value := 0 } else f
              nextSeq := e.logSeq } ∧
          clocksReset t ∧ t.exposure = s.exposure ∧
          (s.linksWf → Gains s t .sessionChanged [.sessionChanged g.session g.session .mirror (g.period + 1)])
        | .teamSet team f => t = { s with
            twin := t.twin
            record := { s.record with game :=
              { setTeam team (applyFields (clampFields f) (teamOf g team)) g with
                possession := f.possession.getD g.possession, nextSeq := e.logSeq } } }
        | .fieldDefine defs => t = { s with
            twin := t.twin
            record := { s.record with game := { g with fields := defs.map fun d => ⟨d, 0⟩, nextSeq := e.logSeq } } }
        | .fieldSet index value => t = { s with
            twin := t.twin
            record := { s.record with game :=
              { g with
                fields := g.fields.modify index fun f => { f with value := min value f.defn.maximum }
                nextSeq := e.logSeq } } }
        | .recordConfig config => t = { s with
            twin := t.twin
            record := { s.record with game := { g with config := config, nextSeq := e.logSeq } } })

/-- The twin timers at their ends: HELLO and HEARTBEAT are sent every 250 ms, a MASTER sends a PERIODIC CLOCK, and a loss
leads to ORPHAN from FOLLOWER and from a RESOLVING entered from there, else to SOLO; every discarded frame is counted up
to 65,535, and so is a frame that the silence limit finds incomplete, but no run of characters without SYNC (R69, R71,
R75, R77). What is sent: each record is one frame with TAG 0 and the KIND of its record, but a STATE whose fields exceed
1,024 bytes is as many frames as its parts take, each with its number and their count (R69; one byte each, log 8). That a
record carries the fields of its hand-over, and a CLOCK is timed from it, is the model's choice (log 8), and so is the due
list (log 2). -/
def Obligations.TwinTimersExpire : Prop :=
  (∀ (rest : List DueEvent) (s : State),
    let u : State := { s with due := rest };
    (s.due = .helloTimer :: rest → s.twin.helloTimer = some 0 → exec .helloTimerExpiry s = .next
      (({ u with twin := { u.twin with helloTimer := some 250 } } : State).sendHello)) ∧
    (s.due = .heartbeatTimer :: rest → s.twin.heartbeatTimer = some 0 → exec .heartbeatTimerExpiry s = .next
      { u with twin :=
        { u.twin with heartbeatTimer := some 250, out := u.twin.out ++ [.heartbeat u.twin.eventNo u.twin.resync] } }) ∧
    (s.due = .clockTimer :: rest → s.twin.clockTimer = some 0 → s.twin.state = .master →
      exec .clockTimerExpiry s = .next
        { u with twin := { u.twin with out := u.twin.out ++ [.clock ⟨.periodic, s.clockFields⟩], clockTimer := some 250 } }) ∧
    (s.due = .lossTimer :: rest → s.twin.lossTimer = some 0 → exec .lossTimerExpiry s = .next
      (u.enterTwin (if s.twin.state = .follower ∨ s.twin.state = .resolving ∧ s.twin.fromFollower = true then .orphan
        else .solo) .loss .none))) ∧
  (∀ (why : TwinDiscard) (s : State), s.due = [] → exec (.twinFrameDiscarded why) s = .next
    { s with twin := { s.twin with framingErrors := min 65535 (s.twin.framingErrors + 1) } }) ∧
  (∀ (chars : List LineChar) (s : State), s.due = [] → s.twin.rx = .hunt →
    (∀ c ∈ chars, c.stopBit = true → c.byte ≠ 0xC3#8) → exec (.twinReceiverSilenceExpiry chars) s = .next s) ∧
  (∀ (tag kind n : Nat) (body : List Byte) (s : State), s.due = [] → s.twin.rx = .hunt → body.length ≤ 1024 →
    0 < n → n < body.length + 7 →
    exec (.twinReceiverSilenceExpiry (onLine ((frameBytes tag kind body).take n))) s = .next
      { s with twin := { s.twin with framingErrors := min 65535 (s.twin.framingErrors + 1) } }) ∧
  (∀ s : State, s.due = [] → s.twin.rx ≠ .hunt → exec (.twinReceiverSilenceExpiry []) s = .next
    { s with twin := { s.twin with rx := .hunt, framingErrors := min 65535 (s.twin.framingErrors + 1) } }) ∧
  ∀ r : TwinRecord,
    let fields := Config.twinBody r
    let kind := match r with
      | .hello _ => 0x01
      | .state _ => 0x02
      | .clock _ => 0x03
      | .event _ => 0x04
      | .heartbeat _ _ => 0x05;
    r.frames = r.bodies.map (frameBytes 0 kind) ∧
    ((kind ≠ 0x02 ∨ fields.length ≤ 1024) → r.bodies = [fields]) ∧
    (kind = 0x02 → 1024 < fields.length →
      r.bodies.length = (fields.length + 1021) / 1022 ∧ r.bodies.flatMap (·.drop 2) = fields ∧
      ∀ i (b : List Byte), r.bodies[i]? = some b → b.length ≤ 1024 ∧
        b.take 2 = [BitVec.ofNat 8 (i + 1), BitVec.ofNat 8 r.bodies.length])

/-! ## Chapter 5: canvas, layout and inputs -/

/-- A frame event that no awaiting record and no replay on air disturbs: the frame is numbered, each zone of the layout
has its entry in the visibility record, in its order, from its highest-priority level in service that is not yielded, or
its base, with the picture, the rendered flag and the slate reason of that content's rendering after the holds have
counted; an asset newly missing is reported once, with the lowest zone that shows it; every takeover granted for this
frame or before counts it; holds count; every program records its shown appearance, and an active one counts it; the frame
is credited and the strip moves, by the width that an applied layout hands on where there is one (R196); and what has run
out is due (R86, R87, R91, R92, R95, R99, R103, R113, R169, R170; the events due and their order are the model's, log 2,
log 9, and so is the order of several missing assets, log 21). What a zone's base is rendered as, and why it is rendered
as slate; and what a takeover is rendered as: an asset as an asset base, a channel the frame of its head's clip at its
position, a card its message's text (R91, R92, R95, R97, R99, R157, R197). -/
def Obligations.FrameEventComposesAndCounts : Prop :=
  (∀ s : State, s.due = [] → s.zonesWf → s.tablesWf → s.canvas.awaitingConfig = none → s.canvas.awaitingLayout = none →
    (∀ ch, (s.chan ch).state = .idle ∨ (s.chan ch).state = .cued) →
    exec .outputFrameEvent s = .next (s.frameAfter none) ∧ ∀ kept : Option Nat,
      let t := s.frameAfter kept
      let f := s.canvas.frame + 1
      let top (z : Zone) : Option InService :=
        z.arb.service.find? fun k => !z.arb.yielded.contains k.level && decide (k.grantFrame ≤ f)
      let counted := s.canvas.inputs.map fun i => if i.loss = .holding then { i with holdFrames := i.holdFrames - 1 } else i
      let b : State := { s with canvas := { s.canvas with frame := f, inputs := counted } }
      let r (z : Zone) : Rendering := match top z with
        | some k => b.renderTakeover k
        | none => b.renderBase z
      let missing := s.canvas.zones.filterMap fun z => (r z).missing.map fun id => (id, z.spec.id)
      let fresh := missing.foldl (fun (l : List (Nat × Nat)) m =>
        if l.any (·.1 == m.1) || s.canvas.missingReported.contains m.1 then l else l ++ [m]) []
      let shown : State :=
        { s with
          canvas := { s.canvas with visibility := t.canvas.visibility }
          rotation := { s.rotation with programs := s.rotation.programs.map fun g => { g with shown := g.onAir } } }
      let aired (p : Nat) (g : Program) (a : Appearance) : Appearance :=
        let seen := t.canvas.visibility.any (·.program == some p);
        { a with
          elapsed := a.elapsed + 1
          visible := if seen then a.visible + 1 else a.visible
          remaining := if a.entry = none ∨ g.cover = .run ∨ seen = true then a.remaining - 1 else a.remaining
          pos := if seen then a.pos + 1 else a.pos };
      t.canvas.frame = f ∧ t.canvas.size = s.canvas.size ∧
      (t.canvas.visibility.map fun e => (e.zone, e.top, e.content, e.credit, e.weight)) =
        (s.canvas.zones.map fun z => match top z with
          | some k => (z.spec.id, .level k.level, .takeover k.content, k.credit, z.spec.weight)
          | none => (z.spec.id, .base, .base z.spec.base, none, z.spec.weight)) ∧
      t.canvas.frameOut.map (·.zone) = s.zoneIds ∧ t.canvas.surround = .slate ∧
      (∀ x y, (∀ z ∈ s.canvas.zones, ¬(z.spec.left ≤ x ∧ x < z.spec.left + z.spec.width ∧ z.spec.top ≤ y ∧
        y < z.spec.top + z.spec.height)) → t.pictureAt x y = .slate) ∧
      (∀ e ∈ t.canvas.visibility, e.rendered = decide (e.reason = .none)) ∧
      (t.canvas.visibility.map fun e => (e.rendered, e.reason, e.program, e.missing)) =
        (s.canvas.zones.map fun z => ((r z).slate.isNone, (r z).slate.getD .none, (r z).program, (r z).missing)) ∧
      t.canvas.frameOut = (s.canvas.zones.map fun z => ⟨z.spec.id, (r z).picture⟩) ∧
      t.canvas.missingReported = s.canvas.missingReported ++ fresh.map (·.1) ∧
      (s.linksWf → Gains s t .assetState (fresh.map fun m => .assetState m.1 .missing (some m.2)
        (((s.canvas.assets.find? (·.id == m.1)).map (·.size)).getD 0))) ∧
      t.canvas.zones = (s.canvas.zones.map fun z =>
        { z with
          basePos := if top z = none then z.basePos + 1 else z.basePos
          arb := { z.arb with service := z.arb.service.map fun k =>
            if k.grantFrame ≤ f then
              { k with
                served := min (2 ^ 32 - 1) (k.served + 1)
                remaining := k.remaining.map (· - 1)
                pos := if (top z).map (·.level) = some k.level then k.pos + 1 else k.pos }
            else k } }) ∧
      t.canvas.inputs = counted ∧
      (∀ n, n < 4 → (DueEvent.holdEnd n ∈ t.due ↔ (t.input n).loss = .holding ∧ (t.input n).holdFrames = 0)) ∧
      (∀ zone, DueEvent.takeoverExpiry zone ∈ t.due ↔
        ∃ z ∈ t.canvas.zones, z.spec.id = zone ∧ ∃ k ∈ z.arb.service, k.remaining = some 0) ∧
      (∀ p, p < 4 → (DueEvent.dwellEnd p ∈ t.due ↔ t.active p = true ∧ ∃ a ∈ (t.program p).onAir, a.remaining = 0)) ∧
      t.rotation = { s.rotation with programs := [0, 1, 2, 3].map fun p =>
        let g := s.program p;
        { g with shown := g.onAir, onAir := if s.carrying p = [] then g.onAir else g.onAir.map (aired p g) } } ∧
      t.exposure = shown.creditFrame.exposure ∧ t.crawl = (shown.stepCrawl kept).crawl ∧
      (s.linksWf → ∀ link,
        (t.link link).entry .quotaMilestone = (shown.creditFrame.link link).entry .quotaMilestone ∧
        (t.link link).entry .messageDone = ((shown.stepCrawl kept).link link).entry .messageDone) ∧
      t.replay = s.replay ∧
      Frame [.canvas, .zones, .inputs, .assets, .programs, .exposure, .crawl] s { t with due := [] }) ∧
  ((∀ (z : Zone) (s : State),
    let r := s.renderBase z;
    (∀ n, z.spec.base = .camera n →
      ((s.input n).enabled = false → r.slate = some .inputDisabled) ∧
      ((s.input n).enabled = true → (s.input n).loss = .slated → r.slate = some .signalLost) ∧
      ((s.input n).enabled = true → (s.input n).loss = .live → ∀ f ∈ (s.input n).latest,
        r.slate = none ∧ r.picture = .live n f) ∧
      ((s.input n).enabled = true → (s.input n).loss = .holding → 0 < (s.input n).holdFrames → ∀ f ∈ (s.input n).held,
        r.slate = none ∧ r.picture = .heldFrame n f)) ∧
    (z.spec.base = .clock → r.slate = none ∧ r.picture = .clockText s.timing.clockText) ∧
    (z.spec.base = .play → r.slate = none ∧ r.picture = .playText s.timing.playText) ∧
    (z.spec.base = .brk → r.slate = none ∧ r.picture = .breakText s.timing.breakText) ∧
    (z.spec.base = .score → r.slate = none ∧ r.picture =
      .score s.record.game.home s.record.game.guest s.record.game.possession s.record.game.fields) ∧
    (z.spec.base = .slate → r.slate = some .slateBase ∧ r.picture = .slate) ∧
    (∀ id, z.spec.base = .asset id →
      (∀ a ∈ s.asset? id, a.ready = true → r.slate = none ∧ r.picture = .asset id (match a.kind with
        | .still => 0
        | .run => min z.basePos (a.frames - 1)
        | .loop => z.basePos % a.frames)) ∧
      ((∀ a ∈ s.asset? id, a.ready = false) → r.slate = some .missingAsset ∧ r.missing = some id)) ∧
    (∀ p, z.spec.base = .rotation p →
      ((∀ a ∈ (s.program p).onAir, a.entry = none) → r.slate = some .noEntry ∧ r.program = some p) ∧
      ∀ a ∈ (s.program p).onAir, ∀ e ∈ a.entry, r.program = some p ∧ r.slate = (s.renderAsset e.asset a.pos).slate ∧
        r.picture = (s.renderAsset e.asset a.pos).picture ∧ r.missing = (s.renderAsset e.asset a.pos).missing) ∧
    (z.spec.base = .crawl →
      ((s.crawl.strip ≠ [] ∨ s.crawl.order ≠ []) → r.slate = none) ∧
      (s.crawl.strip = [] → s.crawl.order = [] → s.crawl.config.idle = none → r.slate = some .slateBase) ∧
      (s.crawl.strip = [] → s.crawl.order = [] → ∀ p ∈ s.crawl.config.idle, r = s.renderProgram p))) ∧
  (∀ (id pos : Nat) (s : State),
    let r := s.renderAsset id pos;
    (∀ a ∈ s.asset? id, a.ready = true → r = ⟨.asset id (match a.kind with
      | .still => 0
      | .run => min pos (a.frames - 1)
      | .loop => pos % a.frames), none, none, none⟩) ∧
    ((∀ a ∈ s.asset? id, a.ready = false) → r = ⟨.slate, some .missingAsset, none, some id⟩)) ∧
  ∀ (k : InService) (s : State),
    let r := s.renderTakeover k;
    match k.content with
    | .asset id => r = s.renderAsset id k.pos
    | .channel ch => ∀ e rest clip, (s.chan ch).cues = e :: rest → s.clip? e.fields.clip = some clip →
      r = ⟨.clipFrame clip.input (s.chan ch).pos, none, none, none⟩
    | .card m => r = ⟨.card (((s.crawl.messages.find? (·.id == m)).map (·.text)).getD []), none, none, none⟩)

/-- CANVAS_CONFIG and LAYOUT: their refusals in order, and what they leave awaiting the next frame event: the list of a
LAYOUT in ascending id, weights clamped to 100 and a CLOCK zone's policy CUT at every level (R85, R89). What awaits is
applied at the frame event's boundary, before the frame is composed: the new size, and the new layout with its zones'
takeover state kept only under the same id and role. The takeovers of a zone that is removed or takes another role end
ZONE_REMOVED, pending or in service; a kept zone's whole arbitration state stands, with its policy and attributes
replaced, and its ASSET position if its base is the same; any other zone starts empty; a CRAWL zone that is not kept
clears the strip, one that is kept keeps its old width for the entries of the event, a program that loses its last
carrying zone ends its appearance and one that gains its first selects; then every zone is evaluated and the owners act:
in COUNTDOWN a zone that gains the attribute is requested at level 1, what loses it is released and SPENT with the last;
level 2 and a channel on air leave a zone that loses theirs, the entry ZONE_GONE (R46, R64, R85, R86, R90, R92, R123,
R160, R166, R170, R196). The status of a list above 8 is the model's reading (log 6), and so are the order of the work
inside the event, of the ends and readers, an id with another role as an added zone, and several programs in ascending
number (log 9, log 19, log 20, log 21). -/
def Obligations.CanvasAndLayoutAwaitTheFrame : Prop :=
  ((∀ (h : Hdr) (rate : Rate) (width height : Nat) (s : State), s.admits h 0x38 = true →
    let on (c : Chan) : Bool := c.state == .requested || c.state == .playing || c.state == .covered;
    exec (.canvasConfig h rate width height) s = .next
      (if s.record.game.session = .final then s.replied h 0x38 .closed .none
      else if s.record.game.session = .inGame then s.replied h 0x38 .locked .none
      else if s.canvas.awaitingConfig ≠ none ∨ s.canvas.awaitingLayout ≠ none ∨ on s.replay.chanA = true ∨
          on s.replay.chanB = true then s.replied h 0x38 .busy .none
      else if rate ∉ [⟨50, 1⟩, ⟨60000, 1001⟩, (⟨60, 1⟩ : Rate)] ∨ width < 320 ∨ 7680 < width ∨ height < 64 ∨ 2160 < height ∨
          (s.canvas.zones.any fun z => !rectInside width height z.spec) = true then s.replied h 0x38 .range .none
      else ({ s with canvas := { s.canvas with awaitingConfig := some ⟨rate, width, height⟩ } } : State).replied h 0x38 .ok
        .none)) ∧
  ∀ (h : Hdr) (count : Nat) (zones : List ZoneSpec) (s : State), s.admits h 0x39 = true →
    let outside (z : ZoneSpec) : Bool := decide (z.width = 0 ∨ z.height = 0 ∨ s.canvas.size.width < z.left + z.width ∨
      s.canvas.size.height < z.top + z.height);
    if count ≠ zones.length then exec (.layout h count zones) s = .next (s.replied h 0x39 .malformed .none)
    else if 8 < count then exec (.layout h count zones) s = .next (s.replied h 0x39 .range .none)
    else if ¬(zones.map (·.id)).Nodup then exec (.layout h count zones) s = .next (s.replied h 0x39 .duplicate .none)
    else if ¬(∀ z ∈ zones, z.id ≤ 7 ∧ baseOk z.base = true) ∨ zones.any outside = true ∨ anyOverlap zones = true ∨
        1 < (zones.filter (·.base == .crawl)).length ∨
        (zones.any fun z => z.role == .clock && z.base != .clock) = true ∨
        (zones.any fun z => z.attrs.replayTarget && z.role != .main && z.role != .general) = true then
      exec (.layout h count zones) s = .next (s.replied h 0x39 .range .none)
    else if s.canvas.awaitingConfig ≠ none ∨ s.canvas.awaitingLayout ≠ none then
      exec (.layout h count zones) s = .next (s.replied h 0x39 .busy .none)
    else ∃ list, exec (.layout h count zones) s = .next
        (({ s with canvas := { s.canvas with awaitingLayout := some list } } : State).replied h 0x39 .ok .none) ∧
      (list.map (·.id)).Pairwise (· < ·) ∧
      list.Perm (zones.map fun z =>
        { z with
          weight := min z.weight 100
          policy := if z.role = .clock then ⟨.cut, .cut, .cut, .cut, .cut, .cut, .cut⟩ else z.policy })) ∧
  ((∀ s : State, s.due = [] → s.zonesWf →
    ∃ t, exec .outputFrameEvent s = .next t ∧ t.canvas.awaitingConfig = none ∧ t.canvas.awaitingLayout = none ∧
      t.canvas.size = s.canvas.awaitingConfig.getD s.canvas.size ∧
      t.canvas.zones.map (·.spec) = s.canvas.awaitingLayout.getD (s.canvas.zones.map (·.spec)) ∧
      t.canvas.visibility.map (·.zone) = t.zoneIds ∧
      (∀ z ∈ t.canvas.zones, ∀ y ∈ s.canvas.zones, y.spec.id = z.spec.id → y.spec.role = z.spec.role →
        z.arb.mask = y.arb.mask) ∧
      (∀ z ∈ t.canvas.zones, (∀ y ∈ s.canvas.zones, y.spec.id = z.spec.id → y.spec.role ≠ z.spec.role) →
        z.arb.mask = [] ∧ z.arb.yielded = []) ∧
      Frame ([.canvas, .inputs, .assets, .programs, .exposure] ++ endParts) s { t with due := [] }) ∧
  (∀ (specs : List ZoneSpec) (s : State), s.due = [] → s.zonesWf → s.canvas.awaitingLayout = some specs →
    let old := s.canvas.zones
    let size := s.canvas.awaitingConfig.getD s.canvas.size
    let u : State := { s with canvas := { s.canvas with size := size, awaitingConfig := none, awaitingLayout := none } }
    let gone := old.filter fun z => !(specs.any fun n => n.id == z.spec.id && n.role == z.spec.role)
    let items := gone.flatMap fun z => ((List.range 8).filter fun l => (z.arb.standing l).isSome).map fun l => (z.spec.id, l)
    let placed (n : ZoneSpec) : Zone := match old.find? fun z => z.spec.id == n.id && z.spec.role == n.role with
      | some z => { spec := n, arb := z.arb, basePos := if z.spec.base = n.base then z.basePos else 0 }
      | none => { spec := n, arb := ⟨[], [], [], [], 1⟩, basePos := 0 }
    let v := (u.endEach .zoneRemoved items).placeZones specs;
    let e := u.endEach .zoneRemoved items
    let keeps := old.any fun z => z.spec.base == .crawl &&
      specs.any fun n => n.id == z.spec.id && n.role == z.spec.role && n.base == .crawl
    let clears := (e.canvas.zones.any (·.spec.base == .crawl)) && !keeps
    let kept := if keeps then (old.find? (·.spec.base == .crawl)).map (·.spec.width) else none
    let x := (v.evaluateAll (specs.map (·.id))).layoutOwners old specs
    let crawl : Crawl :=
      { e.crawl with
        messages := e.crawl.messages.map fun m =>
          if e.crawl.strip.any (·.id == m.id) then { m with state := .queued } else m
        order := e.crawl.strip.map (·.id) ++ e.crawl.order
        strip := [] };
    v = ({ e with canvas := { e.canvas with zones := specs.map placed }, crawl := if clears then crawl else e.crawl } :
      State).activityChanged ([0, 1, 2, 3].filter fun p => decide (e.carrying p ≠ [])) ∧
    v.canvas.zones = specs.map placed ∧ Frame [.zones, .programs, .exposure, .crawl] (u.endEach .zoneRemoved items) v ∧
      exec .outputFrameEvent s = .next (x.frameAfter kept) ∧ exec .outputFrameEvent x = .next (x.frameAfter none) ∧
      { x.frameAfter kept with crawl := (x.frameAfter none).crawl } = x.frameAfter none) ∧
  (∀ (before : List Nat) (s : State), s.activityChanged before = [0, 1, 2, 3].foldl (fun u p =>
    let g := u.program p
    let entries (a : Appearance) : List RotEntry := match a.entry with
      | some e => if g.mode = .rotate then g.entries.filter (·.id != e.id) ++ g.entries.filter (·.id == e.id) else g.entries
      | none => g.entries
    let counted (a : Appearance) : Exposure := match a.entry.bind (·.sponsor) with
      | some i =>
        if 2 * a.visible < a.elapsed ∧ u.exposure.mask.shortAppearances = true then
          let x : Exposed := { u.exposed i with shortAppearances := min (2 ^ 48 - 1) ((u.exposed i).shortAppearances + 1) };
          { u.exposure with ids := u.exposure.ids.set i x }
        else u.exposure
      | none => u.exposure;
    if before.contains p = true ∧ u.carrying p = [] then
      match g.onAir with
      | some a =>
        { u with
          exposure := counted a
          rotation := { u.rotation with programs := u.rotation.programs.set p { g with onAir := none, entries := entries a } } }
      | none => u
    else if before.contains p = false ∧ u.carrying p ≠ [] then u.select p
    else u) s) ∧
  ∀ (old : List Zone) (specs : List ZoneSpec) (s : State), s.zonesWf → s.canvas.zones.map (·.spec) = specs →
    (∀ zone ∈ s.timing.outstanding, (s.standsAt zone 1).isSome = true) →
    (∀ zone ∈ s.record.outstanding, (s.standsAt zone 2).isSome = true) →
    let had (attr : ZoneAttrs → Bool) (n : ZoneSpec) : Bool :=
      old.any fun z => z.spec.id == n.id && z.spec.role == n.role && attr z.spec.attrs
    let lose (attr : ZoneAttrs → Bool) : List Nat := (specs.filter fun n => !attr n.attrs && had attr n).map (·.id)
    let won := (specs.filter fun n => n.attrs.countdown && !had (·.countdown) n).map (·.id)
    let asked := if s.timing.phase = .countdown ∧ s.timing.rules.countdownAsset ≠ none then
        won.filter fun zone => (s.standsAt zone 1).isNone else []
    let gone := (lose (·.countdown)).filter fun zone => s.timing.outstanding.contains zone
    let out := (s.timing.outstanding ++ asked).filter fun zone => !gone.contains zone
    let gone2 := (lose (·.scoreEvent)).filter fun zone => s.record.outstanding.contains zone
    let hit (ch : Channel) : Bool := decide ((s.chan ch).state = .requested ∨ (s.chan ch).state = .playing ∨
      (s.chan ch).state = .covered) && (s.chan ch).cues.head?.any fun e => (lose (·.replayTarget)).contains e.fields.zone
    let t := s.layoutOwners old specs;
    t.timing =
      { s.timing with
        outstanding := out
        phase := if gone ≠ [] ∧ out = [] ∧ (s.timing.phase = .countdown ∨ s.timing.phase = .periodEnd) then .spent
          else s.timing.phase } ∧
    (∀ zone ∈ asked, ∀ a ∈ s.timing.rules.countdownAsset, ∃ z, t.zone? zone = some z ∧
      ((∃ k, z.arb.serviceAt 1 = some k ∧ k.content = .asset a ∧ k.remaining = none ∧ k.credit = none) ∨
        ∃ r, z.arb.pendingAt 1 = some r ∧ r.content = .asset a ∧ r.frames = none ∧ r.credit = none)) ∧
    t.record = { s.record with outstanding := s.record.outstanding.filter fun zone => !gone2.contains zone } ∧
    (∀ n ∈ specs,
      (t.standsAt n.id 1).isSome = (((s.standsAt n.id 1).isSome || asked.contains n.id) && !gone.contains n.id) ∧
      (t.standsAt n.id 2).isSome = ((s.standsAt n.id 2).isSome && !gone2.contains n.id)) ∧
    (∀ ch, hit ch = false → t.chan ch = s.chan ch ∨
      (s.chan ch).state = .requested ∧ t.chan ch = { s.chan ch with state := .covered }) ∧
    (∀ ch e rest, (s.chan ch).cues = e :: rest → hit ch = true → (t.chan ch).cues = rest ∧
      (t.chan ch).state = (if rest = [] then .idle else .cued) ∧ t.standsAt e.fields.zone (channelLevel ch) = none) ∧
    (if hit .a = true ∨ hit .b = true then
      let u := if hit .a then s.detached .a else s;
      ReadersFollow (if hit .b then u.detached .b else u) t
    else ∀ name, t.reader name = s.reader name) ∧
    (s.linksWf → Gains s t .nearOvertake
      (((if hit .a then s.dropWarnings .a 1 else []) ++
        if hit .b then
          if hit .a then s.warningOf .channelB none (t.reads .channelB) else s.dropWarnings .b 1
        else []).map (·.2))) ∧
    (s.linksWf → Gains s t .channelState ([Channel.a, .b].flatMap fun ch =>
      match (s.chan ch).cues.head? with
      | some e =>
        if hit ch then
          [.channelState ch e.number e.fields.clip .zoneGone (s.chan ch).pos (s.chan ch).passes (s.chan ch).shown
            (t.chan ch).state]
        else []
      | none => [])) ∧
    Frame endParts s t)

/-- The asset store: ASSET_DEFINE takes the size from free space, ASSET_CHUNK, MALFORMED unless its body is 8 bytes and
the data count long, stores the bytes at the next expected offset and makes the asset READY once it is whole, ASSET_DROP
makes the id ABSENT at once (R96 to R99). The status of a data count outside 1..1,016 is the model's reading (log 6). -/
def Obligations.AssetsAreDefinedLoadedAndDropped : Prop :=
  (∀ (h : Hdr) (id : Nat) (kind : AssetKind) (frames size : Nat) (s : State), s.admits h 0x3A = true →
    let free := 268435456 - (s.canvas.assets.map (·.size)).sum
    let defined := s.canvas.assets.any (·.id == id)
    let canvas : Canvas := { s.canvas with
      assets := s.canvas.assets ++ [⟨id, kind, frames, size, [], false⟩]
      missingReported := s.canvas.missingReported.filter (· != id) };
    exec (.assetDefine h id kind frames size) s = .next
      (if 1023 < id ∨ size = 0 ∨ 268435456 < size ∨ (kind = .still ∧ frames ≠ 1) ∨
          (kind ≠ .still ∧ (frames < 2 ∨ 65535 < frames)) then s.replied h 0x3A .range .none
      else if defined = true then s.replied h 0x3A .duplicate .none
      else if free < size then s.replied h 0x3A .noSpace .none
      else ({ s with canvas := canvas } : State).replied h 0x3A .ok (.count (free - size)))) ∧
  (∀ (h : Hdr) (id offset count : Nat) (data : List Byte) (s : State), s.admits h 0x3B = true →
    exec (.assetChunk h id offset count data) s = .next
      (if (s.link h.link).inbound.head?.any (fun r => r.body.length != 8 + count) = true ∨ count ≠ data.length ∨ count = 0 ∨
          1016 < count then s.replied h 0x3B .malformed .none
      else if 1023 < id then s.replied h 0x3B .range .none
      else
        match s.canvas.assets.find? (·.id == id) with
        | none => s.replied h 0x3B .notFound .none
        | some a =>
          let loaded := a.data.length + count
          let stored : List Asset := s.canvas.assets.map fun b =>
            if b.id = id then { b with data := b.data ++ data, ready := b.data.length + data.length == b.size } else b
          if a.ready = true ∨ offset ≠ a.data.length ∨ a.size < offset + count then s.replied h 0x3B .range .none
          else if loaded = a.size then
            (({ s with canvas := { s.canvas with
                assets := stored
                missingReported := s.canvas.missingReported.filter (· != id) } } : State).raise .assetState
              (.assetState id .ready none a.size)).replied h 0x3B .ok (.count loaded)
          else ({ s with canvas := { s.canvas with assets := stored } } : State).replied h 0x3B .ok (.count loaded))) ∧
  ∀ (h : Hdr) (id : Nat) (s : State), s.admits h 0x3C = true →
    let kept := s.canvas.assets.filter (·.id != id);
    exec (.assetDrop h id) s = .next
      (if 1023 < id then s.replied h 0x3C .range .none
      else if s.canvas.assets.any (·.id == id) = false then s.replied h 0x3C .notFound .none
      else (({ s with canvas := { s.canvas with assets := kept } } : State).raise .assetState
        (.assetState id .dropped none 0)).replied h 0x3C .ok (.count (268435456 - (kept.map (·.size)).sum)))

/-- INPUT_CONFIG is applied input by input: an input that is disabled, newly enabled or given another rate while enabled
loses its signal, with INPUT_SIGNAL of cause DISABLED or RATE where it was PRESENT, and a ring of an enabled input whose
rate changes is restarted, its RING and SAVING clips LOST, its readers disarmed; an unchanged input is left as it is (R93,
R134, R135, R140). A camera frame (R94, R129 to R131): a disabled input ignores it; valid frames in a row make the signal
PRESENT at the 8th, with INPUT_SIGNAL of cause DETECTED, which is captured; while PRESENT a valid frame is captured and
written to the ring, if there is one, and an invalid frame loses the signal, with cause LOST. A write over an available
frame makes a RING clip that holds it LOST with OVERWRITTEN and a SAVING clip that has not copied it LOST with OVERTAKEN,
which leaves the save queue, and every other clip stands; a ring that holds frames of another rate is restarted before the
first frame is written, its RING and SAVING clips LOST and its readers disarmed. Each write tests the readers, with their
warnings (R130, R131, R134 to R136, R140, R146). 100 ms without a valid frame: a PRESENT signal is lost and its hold
begins, an ABSENT one starts its run afresh; and a hold that has run out leaves the input SLATED without its held frame
(R94, R95). Naming frames by a count, a record that changes enable and rate, a disable that takes the valid-frame run to
0, a detection that discards the held frame, the order of several LOST clips and of the readers, and that a frame below O
attaches none, are the model's choice (log 11, log 19, log 20). -/
def Obligations.CameraSignalsAreDecidedAndHeld : Prop :=
  (∀ (h : Hdr) (c0 c1 c2 c3 : InputSetting) (s : State), s.admits h 0x3D = true → s.tablesWf →
    let settings := [c0, c1, c2, c3];
    if (settings.any fun c => !cameraRates.contains c.rate) = true then
      exec (.inputConfig h c0 c1 c2 c3) s = .next (s.replied h 0x3D .range .none)
    else ∃ t, exec (.inputConfig h c0 c1 c2 c3) s = .next (t.replied h 0x3D .ok .none) ∧
      (∀ n c, settings[n]? = some c →
        let i := s.input n
        let j := t.input n
        let stays := i.enabled && c.enable && decide (i.rate = c.rate)
        let restarts := i.enabled && c.enable && decide (i.rate ≠ c.rate) && decide (0 < (s.ring n).size);
        j.enabled = c.enable ∧ j.rate = c.rate ∧ (stays = true → j = i) ∧
        (stays = false → (i.enabled = true ∨ c.enable = true) →
          j.signal = false ∧ j.validRun = 0 ∧ j.loss = .slated ∧ j.held = none) ∧
        t.ring n = (if restarts then { s.ring n with floor := (s.ring n).w, rate := none } else s.ring n)) ∧
      (let restarts (n : Nat) : Bool := match settings[n]? with
          | some c => (s.input n).enabled && c.enable && decide ((s.input n).rate ≠ c.rate) && decide (0 < (s.ring n).size)
          | none => false
        let restarted := [0, 1, 2, 3].filter restarts
        let lost (n : Nat) (c : Clip) : Bool := decide (c.input = n) && (match c.state with
          | .ring => true
          | .saving _ _ => true
          | _ => false);
        ((s.replay.clips.map (·.id)).Nodup → t.replay.clips = s.replay.clips.map fun c =>
          if restarted.any fun n => lost n c then { c with state := .lost } else c) ∧
        (restarted = [] → ∀ name, t.reader name = s.reader name) ∧
        (∀ n, restarted = [n] → ReadersFollow (s.disarmed n) t) ∧
        (s.linksWf →
          Gains s t .inputSignal ([0, 1, 2, 3].flatMap fun n =>
            match settings[n]? with
            | some c =>
              let i := s.input n;
              if i.enabled = true ∧ i.signal = true ∧ c.enable = false then
                [.inputSignal n false .disabled (s.ring n).w]
              else if i.enabled = true ∧ i.signal = true ∧ i.rate ≠ c.rate then
                [.inputSignal n false .rate (s.ring n).w]
              else []
            | none => []) ∧
          ((s.replay.clips.map (·.id)).Nodup → Gains s t .clipState (restarted.flatMap fun n =>
            (s.replay.clips.filter (lost n)).map fun c => .clipState c.id c.input .lost .captureRestart none)) ∧
          (restarted = [] → Gains s t .nearOvertake []) ∧
          ∀ n, restarted = [n] → Gains s t .nearOvertake ((warnings (s.disarmed n) t).map (·.2)))) ∧
      Frame [.inputs, .rings, .clips, .readers] s t) ∧
  (∀ (n : Nat) (s : State), s.due = [] → n < 4 → s.tablesWf →
    let i := s.input n
    let r := s.ring n
    let lost := r.w - r.size
    let other := r.rate.any fun rate => rate != i.rate
    let hit (c : Clip) : Option ClipCause :=
      if c.input = n ∧ 0 < r.size ∧ r.floor + r.size ≤ r.w then
        match c.state with
        | .ring => if c.inSeq ≤ lost ∧ lost ≤ c.outSeq then some .overwritten else none
        | .saving _ copied => if copied ≤ lost ∧ lost ≤ c.outSeq then some .overtaken else none
        | _ => none
      else none
    let old (c : Clip) : Option ClipCause :=
      if c.input = n then
        match c.state with
        | .ring => some .captureRestart
        | .saving _ _ => some .captureRestart
        | _ => none
      else none
    let loses (cause : Clip → Option ClipCause) (seq : Option Nat) (t : State) : Prop :=
      t.replay.clips = (s.replay.clips.map fun c => if (cause c).isSome then { c with state := .lost } else c) ∧
      t.replay.saveQueue =
        (s.replay.saveQueue.filter fun id => !(s.replay.clips.any fun c => c.id == id && (cause c).isSome)) ∧
      (s.linksWf → ∀ c ∈ (s.replay.clips.filter fun c => (cause c).isSome).getLast?, ∀ link,
        let x := (t.link link).entry .clipState;
        x.pending = true ∧
        x.count = min 255 (((s.link link).entry .clipState).count + (s.replay.clips.filter fun c => (cause c).isSome).length) ∧
        ∀ why ∈ cause c, x.latest = .clipState c.id n .lost why seq);
    (i.enabled = false → exec (.cameraFrame n true) s = .next s ∧ exec (.cameraFrame n false) s = .next s) ∧
    (i.enabled = true → i.signal = false →
      (∃ t, exec (.cameraFrame n false) s = .next t ∧ t.input n = { i with validRun := 0 } ∧
        (∀ link, t.link link = s.link link) ∧ Frame [.inputs] s t) ∧
      (i.validRun + 1 < 8 → ∃ t, exec (.cameraFrame n true) s = .next t ∧
        t.input n = { i with validRun := i.validRun + 1 } ∧ (∀ link, t.link link = s.link link) ∧ Frame [.inputs] s t) ∧
      (8 ≤ i.validRun + 1 → ∃ t, exec (.cameraFrame n true) s = .next t ∧ (t.input n).signal = true ∧
        (t.input n).loss = .live ∧ (t.input n).holdFrames = 0 ∧ (t.input n).held = none ∧
        (t.input n).latest = some i.captured ∧
        (t.ring n).w = (if (s.ring n).size = 0 then (s.ring n).w else (s.ring n).w + 1) ∧
        (t.ring n).floor = (if other then r.w else r.floor) ∧
        (t.ring n).rate = (if r.size = 0 then (if other then none else r.rate) else some i.rate) ∧
        ((s.replay.clips.map (·.id)).Nodup →
          (other = true → loses old none t) ∧ (other = false → loses hit (some lost) t)) ∧
        (let start := if other then s.disarmed n else s;
          (if other = true ∨ 0 < r.size then ReadersFollow start t else ∀ name, t.reader name = s.reader name) ∧
          (s.linksWf → Gains s t .inputSignal [.inputSignal n true .detected r.w] ∧
            Gains s t .nearOvertake (if other = true ∨ 0 < r.size then (warnings start t).map (·.2) else []))) ∧
        Frame [.inputs, .rings, .clips, .readers] s t)) ∧
    (i.enabled = true → i.signal = true →
      (∃ t, exec (.cameraFrame n true) s = .next t ∧
        t.input n = { i with latest := some i.captured, captured := i.captured + 1 } ∧
        t.ring n = (if (s.ring n).size = 0 then s.ring n
          else { s.ring n with w := (s.ring n).w + 1, rate := some ((s.ring n).rate.getD i.rate) }) ∧
        (∀ m, m ≠ n → t.input m = s.input m ∧ t.ring m = s.ring m) ∧
        ((s.replay.clips.map (·.id)).Nodup → loses hit (some lost) t) ∧
        (if 0 < r.size then ReadersFollow s t else ∀ name, t.reader name = s.reader name) ∧
        (∀ link, t.link link = (s.link link).occurs
          ((s.replay.clips.filterMap fun c => (hit c).map fun why =>
            (.clipState, .clipState c.id n .lost why (some lost))) ++ if 0 < r.size then warnings s t else [])) ∧
        Frame [.inputs, .rings, .clips, .readers] s t) ∧
      ∃ t, exec (.cameraFrame n false) s = .next t ∧ (t.input n).signal = false ∧ (t.input n).loss = .holding ∧
        (t.input n).holdFrames = s.toFrames 2000 ∧ (t.input n).held = i.latest ∧ (t.input n).validRun = 0 ∧
        (∀ link, t.link link = (s.link link).occurs [(.inputSignal, .inputSignal n false .lost r.w)]) ∧
        Frame [.inputs] s t)) ∧
  ((∀ (n : Nat) (s : State), s.due = [] → n < 4 → s.tablesWf →
    let i := s.input n;
    (i.enabled = false → exec (.inputSignalTimeout n) s = .next s) ∧
    (i.enabled = true → i.signal = false → ∃ t, exec (.inputSignalTimeout n) s = .next t ∧
      t.input n = { i with validRun := 0 } ∧ Frame [.inputs] s t) ∧
    (i.enabled = true → i.signal = true → ∃ u, exec (.inputSignalTimeout n) s = .next
        (u.raise .inputSignal (.inputSignal n false .lost (s.ring n).w)) ∧
      u.input n = { i with signal := false, validRun := 0, loss := .holding, holdFrames := s.toFrames 2000, held := i.latest } ∧
      Frame [.inputs] s u)) ∧
  ∀ (n : Nat) (rest : List DueEvent) (s : State), s.due = .holdEnd n :: rest → n < 4 → s.tablesWf →
    ∃ t, exec (.signalLossHoldEnd n) s = .next t ∧
      t.input n = (if (s.input n).loss = .holding ∧ (s.input n).holdFrames = 0 then
        { s.input n with loss := .slated, held := none } else s.input n) ∧
      (∀ m, m ≠ n → t.input m = s.input m) ∧ Frame [.inputs] { s with due := rest } t)

/-! ## Chapter 6: the arbiter -/

/-- No step leaves a pending request that could be granted: each is masked, held by the play policy while the clock runs,
or covered by a level in service that is not yielded (R108, R109). -/
def Obligations.NothingGrantableIsLeft : Prop :=
  let settled (s : State) : Prop := ∀ z ∈ s.canvas.zones, ∀ r ∈ z.arb.pending,
    (r.level ≠ 0 ∧ r.level ∈ z.arb.mask) ∨
    (r.level ≠ 0 ∧ s.timing.run = .running ∧ policyAt z.spec.policy r.level ≠ .free) ∨
    ∃ k ∈ z.arb.service, k.level ≤ r.level ∧ k.level ∉ z.arb.yielded;
  settled State.reset ∧ ∀ s t : State, s.zonesWf → settled s → step s = .next t → settled t

/-- While the clock runs, a CLOCK zone shows its CLOCK base or a takeover of level 0: its policy is CUT at every level,
and no step puts another level in service there (R89, R111, R115, R121). -/
def Obligations.ClockZonesShowTheClock : Prop :=
  let kept (s : State) : Prop :=
    (∀ z ∈ s.canvas.zones, z.spec.role = .clock → z.spec.base = .clock ∧ z.spec.policy = allCut ∧
      (s.timing.run = .running → ∀ k ∈ z.arb.service, k.level = 0)) ∧
    ∀ specs ∈ s.canvas.awaitingLayout, ∀ n ∈ specs, n.role = .clock → n.base = .clock ∧ n.policy = allCut;
  kept State.reset ∧ ∀ s t : State, s.zonesWf → kept s → step s = .next t → kept t

/-- An evaluation grants the pending request of the lowest level number that is neither masked, held nor covered, and none
else: it moves into service, not yielded, with its content, duration and credit, frames in service 0, and the next frame
event's number as its grant frame; a grant of a channel's level in its head's zone moves a REQUESTED channel to COVERED,
and no other channel changes (R108, R110, R152). -/
def Obligations.EvaluationGrantsTheHighest : Prop :=
  ∀ (zone : Nat) (z : Zone) (s : State), s.zonesWf → s.zone? zone = some z →
    let open_ (l : Nat) : Bool := !(l != 0 && z.arb.mask.contains l) &&
      !(l != 0 && s.timing.run == .running && policyAt z.spec.policy l != .free) &&
      !(z.arb.service.any fun k => decide (k.level ≤ l) && !z.arb.yielded.contains k.level)
    let t := s.evaluate zone;
    ((∀ r ∈ z.arb.pending, open_ r.level = false) → t = s) ∧
    (∀ r ∈ z.arb.pending, open_ r.level = true → (∀ q ∈ z.arb.pending, q.level < r.level → open_ q.level = false) →
      ∃ y, t.zone? zone = some y ∧ y.spec = z.spec ∧ y.basePos = z.basePos ∧ y.arb.mask = z.arb.mask ∧
        y.arb.nextArrival = z.arb.nextArrival ∧ y.arb.yielded = z.arb.yielded ∧
        y.arb.pending = z.arb.pending.filter (·.level != r.level) ∧
        y.arb.service.Perm (⟨r.level, r.content, r.frames, s.canvas.frame + 1, 0, r.credit, 0⟩ :: z.arb.service) ∧
        ∀ ch, t.chan ch =
          if r.level = channelLevel ch ∧ (s.chan ch).state = .requested ∧
              (s.chan ch).cues.head?.map (·.fields.zone) = some zone then { s.chan ch with state := .covered }
          else s.chan ch) ∧
    (∀ other, other ≠ zone → t.zone? other = s.zone? other) ∧ Frame [.zones, .channels] s t

/-- TAKEOVER, RELEASE and CLEAR_TOP: their refusals in order; a takeover stands in every zone named that is in the layout,
with its asset, frame count and no credit, level 0 always in service; a release leaves its level in none of the zones
named where its owner does not request again; a clear ends the topmost level alone (R114, R116 to R118). A count above 8
and the order of the tests are the model's reading (log 6), and so are the whole RELEASE over several zones as one event,
all its ends before any evaluation (log 15), and the order of its zones in the reply (log 20). -/
def Obligations.ProductionTakesAndReleases : Prop :=
  (∀ (h : Hdr) (level : Nat) (zones : ZoneSet) (asset duration : Nat) (s : State), s.admits h 0x40 = true → s.zonesWf →
    let named := if zones.ids = [] then s.zoneIds else (List.range 8).filter zones.ids.contains
    let frames := if duration = 0 then none else some (s.toFrames duration);
    if zones.count ≠ zones.ids.length ∨ 8 < zones.count then
      exec (.takeover h level zones asset duration) s = .next (s.replied h 0x40 .malformed .none)
    else if 1 ≤ level ∧ level ≤ 6 then
      exec (.takeover h level zones asset duration) s = .next (s.replied h 0x40 .notPermitted .none)
    else if 7 < level ∨ 1023 < asset ∨ (duration ≠ 0 ∧ (duration < 100 ∨ 600000 < duration)) ∨
        (level = 7 ∧ zones.ids = []) ∨ (zones.ids.any (7 < ·)) = true ∨ ¬zones.ids.Nodup then
      exec (.takeover h level zones asset duration) s = .next (s.replied h 0x40 .range .none)
    else ∃ t results, exec (.takeover h level zones asset duration) s = .next
        (t.replied h 0x40 .ok (.takeover (frames.getD 0) results)) ∧
      results.map (·.1) = named ∧ Frame [.zones, .channels] s t ∧
      ∀ e ∈ results, (s.zone? e.1 = none → e.2 = .notFound) ∧
        ∀ z ∈ s.zone? e.1, ∃ y, t.zone? e.1 = some y ∧ e.2 ≠ .notFound ∧
          (e.2 = .replaced ↔ (z.arb.standing level).isSome = true) ∧
          (level = 0 → (y.arb.serviceAt 0).isSome = true) ∧
          (e.2 = .granted → (y.arb.serviceAt level).isSome = true) ∧
          (e.2 = .masked → (y.arb.pendingAt level).isSome = true ∧ level ∈ y.arb.mask) ∧
          (e.2 = .held → (y.arb.pendingAt level).isSome = true ∧ s.timing.run = .running) ∧
          (e.2 = .covered → (y.arb.pendingAt level).isSome = true) ∧
          ((∃ k, y.arb.serviceAt level = some k ∧ k.content = .asset asset ∧ k.remaining = frames ∧ k.credit = none ∧
              k.pos = 0) ∨
            ∃ r, y.arb.pendingAt level = some r ∧ r.content = .asset asset ∧ r.frames = frames ∧ r.credit = none)) ∧
  (∀ (h : Hdr) (level : Nat) (zones : ZoneSet) (s : State), s.admits h 0x41 = true →
    let named := if zones.ids = [] then s.zoneIds else (List.range 8).filter zones.ids.contains
    let stands (z : Nat) : Option (Stage × Nat) := (s.zone? z).bind fun y => y.arb.standing level;
    if zones.count ≠ zones.ids.length ∨ 8 < zones.count then
      exec (.release h level zones) s = .next (s.replied h 0x41 .malformed .none)
    else if 7 < level then exec (.release h level zones) s = .next (s.replied h 0x41 .range .none)
    else if level = 1 then exec (.release h level zones) s = .next (s.replied h 0x41 .notPermitted .none)
    else if (zones.ids.any (7 < ·)) = true ∨ ¬zones.ids.Nodup then
      exec (.release h level zones) s = .next (s.replied h 0x41 .range .none)
    else ∃ t, exec (.release h level zones) s = .next (t.replied h 0x41 .ok (.release (named.map fun z =>
        (z, match stands z with | some (stage, _) => ReleaseResult.ended stage | none => .notFound)))) ∧
      t = s.endAll (if level = 0 ∨ level = 7 then .released else .cleared)
        ((named.filter fun z => (stands z).isSome).map fun z => (z, level)) ∧
      (level ≠ 5 → level ≠ 6 → ∀ z ∈ named, t.standsAt z level = none) ∧ Frame endParts s t) ∧
  ∀ (h : Hdr) (zone : Nat) (s : State), s.admits h 0x42 = true →
    let top := (s.zone? zone).bind fun z => z.arb.service.find? fun k => !z.arb.yielded.contains k.level;
    exec (.clearTop h zone) s = .next (match top with
      | none => s.replied h 0x42 .notFound .none
      | some k =>
        if k.level = 1 then s.replied h 0x42 .notPermitted .none
        else (s.endAll .cleared [(zone, k.level)]).replied h 0x42 .ok (.topmost (.level k.level)))

/-- One end: the level leaves its zone, TAKEOVER_ENDED is raised with the stage and the frames in service, and the owner
of the level is told: level 1 and 2 lose the outstanding zone, a channel on air for that zone ends its head entry with the
arbiter's outcome and CHANNEL_STATE, its reader detaching before the next entry's attaches, the head feature and the
standing card lose the zone; where the level does not stand, nothing follows. One event makes all its ends, then evaluates
their zones, then lets the feature list and the cards follow. The takeovers of a zone that have no frame left end together
with outcome EXPIRED (R46, R107, R113, R114, R158, R176, R199). The due list, the order of ends and follow-ups, a card's
MESSAGE_DONE after the evaluations, and what a reader does at RESTART, are the model's (log 2, log 10, log 20). -/
def Obligations.EndsAreReportedToTheirOwners : Prop :=
  (∀ (outcome : Outcome) (zone level : Nat) (s : State),
    let t := s.endOne outcome zone level;
    (s.standsAt zone level = none → t = s) ∧
    (∀ stage frames, s.standsAt zone level = some (stage, frames) →
      let u : State := s.mapArb zone fun a =>
        { a with
          pending := a.pending.filter (·.level != level)
          service := a.service.filter (·.level != level)
          yielded := a.yielded.filter (· != level) };
      t = (u.raise .takeoverEnded (.takeoverEnded zone level outcome stage frames)).tellOwner zone level outcome ∧
      t.standsAt zone level = none ∧
      (let told := u.raise .takeoverEnded (.takeoverEnded zone level outcome stage frames)
        let out := s.timing.outstanding.filter (· != zone);
        (level = 0 ∨ level = 7 → t = told) ∧
        (level = 1 → t = { told with timing :=
          { s.timing with
            outstanding := out
            phase := if out = [] ∧ (s.timing.phase = .countdown ∨ s.timing.phase = .periodEnd) then .spent
              else s.timing.phase } }) ∧
        (level = 2 → t = { told with record :=
          { s.record with outstanding := s.record.outstanding.filter (· != zone) } }) ∧
        (level = 5 → t = { told with rotation :=
          { s.rotation with
            features := match s.rotation.features with
              | f :: rest => { f with outstanding := f.outstanding.filter (· != zone) } :: rest
              | [] => [] } }) ∧
        (level = 6 → t = { told with crawl :=
          { s.crawl with card := s.crawl.card.map fun k => { k with zones := k.zones.filter (· != zone) } } }) ∧
        ∀ ch, level = channelLevel ch →
          let c := s.chan ch
          let on := c.state = .requested ∨ c.state = .playing ∨ c.state = .covered;
          (outcome = .released ∨ outcome = .expired ∨ ¬on ∨ (∀ e ∈ c.cues.head?, e.fields.zone ≠ zone) → t = told) ∧
          ∀ e rest, c.cues = e :: rest → on → e.fields.zone = zone →
            ∀ why : CueOutcome, (outcome = .cleared ∧ why = .cleared ∨ outcome = .cut ∧ why = .cut ∨
              outcome = .zoneRemoved ∧ why = .zoneRemoved ∨ outcome = .restart ∧ why = .restart) →
            (t.chan ch).cues = rest ∧ (t.chan ch).state = (if rest = [] then .idle else .cued) ∧
            (if outcome = .restart then t.reader (channelReader ch) = none else ReadersFollow (s.detached ch) t) ∧
            (∀ link, t.link link = (told.link link).occurs
              ((if outcome = .restart then [] else warnings (s.detached ch) t) ++
                [(.channelState, .channelState ch e.number e.fields.clip why c.pos c.passes c.shown (t.chan ch).state)])) ∧
            Frame [.channels, .readers] told t))) ∧
  (∀ (outcome : Outcome) (items : List (Nat × Nat)) (s : State),
    let ended := items.foldl (fun u i => u.endOne outcome i.1 i.2) s
    let settled := items.foldl (fun u i => u.evaluate i.1) ended
    let t := s.endAll outcome items;
    t = settled.featureFollow.cardFollow ∧
    (s.linksWf → items.Nodup → Gains s t .takeoverEnded (items.filterMap fun i =>
      (s.standsAt i.1 i.2).map fun stood => .takeoverEnded i.1 i.2 outcome stood.1 stood.2))) ∧
  ∀ (zone : Nat) (rest : List DueEvent) (s : State), s.due = .takeoverExpiry zone :: rest → s.zonesWf →
    let u : State := { s with due := rest };
    exec (.takeoverExpiry zone) s = .next (match s.zone? zone with
      | none => u
      | some z =>
        let ended := (z.arb.service.filter fun k => k.remaining == some 0).map fun k => (zone, k.level)
        if ended = [] then u else u.endAll .expired ended)

/-- MASK, YIELD and ZONE_POLICY: their refusals in order, what each puts into the zone, and the evaluation it brings;
YIELD reports the topmost level after it (R119 to R121; that the zone is looked up first is the model's reading, log 6).
That a level repeated in the set of a MASK counts once is the model's choice (log 6). -/
def Obligations.MaskYieldAndPolicy : Prop :=
  (∀ (h : Hdr) (zone : Nat) (levels : List Nat) (s : State), s.admits h 0x43 = true →
    exec (.mask h zone levels) s = .next
      (if s.zone? zone = none then s.replied h 0x43 .notFound .none
      else if (levels.any fun l => l == 0 || decide (7 < l)) = true then s.replied h 0x43 .range .none
      else ((s.mapArb zone fun a => { a with mask := (List.range 8).filter levels.contains }).evaluate zone).replied h 0x43
        .ok .none)) ∧
  (∀ (h : Hdr) (zone level : Nat) (on : Bool) (s : State), s.admits h 0x44 = true →
    let t := (s.mapArb zone fun a =>
      { a with yielded := if on then (List.range 8).filter (level :: a.yielded).contains
        else a.yielded.filter (· != level) }).evaluate zone;
    exec (.yield h zone level on) s = .next (match s.zone? zone with
      | none => s.replied h 0x44 .notFound .none
      | some z =>
        if 7 < level then s.replied h 0x44 .range .none
        else if (z.arb.service.any (·.level == level)) = false then s.replied h 0x44 .notFound .none
        else t.replied h 0x44 .ok (.topmost
          (match (t.zone? zone).bind fun y => y.arb.service.find? fun k => !y.arb.yielded.contains k.level with
          | some k => .level k.level
          | none => .base)))) ∧
  ∀ (h : Hdr) (zone : Nat) (policy : Policies) (s : State), s.admits h 0x45 = true →
    exec (.zonePolicy h zone policy) s = .next (match s.zone? zone with
      | none => s.replied h 0x45 .notFound .none
      | some z =>
        if z.spec.role = .clock then s.replied h 0x45 .notPermitted .none
        else ((s.mapZone zone fun y => { y with spec := { y.spec with policy := policy } }).evaluate zone).replied h 0x45 .ok
          .none)

/-! ## Chapters 7 and 8: capture, clips and channels -/

/-- RING_PARTITION, CAPTURE_RESTART and MARGIN_SET: their refusals in order; a partition gives every ring its size,
empties it and loses the clips still in a ring, each with its CLIP_STATE; a restart empties one ring, disarms its readers
without a warning and loses its uncopied clips, each with its CLIP_STATE; a threshold takes effect at once, an armed
reader below it raising NEAR_OVERTAKE; the write sequences go on from where they stand. The reading of each name (R135):
the save copy's next frame, a channel's position unless it lies in the store; a reader attaches armed, is tested, warns
once as it falls below the threshold, and is armed again at or above it (R126, R127, R133 to R137, R140). The order in
which the readers are tested, and in which several clips become LOST, and that a frame below O attaches no reader, are the
model's (log 20). -/
def Obligations.RingsArePartitionedAndRestarted : Prop :=
  (∀ (h : Hdr) (r0 r1 r2 r3 : Nat) (s : State), s.admits h 0x48 = true → s.tablesWf →
    let sizes := [r0, r1, r2, r3];
    if (sizes.any fun n => n != 0 && (decide (n < 1200) || decide (120000 < n))) = true ∨ 131072 < r0 + r1 + r2 + r3 then
      exec (.ringPartition h r0 r1 r2 r3) s = .next (s.replied h 0x48 .range .none)
    else if (s.replay.clips.any fun c => c.extent.isSome) = true ∨ s.replay.chanA.state ≠ .idle ∨
        s.replay.chanB.state ≠ .idle then
      exec (.ringPartition h r0 r1 r2 r3) s = .next (s.replied h 0x48 .busy .none)
    else ∃ t, exec (.ringPartition h r0 r1 r2 r3) s = .next
        (t.replied h 0x48 .ok (.count (131072 - (r0 + r1 + r2 + r3)))) ∧
      (∀ n size, sizes[n]? = some size →
        t.ring n = { s.ring n with size := size, floor := (s.ring n).w, rate := none }) ∧
      t.replay.clips.map (·.id) = s.replay.clips.map (·.id) ∧ (∀ c ∈ t.replay.clips, c.state ≠ .ring) ∧
      ((s.replay.clips.map (·.id)).Nodup →
        t.replay.clips = s.replay.clips.map fun c => if c.state = .ring then { c with state := .lost } else c) ∧
      (∀ link, t.link link = (s.link link).occurs ((s.replay.clips.filter fun c => decide (c.state = .ring)).map fun c =>
        (.clipState, .clipState c.id c.input .lost .partition none))) ∧
      Frame [.rings, .clips] s t) ∧
  (∀ (h : Hdr) (n : Nat) (s : State), s.admits h 0x49 = true → s.tablesWf →
    if 3 < n then exec (.captureRestart h n) s = .next (s.replied h 0x49 .range .none)
    else ∃ t, exec (.captureRestart h n) s = .next (t.replied h 0x49 .ok (.count (s.ring n).w)) ∧
      t.ring n = { s.ring n with floor := (s.ring n).w, rate := none } ∧ (∀ m, m ≠ n → t.ring m = s.ring m) ∧
      (∀ c ∈ t.replay.clips, c.input = n → c.state = .lost ∨ ∃ start, c.state = .saved start) ∧
      (let lost (c : Clip) : Bool := decide (c.input = n) && (match c.state with
          | .ring => true
          | .saving _ _ => true
          | _ => false)
        let hit := s.replay.clips.filter lost;
        ((s.replay.clips.map (·.id)).Nodup →
          t.replay.clips = s.replay.clips.map fun c => if lost c then { c with state := .lost } else c) ∧
        t.replay.saveQueue = s.replay.saveQueue.filter (fun id => !(hit.map (·.id)).contains id) ∧
        ReadersFollow (s.disarmed n) t ∧
        ∀ link, t.link link = (s.link link).occurs
          ((hit.map fun c => (.clipState, .clipState c.id c.input .lost .captureRestart none)) ++ warnings (s.disarmed n) t)) ∧
      Frame [.rings, .readers, .clips] s t) ∧
  ∀ (h : Hdr) (n : Nat) (choice : Threshold) (s : State), s.admits h 0x4A = true → s.tablesWf →
    let frames : Nat := (match choice with
      | .preset30 => 30
      | .preset120 => 120
      | .preset600 => 600
      | .preset1800 => 1800
      | .programmed v => v);
    if 3 < n ∨ frames = 0 ∨ 65535 < frames then exec (.marginSet h n choice) s = .next (s.replied h 0x4A .range .none)
    else ∃ t, exec (.marginSet h n choice) s = .next (t.replied h 0x4A .ok (.count frames)) ∧
      t.ring n = { s.ring n with threshold := choice } ∧ (∀ m, m ≠ n → t.ring m = s.ring m) ∧
      (∀ name r, s.reader name = some r →
        t.reader name = some { r with armed :=
          (if r.input = n then decide ((frames : Int) ≤ r.seq - ((s.ring n).oldest : Int)) else r.armed) }) ∧
      (∀ name, s.reader name = none → t.reader name = none) ∧
      (∀ link, t.link link = (s.link link).occurs ([ReaderName.save, .channelA, .channelB].flatMap fun name =>
        match s.reader name with
        | none => []
        | some r =>
          if r.input = n ∧ r.armed = true ∧ r.seq - ((s.ring n).oldest : Int) < (frames : Int) then
            [(.nearOvertake, .nearOvertake n name r.clip (r.seq - ((s.ring n).oldest : Int)) frames)]
          else [])) ∧
      Frame [.rings, .readers] s t

/-- CLIP_CREATE, CLIP_SAVE, CLIP_DELETE and the copying of a save: their refusals in order; a clip is made over available
frames of one ring; a save takes the lowest free run that holds it; each copy moves one frame on, and the copy of the last
makes the clip SAVED with CLIP_STATE of cause COMPLETE; a deletion frees its id and its slots. At each of the three, and
at each copy, every reader follows what it is then to read, with its warning: the save reader attaches, moves, detaches
and goes on to the next save (R135, R136, R140, R141, R143 to R145, R147). The order of the readers, and that a frame
below O attaches none, are the model's choice (log 20). -/
def Obligations.ClipsAreMadeSavedAndDeleted : Prop :=
  (∀ (h : Hdr) (id input a b : Nat) (tag : Option Nat) (label : Option Text) (s : State), s.admits h 0x50 = true →
    exec (.clipCreate h id input a b tag label) s = .next
      (if 127 < id ∨ 3 < input then s.replied h 0x50 .range .none
      else if s.replay.clips.any (·.id == id) = true then s.replied h 0x50 .duplicate .none
      else if (label.any fun t => decide (t.length = 0 ∨ 16 < t.length) ||
          t.any fun c => decide (c.toNat < 0x20) || decide (0x7E < c.toNat)) = true ∨ b < a ∨ 36000 < b - a + 1 ∨
          a < (s.ring input).oldest ∨ (s.ring input).w ≤ b ∨ (tag.any fun i => decide (63 < i)) = true then
        s.replied h 0x50 .range .none
      else if (tag.any fun i => !s.rotation.sponsors.any (·.id == i)) = true then s.replied h 0x50 .notFound .none
      else ({ s with replay := { s.replay with clips := s.replay.clips ++
          [⟨id, input, a, b, (s.ring input).rate.getD ⟨60, 1⟩, .ring, tag, label⟩] } } : State).replied h 0x50 .ok
            (.count (b - a + 1)))) ∧
  (∀ (h : Hdr) (id : Nat) (s : State), s.admits h 0x51 = true →
    if 127 < id then exec (.clipSave h id) s = .next (s.replied h 0x51 .range .none)
    else
      match s.clip? id with
      | none => exec (.clipSave h id) s = .next (s.replied h 0x51 .notFound .none)
      | some c =>
        match c.state with
        | .lost => exec (.clipSave h id) s = .next (s.replied h 0x51 .notFound .none)
        | .saving _ _ => exec (.clipSave h id) s = .next (s.replied h 0x51 .busy .none)
        | .saved _ => exec (.clipSave h id) s = .next (s.replied h 0x51 .duplicate .none)
        | .ring =>
          if 8 ≤ s.replay.saveQueue.length then exec (.clipSave h id) s = .next (s.replied h 0x51 .full .none)
          else
            match (s.freeRuns.find? fun r => decide (c.outSeq - c.inSeq + 1 ≤ r.2)) with
            | none => exec (.clipSave h id) s = .next (s.replied h 0x51 .noSpace .none)
            | some r => ∃ t, exec (.clipSave h id) s = .next
                (t.replied h 0x51 .ok (.pair r.1 s.replay.saveQueue.length)) ∧
              t.replay.saveQueue = s.replay.saveQueue ++ [id] ∧
              t.clip? id = some { c with state := .saving r.1 c.inSeq } ∧
              (∀ other, other ≠ id → t.clip? other = s.clip? other) ∧ ReadersFollow s t ∧
              (∀ link, t.link link = (s.link link).occurs (warnings s t)) ∧ Frame [.clips, .readers] s t) ∧
  (∀ (h : Hdr) (id : Nat) (s : State), s.admits h 0x52 = true →
    let naming := (s.replay.chanA.cues ++ s.replay.chanB.cues).any (·.fields.clip == id);
    if 127 < id then exec (.clipDelete h id) s = .next (s.replied h 0x52 .range .none)
    else if s.clip? id = none then exec (.clipDelete h id) s = .next (s.replied h 0x52 .notFound .none)
    else if naming = true then exec (.clipDelete h id) s = .next (s.replied h 0x52 .busy .none)
    else ∃ t, exec (.clipDelete h id) s = .next (t.replied h 0x52 .ok (.count t.freeSlots)) ∧
      t.replay.clips = s.replay.clips.filter (·.id != id) ∧ t.replay.saveQueue = s.replay.saveQueue.filter (· != id) ∧
      ReadersFollow s t ∧ (∀ link, t.link link = (s.link link).occurs (warnings s t)) ∧ Frame [.clips, .readers] s t) ∧
  ∀ s : State, s.due = [] →
    match s.replay.saveQueue.head?.bind s.clip? with
    | none => exec .saveCopyFrame s = .next s
    | some c =>
      ∀ start copied, c.state = .saving start copied →
        ∃ t, exec .saveCopyFrame s = .next t ∧ Frame [.clips, .readers] s t ∧ ReadersFollow s t ∧
          (∀ link, t.link link = (s.link link).occurs
            ((if c.outSeq ≤ copied then [(.clipState, .clipState c.id c.input .saved .complete none)] else []) ++
              warnings s t)) ∧
          (copied < c.outSeq → t.clip? c.id = some { c with state := .saving start (copied + 1) } ∧
            t.replay.saveQueue = s.replay.saveQueue) ∧
          (c.outSeq ≤ copied → t.clip? c.id = some { c with state := .saved start } ∧
            t.replay.saveQueue = s.replay.saveQueue.tail)

/-- The slots of saved clips and of clips being saved never overlap and lie inside the clip store: no step breaks this,
whatever is saved, deleted, lost or partitioned (R127, R143, R147, Table 8-1). -/
def Obligations.ClipExtentsStayApart : Prop :=
  let apart (s : State) : Prop :=
    s.capture.rings.length = 4 ∧ (s.replay.clips.map (·.id)).Nodup ∧
    (s.replay.clips.filterMap (·.extent)).Pairwise (fun x y => x.1 + x.2 ≤ y.1 ∨ y.1 + y.2 ≤ x.1) ∧
    ∀ x ∈ s.replay.clips.filterMap (·.extent), x.1 + x.2 ≤ 131072 - (s.capture.rings.map (·.size)).sum;
  apart State.reset ∧ ∀ s t : State, apart s → step s = .next t → apart t

/-- CUE_ADD, CUE_REMOVE, CHANNEL_SPEED and CHANNEL_CHAIN: their refusals in order; an entry takes the channel's next
number and joins the tail, its tag the clip's where it names none, and a head is loaded at its start position; a removal
leaves the others in order; a removed head's reader detaches, and where the head changes every reader follows what it is
then to read, with its warning, a new head's attaching armed, and else none changes; a speed and the chain flag take
effect on the channel alone (R135, R136, R148 to R150, R153, R155). The order of the readers, that a frame below O
attaches none, and which entries go where two hold one number, are the model's choice (log 20, log 24). -/
def Obligations.CuesAreKeptInOrder : Prop :=
  (∀ (h : Hdr) (ch : Channel) (f : CueFields) (s : State), s.admits h 0x54 = true →
    let speedOk := f.speed = 0 ∨ (25 ≤ f.speed ∧ f.speed ≤ 4000) ∨ (-4000 ≤ f.speed ∧ f.speed ≤ -25);
    if 127 < f.clip ∨ ¬speedOk ∨ 8 < f.loops ∨ 7 < f.zone ∨ (f.tag.any fun i => decide (63 < i)) = true then
      exec (.cueAdd h ch f) s = .next (s.replied h 0x54 .range .none)
    else
      match s.clip? f.clip with
      | none => exec (.cueAdd h ch f) s = .next (s.replied h 0x54 .notFound .none)
      | some clip =>
        if clip.state = .lost then exec (.cueAdd h ch f) s = .next (s.replied h 0x54 .notFound .none)
        else if clip.outSeq - clip.inSeq + 1 ≤ f.offset then
          exec (.cueAdd h ch f) s = .next (s.replied h 0x54 .range .none)
        else if s.zone? f.zone = none then exec (.cueAdd h ch f) s = .next (s.replied h 0x54 .notFound .none)
        else if s.replayTarget f.zone = false then exec (.cueAdd h ch f) s = .next (s.replied h 0x54 .range .none)
        else if (f.tag.any fun i => !s.rotation.sponsors.any (·.id == i)) = true then
          exec (.cueAdd h ch f) s = .next (s.replied h 0x54 .notFound .none)
        else if 16 ≤ (s.chan ch).cues.length then exec (.cueAdd h ch f) s = .next (s.replied h 0x54 .full .none)
        else ∃ t, exec (.cueAdd h ch f) s = .next
            (t.replied h 0x54 .ok (.pair (s.chan ch).nextCue ((s.chan ch).cues.length + 1))) ∧
          (t.chan ch).cues = (s.chan ch).cues ++ [⟨(s.chan ch).nextCue, { f with tag := f.tag.or clip.tag }⟩] ∧
          (t.chan ch).nextCue = (if (s.chan ch).nextCue ≥ 65535 then 1 else (s.chan ch).nextCue + 1) ∧
          (∀ other, other ≠ ch → t.chan other = s.chan other) ∧
          ((s.chan ch).state ≠ .idle → (t.chan ch).state = (s.chan ch).state ∧ (t.chan ch).pos = (s.chan ch).pos) ∧
          ((s.chan ch).state = .idle → (s.chan ch).cues = [] → (t.chan ch).state = .cued ∧
            (t.chan ch).pos = (if 0 ≤ f.speed then (clip.inSeq : Int) + f.offset else (clip.outSeq : Int) - f.offset) ∧
            (t.chan ch).acc = 0 ∧ (t.chan ch).passes = 0 ∧ (t.chan ch).shown = 0) ∧
          (if (s.chan ch).state = .idle then
            ReadersFollow s t ∧ ∀ link, t.link link = (s.link link).occurs (warnings s t)
          else t.capture = s.capture ∧ ∀ link, t.link link = s.link link) ∧
          Frame [.channels, .readers] s t) ∧
  (∀ (h : Hdr) (ch : Channel) (number : Nat) (s : State), s.admits h 0x55 = true →
    let c := s.chan ch
    let isHead := c.cues.head?.any (·.number == number);
    if (c.cues.any (·.number == number)) = false then
      exec (.cueRemove h ch number) s = .next (s.replied h 0x55 .notFound .none)
    else if isHead = true ∧ (c.state = .requested ∨ c.state = .playing ∨ c.state = .covered) then
      exec (.cueRemove h ch number) s = .next (s.replied h 0x55 .busy .none)
    else ∃ t, exec (.cueRemove h ch number) s = .next (t.replied h 0x55 .ok (.count (t.chan ch).cues.length)) ∧
      (t.chan ch).cues = (if isHead then c.cues.tail else c.cues.filter (·.number != number)) ∧
      (isHead = true → (t.chan ch).state = (if c.cues.tail = [] then .idle else .cued)) ∧
      (isHead = false → (t.chan ch).state = c.state ∧ (t.chan ch).pos = c.pos) ∧
      (if isHead = true then
        ReadersFollow (s.detached ch) t ∧ ∀ link, t.link link = (s.link link).occurs (warnings (s.detached ch) t)
      else t.capture = s.capture ∧ ∀ link, t.link link = s.link link) ∧
      (∀ other, other ≠ ch → t.chan other = s.chan other) ∧ Frame [.channels, .readers] s t) ∧
  (∀ (h : Hdr) (ch : Channel) (x : Int) (s : State), s.admits h 0x58 = true →
    if ¬(x = 0 ∨ (25 ≤ x ∧ x ≤ 4000) ∨ (-4000 ≤ x ∧ x ≤ -25)) then
      exec (.channelSpeed h ch x) s = .next (s.replied h 0x58 .range .none)
    else if (s.chan ch).state = .idle then exec (.channelSpeed h ch x) s = .next (s.replied h 0x58 .notFound .none)
    else ∃ t, exec (.channelSpeed h ch x) s = .next (t.replied h 0x58 .ok .none) ∧
      (∀ other, other ≠ ch → t.chan other = s.chan other) ∧ Frame [.channels] s t ∧
      ∀ e rest, (s.chan ch).cues = e :: rest →
        t.chan ch = { s.chan ch with cues := { e with fields := { e.fields with speed := x } } :: rest }) ∧
  ∀ (h : Hdr) (ch : Channel) (on : Bool) (s : State), s.admits h 0x59 = true →
    exec (.channelChain h ch on) s = .next (match ch with
      | .a => ({ s with replay := { s.replay with chanA := { s.replay.chanA with chain := on } } } : State).replied h 0x59 .ok
          .none
      | .b => ({ s with replay := { s.replay with chanB := { s.replay.chanB with chain := on } } } : State).replied h 0x59 .ok
          .none)

/-- CHANNEL_ROLL and CHANNEL_STOP: a roll is NOT_FOUND on an IDLE channel and BUSY on air or while a CANVAS_CONFIG awaits;
one whose head can be shown requests its level in the head's zone and is on air, with nothing dropped and no reader moved;
one whose heads cannot be shown drops each, CLIP_GONE or ZONE_GONE with its CHANNEL_STATE, up to the first that can, the
channel's reader detaching and attaching anew at each, with its warnings, and is EMPTY and IDLE without one; a drop raises
its CHANNEL_STATE before the next entry is loaded, and so before what that loading warns of; a stop is NOT_FOUND off air, else the entry leaves the list and the level its zone, the next entry is loaded, not rolled,
the readers follow in the same way, and CHANNEL_STATE says STOPPED (R12, R135, R136, R151, R158, R159). That a drop's
CHANNEL_STATE names the state the drop leaves, CUED or IDLE, is the model's choice (log 9), and so are the order of the
readers and that a frame below O attaches none (log 20). -/
def Obligations.ChannelsRollAndStop : Prop :=
  (∀ (h : Hdr) (ch : Channel) (s : State), s.admits h 0x56 = true → s.zonesWf →
    let c := s.chan ch;
    if c.state = .idle then exec (.channelRoll h ch) s = .next (s.replied h 0x56 .notFound .none)
    else if c.state = .requested ∨ c.state = .playing ∨ c.state = .covered ∨ s.canvas.awaitingConfig ≠ none then
      exec (.channelRoll h ch) s = .next (s.replied h 0x56 .busy .none)
    else ∃ t dropped result, exec (.channelRoll h ch) s = .next (t.replied h 0x56 .ok (.roll dropped result)) ∧
      Frame [.zones, .channels, .readers] s t ∧
      (let start (e : Cue) : Int := match s.clip? e.fields.clip with
          | some clip => if 0 ≤ e.fields.speed then (clip.inSeq : Int) + e.fields.offset else clip.outSeq - e.fields.offset
          | none => 0
        let cause (e : Cue) : Option CueOutcome := match s.clip? e.fields.clip with
          | some clip => if clip.state = .lost then some .clipGone
            else if s.replayTarget e.fields.zone = true then none else some .zoneGone
          | none => some .clipGone
        let gone := c.cues.takeWhile fun e => (cause e).isSome
        let left := c.cues.dropWhile fun e => (cause e).isSome;
        dropped = gone.length ∧ (t.chan ch).cues = left ∧
        (left = [] → result = .empty ∧ (c.cues ≠ [] → (t.chan ch).state = .idle)) ∧
        (gone = [] → ∀ name, t.reader name = s.reader name) ∧
        (gone ≠ [] → ReadersFollow (s.detached ch) t) ∧
        (s.linksWf → Gains s t .nearOvertake ((s.dropWarnings ch gone.length).map (·.2))) ∧
        (∀ e, left.head? = some e → s.standsAt e.fields.zone (channelLevel ch) = none →
          (t.chan ch).pos = (if gone = [] then c.pos else start e) ∧
          (t.standsAt e.fields.zone (channelLevel ch)).isSome = true ∧
          ((result = .granted e.number ∧ (t.chan ch).state = .covered) ∨
            (result = .pending e.number ∧ (t.chan ch).state = .requested))) ∧
        (let drop (e : Cue) (k : Nat) : Detail :=
            .channelState ch e.number e.fields.clip ((cause e).getD .clipGone) (if k = 0 then c.pos else start e) 0 0
              (if k + 1 < c.cues.length then .cued else .idle);
          (∀ link, t.link link = (s.link link).occurs
            (gone.zipIdx.flatMap fun (e, k) => (.channelState, drop e k) :: s.dropWarning ch k)) ∧
          (s.linksWf → Gains s t .channelState (gone.zipIdx.map fun (e, k) => drop e k)))) ∧
      ∀ e rest, c.cues = e :: rest → (∃ clip, s.clip? e.fields.clip = some clip ∧ clip.state ≠ .lost) →
        s.replayTarget e.fields.zone = true → s.standsAt e.fields.zone (channelLevel ch) = none →
        dropped = 0 ∧ (t.chan ch).cues = c.cues ∧ (t.chan ch).pos = c.pos ∧
        (t.standsAt e.fields.zone (channelLevel ch)).isSome = true ∧
        ((result = .granted e.number ∧ (t.chan ch).state = .covered ∧
            ∃ z, t.zone? e.fields.zone = some z ∧ ∃ k, z.arb.serviceAt (channelLevel ch) = some k ∧
              k.content = .channel ch ∧ k.remaining = none ∧ k.credit = e.fields.tag) ∨
          (result = .pending e.number ∧ (t.chan ch).state = .requested ∧
            ∃ z, t.zone? e.fields.zone = some z ∧ ∃ r, z.arb.pendingAt (channelLevel ch) = some r ∧
              r.content = .channel ch ∧ r.frames = none ∧ r.credit = e.fields.tag))) ∧
  ∀ (h : Hdr) (ch : Channel) (s : State), s.admits h 0x57 = true → s.zonesWf →
    let c := s.chan ch;
    if ¬(c.state = .requested ∨ c.state = .playing ∨ c.state = .covered) then
      exec (.channelStop h ch) s = .next (s.replied h 0x57 .notFound .none)
    else ∃ t, exec (.channelStop h ch) s = .next (t.replied h 0x57 .ok (.count ((c.cues.head?.map (·.number)).getD 0))) ∧
      (t.chan ch).chain = c.chain ∧ (∀ other, other ≠ ch → (t.chan other).cues = (s.chan other).cues) ∧
      (∀ e rest, c.cues = e :: rest → (t.chan ch).cues = rest ∧
        (t.chan ch).state = (if rest = [] then .idle else .cued) ∧
        t.standsAt e.fields.zone (channelLevel ch) = none ∧ ReadersFollow (s.detached ch) t ∧
        (s.linksWf → Gains s t .nearOvertake ((warnings (s.detached ch) t).map (·.2)) ∧
          Gains s t .channelState [.channelState ch e.number e.fields.clip .stopped c.pos c.passes c.shown
            (t.chan ch).state])) ∧
      Frame endParts s t

/-- A channel's cadence: a frame that showed it moves its position by the whole part of speed × source rate ÷ output rate,
the rest staying in the accumulator, so that no frame is gained or lost; past the clip's end a further pass starts or the
entry is complete, and with chain on the first entry behind it that can be shown is rolled at once; every reader then
follows what it is to read, with its warning, the channel's detaching where its entry ends and attaching anew to the next;
a frame that did not show it leaves the position and the readers (R135, R136, R152, R153, R154, R156, R158). At a frame
event the channels advance last, channel A before channel B, each by its cadence on the frame composed (R86; the order,
log 9); a channel that would be shown without an available frame ends its entry OVERRUN before the frame is composed,
which its zone then shows without it, and the readers follow (R135, R136, R157, R158). That only the position after the
bounds is handed to the capture unit, the order of the readers, and that a frame below O attaches none, are the model's
choice (log 20, log 23). -/
def Obligations.ShownChannelsAdvance : Prop :=
  (∀ (ch : Channel) (s : State) (e : Cue) (rest : List Cue) (clip : Clip),
    (s.chan ch).cues = e :: rest → s.clip? e.fields.clip = some clip → (s.chan ch).state = .playing ∨ (s.chan ch).state = .covered →
    let c := s.chan ch
    let t := s.stepChannel ch
    let shown := decide (s.shownTop e.fields.zone = some (.level (channelLevel ch)))
    let num := e.fields.speed.natAbs * clip.rate.n * s.canvas.size.rate.d
    let den := 1000 * clip.rate.d * s.canvas.size.rate.n
    let forward := decide (0 ≤ e.fields.speed)
    let pos := if forward then c.pos + ((c.acc + num) / den : Nat) else c.pos - ((c.acc + num) / den : Nat)
    let past := if forward then decide ((clip.outSeq : Int) < pos) else decide (pos < (clip.inSeq : Int))
    let passes := min 65535 (c.passes + 1);
    (shown = false → t.chan ch = { c with state := .covered } ∧ Frame [.channels] s t) ∧
    (shown = true → past = false → t.chan ch =
      { c with state := .playing, shown := min (2 ^ 32 - 1) (c.shown + 1), acc := (c.acc + num) % den, pos := pos } ∧
      ReadersFollow s t ∧ (∀ link, t.link link = (s.link link).occurs (warnings s t)) ∧ Frame [.channels, .readers] s t) ∧
    (shown = true → past = true → (e.fields.loops = 0 ∨ passes < e.fields.loops) → t.chan ch =
      { c with
        state := .playing, shown := min (2 ^ 32 - 1) (c.shown + 1), acc := (c.acc + num) % den, passes := passes
        pos := if forward then (clip.inSeq : Int) else (clip.outSeq : Int) } ∧ ReadersFollow s t ∧
      (∀ link, t.link link = (s.link link).occurs (warnings s t)) ∧ Frame [.channels, .readers] s t) ∧
    (shown = true → past = true → e.fields.loops ≠ 0 → e.fields.loops ≤ passes → c.chain = false →
      (t.chan ch).cues = rest ∧ (t.chan ch).state = (if rest = [] then .idle else .cued) ∧
      ReadersFollow (s.detached ch) t ∧
      (s.linksWf → Gains s t .nearOvertake ((warnings (s.detached ch) t).map (·.2)) ∧
        Gains s t .channelState [.channelState ch e.number e.fields.clip .complete pos passes
          (min (2 ^ 32 - 1) (c.shown + 1)) (t.chan ch).state]) ∧
      (s.zonesWf → t.standsAt e.fields.zone (channelLevel ch) = none) ∧ Frame endParts s t) ∧
    (shown = true → past = true → e.fields.loops ≠ 0 → e.fields.loops ≤ passes → c.chain = true → s.zonesWf →
      (∀ zone, zone ≠ e.fields.zone → s.standsAt zone (channelLevel ch) = none) →
      let cannot (x : Cue) : Bool := match s.clip? x.fields.clip with
        | some clip => clip.state == .lost || !s.replayTarget x.fields.zone
        | none => true
      let left := rest.dropWhile cannot;
      (t.chan ch).cues = left ∧ (left = [] → (t.chan ch).state = .idle) ∧
      ReadersFollow (s.detached ch) t ∧
      (s.linksWf → Gains s t .nearOvertake ((s.dropWarnings ch (1 + (rest.takeWhile cannot).length)).map (·.2))) ∧
      (∀ x, left.head? = some x → ((t.chan ch).state = .covered ∨ (t.chan ch).state = .requested) ∧
        (t.standsAt x.fields.zone (channelLevel ch)).isSome = true) ∧
      (s.linksWf → ∀ link, let x := (t.link link).entry .channelState;
        x.pending = true ∧ x.latest = .channelState ch e.number e.fields.clip .complete pos passes
          (min (2 ^ 32 - 1) (c.shown + 1)) (t.chan ch).state) ∧
      Frame endParts s t)) ∧
  (let available (c : Clip) (pos : Int) (s : State) : Prop :=
    c.inStore pos = true ∨ ((max ((s.ring c.input).w - (s.ring c.input).size) (s.ring c.input).floor : Nat) : Int) ≤ pos
  let shows (ch : Channel) (e : Cue) (s : State) : Prop :=
    ∃ z ∈ s.canvas.zones, z.spec.id = e.fields.zone ∧
      (z.arb.service.find? fun k => !z.arb.yielded.contains k.level && decide (k.grantFrame ≤ s.canvas.frame + 1)).map (·.level) =
        some (channelLevel ch)
  let onAir (c : Chan) : Prop := c.state = .requested ∨ c.state = .playing ∨ c.state = .covered
  let overruns (ch : Channel) (s : State) : Prop :=
    ∃ e, (s.chan ch).cues.head? = some e ∧ onAir (s.chan ch) ∧ shows ch e s ∧
      ∀ clip, s.clip? e.fields.clip = some clip → ¬available clip (s.chan ch).pos s;
  (∀ s : State, s.due = [] → s.zonesWf → s.canvas.awaitingConfig = none → s.canvas.awaitingLayout = none →
    (∀ ch, ¬overruns ch s) →
    ∃ u : State, exec .outputFrameEvent s = .next ((u.stepChannel .a).stepChannel .b) ∧ u.replay = s.replay ∧
      u.canvas.size = s.canvas.size ∧ u.canvas.frame = s.canvas.frame + 1 ∧ u.zonesWf ∧
      (∀ z ∈ s.canvas.zones, u.shownTop z.spec.id = some (
        match z.arb.service.find? fun k => !z.arb.yielded.contains k.level && decide (k.grantFrame ≤ s.canvas.frame + 1) with
        | some k => .level k.level
        | none => .base)) ∧
      Frame [.canvas, .zones, .inputs, .assets, .programs, .exposure, .crawl] s { u with due := [] }) ∧
  ∀ (ch : Channel) (e : Cue) (rest : List Cue) (s : State), s.due = [] → s.zonesWf → s.canvas.awaitingConfig = none →
    s.canvas.awaitingLayout = none → (s.chan ch).cues = e :: rest → overruns ch s →
    ∃ t, exec .outputFrameEvent s = .next t ∧ (t.chan ch).cues = rest ∧
      (t.chan ch).state = (if rest = [] then .idle else .cued) ∧ (t.chan ch).chain = (s.chan ch).chain ∧
      t.standsAt e.fields.zone (channelLevel ch) = none ∧
      (∀ v ∈ t.canvas.visibility, v.zone = e.fields.zone → v.top ≠ .level (channelLevel ch)) ∧
      (s.linksWf → (∀ other, other ≠ ch → ¬onAir (s.chan other)) → ∀ link,
        let x := (t.link link).entry .channelState;
        x.pending = true ∧ x.latest = .channelState ch e.number e.fields.clip .overrun (s.chan ch).pos (s.chan ch).passes
          (s.chan ch).shown (t.chan ch).state) ∧
      ((∀ other, other ≠ ch → ¬onAir (s.chan other)) → ReadersFollow (s.detached ch) t ∧
        (s.linksWf → Gains s t .nearOvertake ((warnings (s.detached ch) t).map (·.2)))) ∧
      Frame ([.canvas, .inputs, .assets, .programs, .exposure] ++ endParts) s { t with due := [] })

/-! ## Chapters 9 and 10: rotation and exposure -/

/-- SPONSOR_DEFINE, QUOTA_SET, COUNTER_MASK and BREAK_FEATURE: their refusals in order; a sponsor leaves the table only
while nothing names it, and keeps its counters; a quota marks the milestones that DELIVERED has reached, and reports
milestone 100 alone, where the sponsor was not fulfilled before (R164, R165, R177, R183, R185, R186). -/
def Obligations.SponsorsAndQuotasAreSet : Prop :=
  let quotaTo (id : Nat) (q : Option Nat) (s : State) : State :=
    let e := s.exposed id
    let new : Exposed := (match q with
      | none => { e with quota := none, p50 := false, p75 := false, p100 := false, fulfilled := false }
      | some q =>
        { e with
          quota := some q
          p50 := decide (q * 50 / 100 ≤ e.delivered)
          p75 := decide (q * 75 / 100 ≤ e.delivered)
          p100 := decide (q ≤ e.delivered)
          fulfilled := decide (q ≤ e.delivered) })
    let u : State := { s with exposure := { s.exposure with ids := s.exposure.ids.set id new } }
    if (q.any fun q => decide (q ≤ e.delivered)) = true ∧ e.fulfilled = false then
      u.raise .quotaMilestone (.quotaMilestone id .m100 .quota (q.getD 0) e.delivered)
    else u
  let quotaBad (q : Option Nat) : Bool := q.any fun q => q == 0 || decide (2 ^ 48 ≤ q);
  (∀ (h : Hdr) (id : Nat) (name : Text) (quota : Option Nat) (s : State), s.admits h 0x60 = true →
    exec (.sponsorDefine h id name quota) s = .next
      (if 63 < id then s.replied h 0x60 .range .none
      else if (s.rotation.sponsors.any (·.id == id)) = true then s.replied h 0x60 .duplicate .none
      else if name.length = 0 ∨ 16 < name.length ∨
          (name.any fun c => decide (c.toNat < 0x20) || decide (0x7E < c.toNat)) = true ∨ quotaBad quota = true then s.replied h 0x60 .range .none
      else (quotaTo id quota
        { s with rotation := { s.rotation with sponsors := s.rotation.sponsors ++ [⟨id, name⟩] } }).replied h 0x60 .ok
          .none)) ∧
  (∀ (h : Hdr) (id : Nat) (s : State), s.admits h 0x60 = true →
    let named := (s.rotation.programs.any fun g => g.entries.any (·.sponsor == some id)) ||
      (s.rotation.features.any (·.sponsor == id)) || (s.rotation.breakConfig.any (·.1 == id)) ||
      (s.record.game.config.sponsor == some id) ||
      ((s.replay.chanA.cues ++ s.replay.chanB.cues).any (·.fields.tag == some id)) ||
      (s.replay.clips.any (·.tag == some id)) || (s.crawl.config.sponsor == some id) ||
      (s.canvas.zones.any fun z => z.arb.pending.any (·.credit == some id) || z.arb.service.any (·.credit == some id));
    exec (.sponsorRemove h id) s = .next
      (if 63 < id then s.replied h 0x60 .range .none
      else if (s.rotation.sponsors.any (·.id == id)) = false then s.replied h 0x60 .notFound .none
      else if named = true then s.replied h 0x60 .busy .none
      else (quotaTo id none
        { s with rotation := { s.rotation with sponsors := s.rotation.sponsors.filter (·.id != id) } }).replied h 0x60 .ok
          .none)) ∧
  (∀ (h : Hdr) (id : Nat) (quota : Option Nat) (s : State), s.admits h 0x6A = true → s.tablesWf →
    let e := (quotaTo id quota s).exposed id;
    exec (.quotaSet h id quota) s = .next
      (if 63 < id ∨ quotaBad quota = true then s.replied h 0x6A .range .none
      else if (s.rotation.sponsors.any (·.id == id)) = false then s.replied h 0x6A .notFound .none
      else (quotaTo id quota s).replied h 0x6A .ok (.quota (quota.getD 0) e.p50 e.p75 e.p100 e.fulfilled))) ∧
  (∀ (h : Hdr) (mask : CounterMask) (share : Nat) (s : State), s.admits h 0x6B = true →
    exec (.counterMask h mask share) s = .next
      (if mask.delivered = false ∨ 100 < share then s.replied h 0x6B .range .none
      else ({ s with exposure := ⟨s.exposure.ids, mask, share⟩ } : State).replied h 0x6B .ok .none)) ∧
  ∀ (h : Hdr) (config : Option (Nat × Nat)) (s : State), s.admits h 0x67 = true →
    exec (.breakFeature h config) s = .next
      (if (config.any fun c => decide (63 < c.1) || decide (1023 < c.2)) = true then s.replied h 0x67 .range .none
      else if (config.any fun c => !s.rotation.sponsors.any (·.id == c.1)) = true then s.replied h 0x67 .notFound .none
      else ({ s with rotation := { s.rotation with breakConfig := config } } : State).replied h 0x67 .ok .none)

/-- A selection takes the first candidate that is not suspended, is READY and is owed exposure, else the first that is not
suspended and READY, else a slate of 5,000 ms; the pointer of FIXED passes the chosen entry, each missing asset passed
over is reported, and the start is counted for its sponsor (R88, R168, R169, R171, R182). -/
def Obligations.SelectionsChooseTheNextEntry : Prop :=
  ∀ (p : Nat) (s : State), p ≤ 3 → s.tablesWf →
    let g := s.program p
    let ready (e : RotEntry) : Bool := (s.asset? e.asset).any (·.ready)
    let owed (e : RotEntry) : Bool := !(e.sponsor.any fun i => (s.exposed i).fulfilled)
    let cands := if g.mode = .rotate then g.entries else g.entries.drop g.pointer ++ g.entries.take g.pointer
    let choice := (cands.find? fun e => !e.suspended && ready e && owed e).or (cands.find? fun e => !e.suspended && ready e)
    let missed := (cands.takeWhile fun e => !(!e.suspended && ready e && owed e)).filter fun e => !e.suspended && !ready e
    let frames := ceilQuot ((choice.map (·.dwell)).getD 5000 * s.canvas.size.rate.n) (1000 * s.canvas.size.rate.d)
    let after (e : RotEntry) : Nat :=
      let i := g.entries.findIdx (·.id == e.id) + 1
      if i < g.entries.length then i else 0
    let t := s.select p;
    t.program p =
      { g with
        onAir := some ⟨choice, frames, 0, 0, 0⟩
        pointer := (match g.mode, choice with
          | .fixed, some e => after e
          | _, _ => g.pointer)
        slates := if choice = none then min 65535 (g.slates + 1) else g.slates } ∧
    (∀ q, q ≠ p → t.program q = s.program q) ∧
    t.exposure = (match choice.bind (·.sponsor) with
      | some i =>
        let n := (s.exposed i).appearances;
        let e : Exposed :=
          { s.exposed i with appearances := if s.exposure.mask.appearances then min (2 ^ 48 - 1) (n + 1) else n };
        { s.exposure with ids := s.exposure.ids.set i e }
      | none => s.exposure) ∧
    (∀ link, t.link link = (s.link link).occurs
      ((missed.map fun e => (Cond.assetState, Detail.assetState e.asset .missing (s.carrying p).head? (s.assetSize e.asset))) ++
        if choice = none then [(Cond.rotationEmpty, Detail.rotationEmpty p g.entries.length
          (g.entries.filter (·.suspended)).length (g.entries.filter fun e => !ready e).length
          (g.entries.filter fun e => !e.suspended && !owed e).length)] else [])) ∧
    Frame [.programs, .exposure] s t

/-- ROTATION_LOAD, SUSPEND, RESUME, FRONT and MODE, and the end of a dwell: their refusals in order; an appearance that
ends is judged short, its entry moves to the tail in ROTATE but not after a load, and an active program selects at once; a
suspended entry is not on air; a mode change ends nothing (R167, R170, R172 to R174, R182). The status of a list above 32,
and an entry of an id above 255 that is accepted, are the model's reading (log 6). -/
def Obligations.ProgramsRunTheirEntries : Prop :=
  let ended (moves : Bool) (p : Nat) (a : Appearance) (s : State) : State :=
    let g := s.program p
    let entries := (match a.entry with
      | some e =>
        if moves = true ∧ g.mode = .rotate then g.entries.filter (·.id != e.id) ++ g.entries.filter (·.id == e.id)
        else g.entries
      | none => g.entries)
    let gone : Program := { g with onAir := none, entries := entries }
    let u : State := { s with rotation := { s.rotation with programs := s.rotation.programs.set p gone } }
    match a.entry.bind (·.sponsor) with
    | some i =>
      if 2 * a.visible < a.elapsed ∧ s.exposure.mask.shortAppearances = true then
        let e : Exposed := { s.exposed i with shortAppearances := min (2 ^ 48 - 1) ((s.exposed i).shortAppearances + 1) };
        { u with exposure := { s.exposure with ids := s.exposure.ids.set i e } }
      else u
    | none => u
  let program (p : Nat) (g : Program) (s : State) : State :=
    { s with rotation := { s.rotation with programs := s.rotation.programs.set p g } }
  let next (p : Nat) (s : State) : State := if s.carrying p = [] then s else s.select p;
  (∀ (h : Hdr) (p count : Nat) (entries : List RotEntry) (s : State), s.admits h 0x61 = true → s.tablesWf →
    let left := (match (s.program p).onAir with
      | some a => ended false p a s
      | none => s);
    exec (.rotationLoad h p count entries) s = .next
      (if count ≠ entries.length then s.replied h 0x61 .malformed .none
      else if 3 < p ∨ 32 < count ∨ (entries.any fun e => decide (1023 < e.asset) || e.sponsor.any (63 < ·) ||
          decide (e.dwell < 2000) || decide (60000 < e.dwell)) = true then s.replied h 0x61 .range .none
      else if ¬(entries.map (·.id)).Nodup then s.replied h 0x61 .duplicate .none
      else if (entries.any fun e => e.sponsor.any fun i => !s.rotation.sponsors.any (·.id == i)) = true then
        s.replied h 0x61 .notFound .none
      else (next p (program p { left.program p with entries := entries, pointer := 0 } left)).replied h 0x61 .ok
        (.count entries.length))) ∧
  (∀ (h : Hdr) (p id : Nat) (s : State), s.admits h 0x63 = true → s.tablesWf →
    let g := s.program p
    let flagged := program p
      { g with entries := g.entries.map fun e => if e.id = id then { e with suspended := true } else e } s
    let t : State := (match g.onAir with
      | some a => if (a.entry.any fun e : RotEntry => e.id == id) = true then next p (ended true p a flagged) else flagged
      | none => flagged);
    exec (.rotationSuspend h p id) s = .next
      (if 3 < p then s.replied h 0x63 .range .none
      else if (g.entries.any (·.id == id)) = false then s.replied h 0x63 .notFound .none
      else t.replied h 0x63 .ok .none) ∧
    (p ≤ 3 → ∀ a e, (t.program p).onAir = some a → a.entry = some e → e.id ≠ id)) ∧
  (∀ (h : Hdr) (p id : Nat) (s : State), s.admits h 0x64 = true →
    let g := s.program p;
    exec (.rotationResume h p id) s = .next
      (if 3 < p then s.replied h 0x64 .range .none
      else if (g.entries.any (·.id == id)) = false then s.replied h 0x64 .notFound .none
      else (program p { g with entries := g.entries.map fun e => if e.id = id then { e with suspended := false } else e }
        s).replied h 0x64 .ok .none)) ∧
  (∀ (h : Hdr) (p id : Nat) (s : State), s.admits h 0x65 = true → s.tablesWf →
    let g := s.program p
    let index := g.entries.findIdx (·.id == id);
    exec (.rotationFront h p id) s = .next
      (if 3 < p then s.replied h 0x65 .range .none
      else if (g.entries.any (·.id == id)) = false then s.replied h 0x65 .notFound .none
      else if g.mode = .rotate then
        (program p { g with entries := g.entries.filter (·.id == id) ++ g.entries.filter (·.id != id) } s).replied h 0x65 .ok
          (.count 0)
      else (program p { g with pointer := index } s).replied h 0x65 .ok (.count index))) ∧
  (∀ (h : Hdr) (p : Nat) (mode : RotMode) (cover : Cover) (s : State), s.admits h 0x62 = true →
    let g := s.program p
    let after (e : RotEntry) : Nat :=
      let i := g.entries.findIdx (·.id == e.id) + 1
      if i < g.entries.length then i else 0;
    exec (.rotationMode h p mode cover) s = .next
      (if 3 < p then s.replied h 0x62 .range .none
      else (program p
        { g with
          mode := mode
          cover := cover
          pointer := if g.mode = .rotate ∧ mode = .fixed then ((g.onAir.bind (·.entry)).map after).getD 0
            else g.pointer } s).replied h 0x62 .ok .none)) ∧
  ∀ (p : Nat) (rest : List DueEvent) (s : State), p ≤ 3 → s.tablesWf → s.due = .dwellEnd p :: rest →
    let u : State := { s with due := rest };
    exec (.appearanceDwellEnd p) s = .next (match (s.program p).onAir with
      | some a => if a.remaining = 0 then next p (ended true p a u) else u
      | none => u)

/-- No program shows a suspended entry, and its list holds each entry id once, whatever step is taken (R167, R172). -/
def Obligations.NoSuspendedEntryIsOnAir : Prop :=
  let kept (s : State) : Prop := ∀ g ∈ s.rotation.programs, (g.entries.map (·.id)).Nodup ∧
    ∀ a e, g.onAir = some a → a.entry = some e → ∀ f ∈ g.entries, f.id = e.id → f.suspended = false;
  kept State.reset ∧ ∀ s t : State, s.tablesWf → kept s → step s = .next t → kept t

/-- FEATURE_ADD and the requests of the head feature: the refusals in order, the number and place answered; features that
no zone takes leave the list and are counted, and the first that some zone takes stands at level 5 in each zone that takes
it, with its asset, its duration in frames and its sponsor's credit; a head feature whose outstanding set has become empty
leaves the list, and the next is requested so (R88, R104, R175, R176). A break feature joins the tail at a break start and
is recorded; a cancel removes it where it waits and, where it is the head, ends it RELEASED in every outstanding zone, so
that it leaves the list and the next follows; an expiry removes it only where it waits; with no configuration a start
appends nothing (R177). A count above 8, and when a break feature is recorded, are the model's reading (log 6, log 15);
that the feature's own empty zone set stays empty, and the order of a released feature's ends and of what follows them,
are its choice (log 20, log 24). -/
def Obligations.FeaturesFollowTheirList : Prop :=
  ((∀ (h : Hdr) (sponsor asset duration : Nat) (zones : ZoneSet) (s : State), s.admits h 0x66 = true →
    let n := s.rotation.nextFeature
    let u : State := { s with rotation := { s.rotation with
      features := s.rotation.features ++ [⟨n, sponsor, asset, duration, zones.ids, false, []⟩]
      nextFeature := if n ≥ 65535 then 1 else n + 1 } };
    exec (.featureAdd h sponsor asset duration zones) s = .next
      (if zones.count ≠ zones.ids.length ∨ 8 < zones.count then s.replied h 0x66 .malformed .none
      else if 63 < sponsor ∨ 1023 < asset ∨ duration < 1000 ∨ 120000 < duration ∨ (zones.ids.any (7 < ·)) = true ∨
          ¬zones.ids.Nodup then s.replied h 0x66 .range .none
      else if (s.rotation.sponsors.any (·.id == sponsor)) = false then s.replied h 0x66 .notFound .none
      else if 8 ≤ s.rotation.features.length then s.replied h 0x66 .full .none
      else (if s.rotation.features = [] then u.startFeatures u.rotation.features else u).replied h 0x66 .ok
        (.pair n s.rotation.features.length))) ∧
  (∀ (list : List Feature) (s : State), s.zonesWf → s.rotation.featuresDropped ≤ 65535 →
    let takers (f : Feature) : List Nat :=
      (if f.zones = [] then (s.canvas.zones.filter (·.spec.attrs.featureTarget)).map (·.spec.id)
        else (List.range 8).filter f.zones.contains).filter fun z =>
          (s.zone? z).any fun y => (y.arb.serviceAt 5).isNone && (y.arb.pendingAt 5).isNone
    let skipped := list.takeWhile fun f => (takers f).isEmpty
    let t := s.startFeatures list;
    t.rotation =
      { s.rotation with
        featuresDropped := min 65535 (s.rotation.featuresDropped + skipped.length)
        features := (match list.drop skipped.length with
          | f :: rest => { f with outstanding := takers f } :: rest
          | [] => []) } ∧
    Frame [.zones, .channels, .features] s t ∧
    ∀ f ∈ t.rotation.features.head?, ∀ zone ∈ f.outstanding, ∃ z, t.zone? zone = some z ∧
      let frames := ceilQuot (f.duration * s.canvas.size.rate.n) (1000 * s.canvas.size.rate.d);
      ((∃ r, z.arb.pendingAt 5 = some r ∧ r.content = .asset f.asset ∧ r.frames = some frames ∧
          r.credit = some f.sponsor) ∨
        ∃ k, z.arb.serviceAt 5 = some k ∧ k.content = .asset f.asset ∧ k.remaining = some frames ∧
          k.credit = some f.sponsor ∧ k.pos = 0 ∧ k.served = 0)) ∧
  ∀ s : State, (s.rotation.features = [] → s.featureFollow = s) ∧
    ∀ f rest, s.rotation.features = f :: rest →
      (f.outstanding ≠ [] → s.featureFollow = s) ∧ (f.outstanding = [] → s.featureFollow = s.startFeatures rest)) ∧
  ((∀ (seconds : Nat) (s : State), s.rotation.features ≠ [] →
    let n := s.rotation.nextFeature;
    s.featureBreakStart seconds = (match s.rotation.breakConfig with
      | none => s
      | some (sponsor, asset) =>
        { s with rotation := if 8 ≤ s.rotation.features.length then
            { s.rotation with featuresDropped := min 65535 (s.rotation.featuresDropped + 1) }
          else
            { s.rotation with
              features := s.rotation.features ++ [⟨n, sponsor, asset, seconds * 1000, [], true, []⟩]
              nextFeature := if n ≥ 65535 then 1 else n + 1
              breakRecorded := some n } })) ∧
  (∀ (seconds : Nat) (s : State), s.rotation.features = [] →
    (s.rotation.breakConfig = none → s.featureBreakStart seconds = s) ∧
    ∀ sponsor asset, s.rotation.breakConfig = some (sponsor, asset) →
      let n := s.rotation.nextFeature
      let f : Feature := ⟨n, sponsor, asset, seconds * 1000, [], true, []⟩
      let u := ({ s with rotation := { s.rotation with features := [f], nextFeature := if n ≥ 65535 then 1 else n + 1 } } :
        State).startFeatures [f];
      s.featureBreakStart seconds = { u with rotation := { u.rotation with breakRecorded := some n } }) ∧
  (∀ (n : Nat) (f : Feature) (rest : List Feature) (s : State), s.rotation.breakRecorded = some n →
    s.rotation.features = f :: rest →
    let waiting : State := { s with rotation := { s.rotation with
      features := f :: rest.filter (·.number != n), breakRecorded := none } };
    s.featureBreakExpiry = waiting ∧
    (f.number ≠ n → s.featureBreakCancel = waiting) ∧
    (f.number = n → Frame endParts s s.featureBreakCancel ∧
      (let u := s.endAll .released (f.outstanding.map fun zone => (zone, 5));
        s.featureBreakCancel = { u with rotation := { u.rotation with breakRecorded := none } }) ∧
      (s.linksWf → f.outstanding.Nodup → Gains s s.featureBreakCancel .takeoverEnded (f.outstanding.filterMap fun zone =>
        (s.standsAt zone 5).map fun stood => .takeoverEnded zone 5 .released stood.1 stood.2)) ∧
      ((∀ zone ∈ f.outstanding, (s.standsAt zone 5).isSome = true) →
        s.featureBreakCancel.rotation.features.map (·.number) <:+ rest.map (·.number)) ∧
      (s.zonesWf → (∀ g ∈ rest, g.zones ≠ [] ∧ ∀ z ∈ f.outstanding, z ∉ g.zones) → ∀ z ∈ f.outstanding,
        s.featureBreakCancel.standsAt z 5 = none))) ∧
  ∀ s : State, s.rotation.breakRecorded = none → s.featureBreakCancel = s ∧ s.featureBreakExpiry = s)

/-- The credit of a frame: every zone rendered as content earns by what it showed, the sums are added to each sponsor's
enabled counters, saturating, and each armed milestone that DELIVERED reaches is passed and reported, in ascending sponsor
and milestone (R180, R181, R184). -/
def Obligations.FramesAreCredited : Prop :=
  ∀ s : State, s.tablesWf →
    let credit (e : VisEntry) : Option Credit :=
      if e.rendered = false then none
      else match e.top, e.content with
        | .base, .base b =>
          match e.program with
          | some p => (((s.program p).shown.bind (·.entry)).bind (·.sponsor)).map fun i => ⟨i, e.weight * 100, .visible⟩
          | none =>
            if b = .crawl ∧ s.crawl.strip ≠ [] then s.crawl.config.sponsor.map fun i => ⟨i, e.weight * 100, .visible⟩
            else none
        | .base, .takeover _ => none
        | .level n, _ =>
          if n = 5 then e.credit.map fun i => ⟨i, e.weight * 100, .feature⟩
          else if 2 ≤ n ∧ n ≤ 4 then e.credit.map fun i => ⟨i, e.weight * s.exposure.tagShare, .tagged⟩
          else none
    let own (i : Nat) : List Credit := (s.canvas.visibility.filterMap credit).filter (·.sponsor == i)
    let shows (i : Nat) (k : CreditKind) : Nat := ((own i).filter (·.kind == k)).length
    let add (on : Bool) (c n : Nat) : Nat := if on then min (2 ^ 48 - 1) (c + n) else c
    let m := s.exposure.mask
    let earned (i : Nat) : Exposed :=
      { s.exposed i with
        delivered := add true (s.exposed i).delivered ((own i).map (·.units)).sum
        visibleFrames := add m.visibleFrames (s.exposed i).visibleFrames (shows i .visible)
        featureFrames := add m.featureFrames (s.exposed i).featureFrames (shows i .feature)
        taggedFrames := add m.taggedFrames (s.exposed i).taggedFrames (shows i .tagged) }
    let reached (i : Nat) (passed : Bool) (percent : Nat) : Bool :=
      !passed && (s.exposed i).quota.any fun q => decide (q * percent / 100 ≤ (earned i).delivered)
    let report (i : Nat) (passed : Bool) (milestone : Milestone) (percent : Nat) : List (Cond × Detail) :=
      if own i ≠ [] ∧ reached i passed percent = true then
        [(.quotaMilestone, .quotaMilestone i milestone .credit (((s.exposed i).quota.getD 0) * percent / 100)
          (earned i).delivered)]
      else []
    let t := s.creditFrame;
    t.exposure =
      { s.exposure with
        ids := (List.range 64).map fun i =>
          if own i = [] then s.exposed i
          else
            { earned i with
              p50 := (s.exposed i).p50 || reached i (s.exposed i).p50 50
              p75 := (s.exposed i).p75 || reached i (s.exposed i).p75 75
              p100 := (s.exposed i).p100 || reached i (s.exposed i).p100 100
              fulfilled := (s.exposed i).fulfilled || reached i (s.exposed i).p100 100 } } ∧
    (∀ link, t.link link = (s.link link).occurs ((List.range 64).flatMap fun i =>
      report i (s.exposed i).p50 .m50 50 ++ report i (s.exposed i).p75 .m75 75 ++ report i (s.exposed i).p100 .m100 100)) ∧
    Frame [.exposure] s t

/-- No command lowers a counter of any sponsor, but a game opened on this part or on its twin, and power-on (R181, R187).
-/
def Obligations.CountersNeverFall : Prop :=
  ∀ (c : Instr) (s t : State), s.tablesWf → exec c s = .next t →
    (∀ h, c ≠ .gameOpen h) → (∀ r : EventRecord, r.change = .gameOpen → c ≠ .twinEventReceived r) →
    (∀ a b level, c ≠ .powerOn a b level) →
    ∀ i, (s.exposed i).delivered ≤ (t.exposed i).delivered ∧ (s.exposed i).visibleFrames ≤ (t.exposed i).visibleFrames ∧
      (s.exposed i).appearances ≤ (t.exposed i).appearances ∧
      (s.exposed i).shortAppearances ≤ (t.exposed i).shortAppearances ∧
      (s.exposed i).featureFrames ≤ (t.exposed i).featureFrames ∧
      (s.exposed i).taggedFrames ≤ (t.exposed i).taggedFrames

/-! ## Chapter 11: the crawl -/

/-- CRAWL_CONFIG: its refusals in order; the whole configuration is replaced, the speed clamped to 16; a change of idle
source ends the appearance of a program that no zone carries any more and starts one for a program that a zone now carries
(R166, R190). MSG_SUBMIT, MSG_APPROVE, MSG_REJECT and MSG_WITHDRAW: their refusals in order; a message joins the tail of
the queue HELD, an approval puts it behind the crawl order and, if FEATURED, the feature order, a rejection and a
withdrawal take it out of every list and report it; a withdrawn card ends RELEASED in every zone where it is outstanding,
before MESSAGE_DONE (R191 to R193, R198, R199). The status of a zone count above 8 is the model's reading (log 6); the
order of a withdrawn card's TAKEOVER_ENDED over its zones, and of the next feature, the next card and this MESSAGE_DONE
after them, are the model's choice (log 20). That a withdrawal raises one MESSAGE_DONE is said where a standing card has an
outstanding zone and its message heads the feature order, which every step keeps (EveryStepKeepsTheCrawl). -/
def Obligations.TheCrawlTakesItsRecords : Prop :=
  (∀ (h : Hdr) (c : CrawlConfig) (s : State), s.admits h 0x70 = true → s.tablesWf →
    let out (lo hi n : Nat) : Bool := decide (n < lo) || decide (hi < n);
    if c.widths.length ≠ 95 ∨ c.zones.count ≠ c.zones.ids.length ∨ 8 < c.zones.count then
      exec (.crawlConfig h c) s = .next (s.replied h 0x70 .malformed .none)
    else if c.speed = 0 ∨ out 16 512 c.gap = true ∨ (c.widths.any (out 4 64)) = true ∨ (c.idle.any (3 < ·)) = true ∨
        (c.sponsor.any (63 < ·)) = true ∨ (c.zones.ids.any (7 < ·)) = true ∨ ¬c.zones.ids.Nodup ∨
        out 2000 30000 c.duration = true ∨ out 1 64 c.backlog = true then
      exec (.crawlConfig h c) s = .next (s.replied h 0x70 .range .none)
    else if (c.sponsor.any fun i => !s.rotation.sponsors.any (·.id == i)) = true then
      exec (.crawlConfig h c) s = .next (s.replied h 0x70 .notFound .none)
    else if s.crawl.config.gap < c.gap ∧ s.crawl.strip ≠ [] then
      exec (.crawlConfig h c) s = .next (s.replied h 0x70 .busy .none)
    else ∃ t, exec (.crawlConfig h c) s = .next (t.replied h 0x70 .ok (.count (min 16 c.speed))) ∧
      t.crawl = { s.crawl with config := { c with speed := min 16 c.speed } } ∧
      Frame [.crawlConfig, .programs, .exposure] s t ∧
      (c.idle = s.crawl.config.idle → t.rotation = s.rotation ∧ t.exposure = s.exposure) ∧
      ∀ p, p ≤ 3 →
        (s.carrying p ≠ [] → t.carrying p ≠ [] → t.program p = s.program p) ∧
        (s.carrying p = [] → t.carrying p = [] → t.program p = s.program p) ∧
        (s.carrying p ≠ [] → t.carrying p = [] → (t.program p).onAir = none) ∧
        (s.carrying p = [] → t.carrying p ≠ [] → ∃ a, (t.program p).onAir = some a ∧ a.elapsed = 0 ∧ a.visible = 0)) ∧
  (let without (id : Nat) (c : Crawl) : Crawl :=
    { c with
      messages := c.messages.filter (·.id != id)
      order := c.order.filter (· != id)
      strip := c.strip.filter (·.id != id)
      featureOrder := c.featureOrder.filter (· != id) };
  (∀ (h : Hdr) (id : Nat) (text : Text) (repeats : Nat) (cls : MsgClass) (s : State), s.admits h 0x71 = true →
    let c := s.crawl
    let n := c.messages.length + 1
    let held := (c.messages.filter (·.state == .held)).length + 1
    let u : State := { s with crawl := { c with messages := c.messages ++ [⟨id, text, repeats, cls, .held, false, 0⟩] } };
    exec (.msgSubmit h id text repeats cls) s = .next
      (if id = 0 ∨ text.length = 0 ∨ 200 < text.length ∨
          (text.any fun b => decide (b.toNat < 0x20) || decide (0x7E < b.toNat)) = true ∨ repeats = 0 ∨ 5 < repeats then
        s.replied h 0x71 .range .none
      else if (c.messages.any (·.id == id)) = true then s.replied h 0x71 .duplicate .none
      else if 64 ≤ c.messages.length then s.replied h 0x71 .full .none
      else (if n = c.config.backlog then u.raise .crawlBacklog (.crawlBacklog n held n) else u).replied h 0x71 .ok
        (.count n))) ∧
  (∀ (h : Hdr) (id : Nat) (s : State), s.admits h 0x72 = true →
    let c := s.crawl
    let queued : Crawl :=
      { c with
        messages := c.messages.map fun m => if m.id = id then { m with state := .queued } else m
        order := c.order ++ [id] };
    match c.messages.find? (·.id == id) with
    | none => exec (.msgApprove h id) s = .next (s.replied h 0x72 (if id = 0 then .range else .notFound) .none)
    | some m =>
      let t : State := (match m.cls with
        | .ordinary => { s with crawl := queued }
        | .featured =>
          let u : State := { s with crawl := { queued with featureOrder := c.featureOrder ++ [id] } };
          if c.featureOrder = [] then u.startCards [id] else u);
      exec (.msgApprove h id) s = .next
        (if id = 0 then s.replied h 0x72 .range .none
        else if m.state ≠ .held then s.replied h 0x72 .busy .none
        else t.replied h 0x72 .ok (.count t.crawl.messages.length))) ∧
  (∀ (h : Hdr) (id : Nat) (s : State), s.admits h 0x73 = true →
    let c := s.crawl;
    exec (.msgReject h id) s = .next (match c.messages.find? (·.id == id) with
      | none => s.replied h 0x73 (if id = 0 then .range else .notFound) .none
      | some m =>
        if id = 0 then s.replied h 0x73 .range .none
        else if m.state ≠ .held then s.replied h 0x73 .busy .none
        else
          let u := ({ s with crawl := without id c } : State).raise .messageDone
            (.messageDone id .rejected m.cls m.passes m.featuredDone);
          u.replied h 0x73 .ok (.count (c.messages.filter (·.id != id)).length))) ∧
  ∀ (h : Hdr) (id : Nat) (s : State), s.admits h 0x74 = true →
    let c := s.crawl;
    match c.messages.find? (·.id == id) with
    | none => exec (.msgWithdraw h id) s = .next (s.replied h 0x74 (if id = 0 then .range else .notFound) .none)
    | some m =>
      if id = 0 then exec (.msgWithdraw h id) s = .next (s.replied h 0x74 .range .none)
      else ∃ t, exec (.msgWithdraw h id) s = .next (t.replied h 0x74 .ok (.count t.crawl.messages.length)) ∧
        (∀ m ∈ t.crawl.messages, m.id ≠ id) ∧ id ∉ t.crawl.order ∧ id ∉ t.crawl.featureOrder ∧
        (∀ i ∈ t.crawl.strip, i.id ≠ id) ∧ Frame endParts s t ∧
        (let zones := match c.card with
            | some k => if k.message = id then k.zones else []
            | none => []
          t = ((({ s with crawl := without id c } : State).endAll .released (zones.map fun z => (z, 6))).raise .messageDone
            (.messageDone id .withdrawn m.cls m.passes m.featuredDone)) ∧
          (s.linksWf →
            (∀ link, let x := (t.link link).entry .messageDone;
              x.pending = true ∧ x.latest = .messageDone id .withdrawn m.cls m.passes m.featuredDone) ∧
            (zones.Nodup → Gains s t .takeoverEnded (zones.filterMap fun z =>
              (s.standsAt z 6).map fun stood => .takeoverEnded z 6 .released stood.1 stood.2)) ∧
            ((∀ x ∈ c.featureOrder, x = id) → (∀ k ∈ c.card, k.zones ≠ [] ∧ c.featureOrder.head? = some k.message) →
              Gains s t .messageDone
              [.messageDone id .withdrawn m.cls m.passes m.featuredDone])) ∧
          (s.zonesWf → (∀ x ∈ c.featureOrder, x = id) → ∀ z ∈ zones, t.standsAt z 6 = none)) ∧
        ((∀ k ∈ c.card, k.message = id → ∀ z ∈ k.zones, (s.standsAt z 6).isSome = true) →
          ∀ k ∈ t.crawl.card, k.message ≠ id) ∧
        ((∀ f ∈ s.rotation.features.head?, f.outstanding ≠ []) → (∀ k ∈ c.card, k.message ≠ id ∧ k.zones ≠ []) →
          t = ({ s with crawl := without id c } : State).raise .messageDone
            (.messageDone id .withdrawn m.cls m.passes m.featuredDone)))

/-- The head of the feature order is requested at level 6 in each zone that takes it, with the configured duration in
frames and no credit; where none takes it every card is done without appearing and is counted; a card that has ended in
every zone sets its message's featured-done flag, finishes a message without a pass left, and the next card follows (R198,
R199). -/
def Obligations.CardsFollowTheFeatureOrder : Prop :=
  (∀ (list : List Nat) (s : State), s.zonesWf → s.crawl.cardsDropped ≤ 65535 →
    let c := s.crawl
    let takers := (if c.config.zones.ids = [] then (s.canvas.zones.filter (·.spec.attrs.featureTarget)).map (·.spec.id)
      else (List.range 8).filter c.config.zones.ids.contains).filter fun z =>
        (s.zone? z).any fun y => (y.arb.serviceAt 6).isNone && (y.arb.pendingAt 6).isNone
    let frames := ceilQuot (c.config.duration * s.canvas.size.rate.n) (1000 * s.canvas.size.rate.d)
    let t := s.startCards list;
    (takers = [] → t.crawl.card = none ∧ t.crawl.cardsDropped = min 65535 (c.cardsDropped + list.length) ∧
      (∀ id ∈ list, id ∉ t.crawl.featureOrder) ∧ (∀ m ∈ t.crawl.messages, m.id ∈ list → m.featuredDone = true) ∧
      Frame [.crawl] s t) ∧
    (takers ≠ [] → t.crawl = { c with card := list.head?.map fun id => ⟨id, takers⟩ } ∧ Frame [.zones, .channels, .crawl] s t ∧
      ∀ id rest, list = id :: rest → ∀ zone ∈ takers, ∃ z, t.zone? zone = some z ∧
        ((∃ r, z.arb.pendingAt 6 = some r ∧ r.content = .card id ∧ r.frames = some frames ∧ r.credit = none) ∨
          ∃ k, z.arb.serviceAt 6 = some k ∧ k.content = .card id ∧ k.remaining = some frames ∧ k.credit = none ∧
            k.served = 0))) ∧
  ∀ (k : Card) (s : State), s.crawl.card = some k →
    let c := s.crawl
    let order := c.featureOrder.filter (· != k.message)
    let ready (m : Message) : Bool := m.state == .queued && m.repeats == 0
    let flagged : Crawl :=
      { c with
        card := none
        messages := c.messages.map fun m => if m.id = k.message then { m with featuredDone := true } else m
        featureOrder := order };
    (k.zones ≠ [] → s.cardFollow = s) ∧
    (k.zones = [] → (∀ m ∈ c.messages, m.id = k.message → ready m = false) →
      s.cardFollow = ({ s with crawl := flagged } : State).startCards order) ∧
    (k.zones = [] → ∀ m, c.messages.find? (·.id == k.message) = some m → ready m = true →
      s.cardFollow = (({ s with crawl :=
        { flagged with
          messages := c.messages.filter (·.id != k.message)
          order := c.order.filter (· != k.message)
          strip := c.strip.filter (·.id != k.message) } } : State).raise .messageDone
            (.messageDone m.id .done m.cls m.passes true)).startCards order)

/-- The crawl queue holds at most 64 messages with distinct ids, at most 8 of them on the strip, with at least G pixels
between consecutive ones, and a message stands at most once in each list, the strip, the crawl order and the feature
order, as its state says (R191, R192, R195, section 11.2). A standing card has an outstanding zone, its level stands in
each, and its message is the head of the feature order; a message held or in the feature order has its featured-done flag
clear (R192, R198, R199). -/
def Obligations.EveryStepKeepsTheCrawl : Prop :=
  let kept (s : State) : Prop :=
    let c := s.crawl;
    c.messages.length ≤ 64 ∧ (c.messages.map (·.id)).Nodup ∧ c.strip.length ≤ 8 ∧
    (c.strip.map (·.id)).Nodup ∧ c.order.Nodup ∧ c.featureOrder.Nodup ∧
    (c.strip.Pairwise fun a b => a.x + (a.width : Int) + (c.config.gap : Int) ≤ b.x) ∧
    (∀ i ∈ c.strip, ∃ m ∈ c.messages, m.id = i.id) ∧
    (∀ id ∈ c.order, ∃ m ∈ c.messages, m.id = id ∧ m.state = .queued) ∧
    (∀ id ∈ c.featureOrder, ∃ m ∈ c.messages, m.id = id ∧ m.state ≠ .held ∧ m.cls = .featured) ∧
    ∀ m ∈ c.messages, m.state = .onAir ↔ ∃ i ∈ c.strip, i.id = m.id;
  let cards (s : State) : Prop :=
    let c := s.crawl;
    (∀ k ∈ c.card, k.zones ≠ [] ∧ c.featureOrder.head? = some k.message ∧ ∀ z ∈ k.zones, (s.standsAt z 6).isSome = true) ∧
    ∀ m ∈ c.messages, m.state = .held ∨ m.id ∈ c.featureOrder → m.featuredDone = false;
  (kept State.reset ∧ ∀ s t : State, kept s → step s = .next t → kept t) ∧
  cards State.reset ∧ ∀ s t : State, s.zonesWf → kept s → cards s → step s = .next t → cards t

/-- On a frame that showed the crawl the strip moves left by the speed, what has passed leaves it with one pass fewer to
crawl, and is done or queued again, and the head of the crawl order enters exactly G pixels behind the rightmost message,
or at the right edge, which is the width before the event where its layout gave the kept CRAWL zone another (R196); on any
other frame nothing moves (R194, R195, R199). -/
def Obligations.TheStripMovesAndFills : Prop :=
  (∀ (kept : Option Nat) (s : State), (∀ z ∈ s.crawlZone?, (s.canvas.visibility.any fun e => e.zone == z.spec.id && e.top == .base) = false) →
    s.stepCrawl kept = s) ∧
  ∀ (kept : Option Nat) (z : Zone) (s : State), s.crawlZone? = some z →
    (s.canvas.visibility.any fun e => e.zone == z.spec.id && e.top == .base) = true →
    (s.crawl.messages.map (·.id)).Nodup → (s.crawl.strip.map (·.id)).Nodup →
    (∀ i ∈ s.crawl.strip, i.id ∉ s.crawl.order ∧ ∃ m ∈ s.crawl.messages, m.id = i.id) →
    (∀ id ∈ s.crawl.order, ∃ m ∈ s.crawl.messages, m.id = id) →
    let c := s.crawl
    let v : Int := c.config.speed
    let w : Int := kept.getD z.spec.width
    let gap : Int := c.config.gap
    let moved := c.strip.map fun i => { i with x := i.x - v }
    let past (i : StripItem) : Bool := decide (i.x + i.width ≤ 0)
    let passed (m : Message) : Bool := moved.any fun i => i.id == m.id && past i
    let done (m : Message) : Bool := passed m && decide (m.repeats ≤ 1) && (m.cls == .ordinary || m.featuredDone)
    let again (i : StripItem) : Bool := past i && c.messages.any fun m => m.id == i.id && decide (2 ≤ m.repeats)
    let messages := (c.messages.filter fun m => !done m).map fun m =>
      if passed m then { m with state := .queued, passes := m.passes + 1, repeats := m.repeats - 1 } else m
    let strip := moved.filter fun i => !past i
    let order := c.order ++ (moved.filter again).map (·.id)
    let enters : Option Int := (match strip.getLast? with
      | none => some w
      | some last =>
        let tail := last.x + last.width;
        if strip.length < 8 ∧ tail ≤ w - gap then some (if w - v + 1 ≤ tail + gap then tail + gap else w) else none)
    let after : Crawl :=
      { c with
        messages := messages
        order := order
        strip := strip
        featureOrder := c.featureOrder.filter fun id => !c.messages.any fun m => m.id == id && done m }
    let t := s.stepCrawl kept;
    t.crawl = (match order, enters with
      | id :: rest, some x =>
        let text := ((c.messages.find? (·.id == id)).map (·.text)).getD []
        let width := (text.map fun b => c.config.widths.getD (b.toNat - 0x20) 0).sum;
        { after with
          messages := messages.map fun m => if m.id = id then { m with state := .onAir } else m
          order := rest
          strip := strip ++ [⟨id, x, width⟩] }
      | _, _ => after) ∧
    (∀ link, t.link link = (s.link link).occurs ((moved.filter past).flatMap fun i =>
      (c.messages.filter fun m => m.id == i.id && done m).map fun m =>
        (.messageDone, .messageDone m.id .done m.cls (m.passes + 1) m.featuredDone))) ∧
    Frame [.crawl] s t

/-! ## What is read -/

/-- CLOCK_READ: every value at one instant (R49, Table 2-4), the clock text by direction and tenths (R37), the play text
blank when disabled or, in DOWN, above V (R41), the break text only while the break runs (R42). RECORD_READ and LOG_READ
change nothing and report the record, and at most 16 entries of the log from the named entry on (R65, R66). TWIN_STATUS
changes nothing and reports the unit as it stands, the time since the last record where the loss timer runs and the event
number where a numbering runs (R83). When TWIN_STATUS gives no time and no number is the model's choice (log 13). -/
def Obligations.GameReadsReportWhatStands : Prop :=
  (∀ (h : Hdr) (s : State), s.admits h 0x1B = true →
    ∃ r : ClockReading, exec (.clockRead h) s = .next (s.replied h 0x1B .ok (.clockRead r)) ∧
      let m := s.timing
      let tenths := (m.v + 99) / 100
      let blanked := decide (m.rules.direction = .down ∧ m.v < m.play);
      (r.v = m.v ∧ r.direction = m.rules.direction ∧ r.run = m.run ∧ r.gate = m.gate ∧ r.window = m.window ∧
        r.atLimit = m.atLimit ∧ r.expiryPending = m.expiryPending ∧ r.playPending = m.playPending ∧
        r.regulation = m.regulation ∧ r.period = s.record.game.period ∧ r.play = m.play ∧
        r.playEnabled = m.playEnabled ∧ r.playRunning = decide (m.run = .running ∧ m.playEnabled = true ∧ 0 < m.play) ∧
        r.playBlanked = blanked ∧ r.brk = (if m.brkRunning then m.brkValue else 0) ∧ r.brkRunning = m.brkRunning ∧
        r.session = s.record.game.session) ∧
      r.clockText =
        (match m.rules.direction with
        | .down =>
          if 0 < m.rules.tenths ∧ tenths * 100 < m.rules.tenths then
            shortNumber (tenths / 10) ++ [0x2E#8, BitVec.ofNat 8 (0x30 + tenths % 10)]
          else minutesText ((m.v + 999) / 1000)
        | .up => minutesText (m.v / 1000)) ∧
      r.playText =
        (if m.playEnabled = false ∨ blanked = true then [0x20#8, 0x20#8] else shortNumber ((m.play + 999) / 1000)) ∧
      r.breakText = (if m.brkRunning then minutesText ((m.brkValue + 999) / 1000) else [])) ∧
  ((∀ (h : Hdr) (s : State), s.admits h 0x28 = true →
    let g := s.record.game;
    exec (.recordRead h) s = .next (s.replied h 0x28 .ok
      (.recordRead g.session g.period g.home g.guest g.possession g.fields g.config g.nextSeq g.log.length))) ∧
  ∀ (h : Hdr) (start : Nat) (s : State), s.admits h 0x29 = true →
    let g := s.record.game;
    (start ≠ 0 → (∀ e ∈ g.log, e.seq ≠ start) →
      exec (.logRead h start) s = .next (s.replied h 0x29 .notFound .none)) ∧
    ((start = 0 ∨ ∃ e ∈ g.log, e.seq = start) → ∃ skipped entries rest, g.log = skipped ++ entries ++ rest ∧
      exec (.logRead h start) s = .next (s.replied h 0x29 .ok
        (.logRead g.log.length ((g.log.head?.map (·.seq)).getD 0) g.nextSeq entries)) ∧
      (start = 0 → skipped = []) ∧ (start ≠ 0 → (∀ e ∈ skipped, e.seq ≠ start) ∧ entries.head?.map (·.seq) = some start) ∧
      entries.length ≤ 16 ∧ (entries.length < 16 → rest = []))) ∧
  (∀ (h : Hdr) (s : State), s.admits h 0x31 = true →
    let w := s.twin;
    exec (.twinStatus h) s = .next (s.replied h 0x31 .ok (.twinStatus
      ⟨w.state, w.role, w.token, w.compensation, w.lastRole, w.reason, w.decidedFollower, w.peer,
        w.lossTimer.map (1000 - ·), if w.state = .master ∨ w.state = .follower then some w.eventNo else none, w.resync,
        w.framingErrors⟩)))

/-- ZONE_QUERY, RING_STATUS, CLIP_READ, CHANNEL_STATUS, ROTATION_STATUS, EXPOSURE_READ and MSG_LIST change nothing but
their link's queues, and report what stands when they are taken, or their refusal (R122, R138, R142, R162, R178, R188,
R200). That a head whose frame lies in neither ring nor store is shown as not in the store, that MSG_LIST counts its
places from 0, and that RING_STATUS lists its readers SAVE, CHANNEL_A, CHANNEL_B, are the model's choice (log 20, log 24).
-/
def Obligations.CanvasReadsReportWhatStands : Prop :=
  let place (n : Nat) (l : List Nat) : Option Nat := if n ∈ l then some (l.idxOf n) else none;
  (∀ (h : Hdr) (zone : Nat) (s : State), s.admits h 0x46 = true →
    exec (.zoneQuery h zone) s = .next (match s.canvas.zones.find? (·.spec.id == zone) with
      | none => s.replied h 0x46 .notFound .none
      | some z =>
        let masked (l : Nat) : Bool := l != 0 && z.arb.mask.contains l
        let held (l : Nat) : Bool := l != 0 && s.timing.run == .running && policyAt z.spec.policy l != .free
        let covered (l : Nat) : Bool := z.arb.service.any fun k => decide (k.level ≤ l) && !z.arb.yielded.contains k.level;
        s.replied h 0x46 .ok (.zoneQuery
          { id := z.spec.id
            role := z.spec.role
            run := s.timing.run
            pending := z.arb.pending.map fun r => ⟨r, ownerOf r.level, masked r.level, held r.level, covered r.level⟩
            service := z.arb.service.map fun k => ⟨k, z.arb.yielded.contains k.level⟩
            mask := z.arb.mask
            yielded := z.arb.yielded
            heldLevels := (z.arb.pending.map (·.level)).filter held
            policy := z.spec.policy
            top := (match z.arb.service.find? fun k => !z.arb.yielded.contains k.level with
              | some k => .level k.level
              | none => .base)
            wouldGrant := (z.arb.pending.map (·.level)).find? fun l => !masked l && !held l }))) ∧
  (∀ (h : Hdr) (n : Nat) (s : State), s.admits h 0x4B = true →
    let i := s.input n
    let r := s.ring n
    let oldest := max (r.w - r.size) r.floor
    let reader (name : ReaderName) (a : Option Reader) : List ReaderReading :=
      ((a.filter fun k => k.input == n).map fun k => ⟨name, k.seq, k.seq - oldest, k.armed⟩).toList;
    exec (.ringStatus h n) s = .next
      (if 3 < n then s.replied h 0x4B .range .none
      else s.replied h 0x4B .ok (.ringStatus
        ⟨n, i.enabled, i.signal, i.rate, r.rate, r.size, r.w, r.floor, oldest, r.w - oldest,
          131072 - (s.capture.rings.map (·.size)).sum, thresholdFrames r.threshold, r.threshold,
          reader .save s.capture.readSave ++ reader .channelA s.capture.readA ++ reader .channelB s.capture.readB⟩))) ∧
  (∀ (h : Hdr) (id : Nat) (s : State), s.admits h 0x53 = true →
    exec (.clipRead h id) s = .next
      (if 127 < id then s.replied h 0x53 .range .none
      else match s.replay.clips.find? (·.id == id) with
        | none => s.replied h 0x53 .notFound .none
        | some c => s.replied h 0x53 .ok (.clipRead ⟨c, place id s.replay.saveQueue,
            ((s.replay.chanA.cues ++ s.replay.chanB.cues).filter (·.fields.clip == id)).length, s.freeSlots,
            s.longestRun⟩))) ∧
  (∀ (h : Hdr) (ch : Channel) (s : State), s.admits h 0x5A = true →
    let c := s.chan ch
    let reader := (match ch with | .a => s.capture.readA | .b => s.capture.readB)
    let margin := reader.map fun r => r.seq - (max ((s.ring r.input).w - (s.ring r.input).size) (s.ring r.input).floor : Nat)
    let head : Option HeadReading := (match c.cues.head? with
      | none => none
      | some e =>
        (s.replay.clips.find? (·.id == e.fields.clip)).map fun clip =>
          { pos := c.pos
            acc := c.acc
            num := e.fields.speed.natAbs * clip.rate.n * s.canvas.size.rate.d
            den := 1000 * clip.rate.d * s.canvas.size.rate.n
            passes := c.passes
            shown := c.shown
            inStore := (match clip.state with
              | .saved _ => true
              | .saving _ copied => decide (c.pos < copied)
              | _ => false)
            margin := margin });
    exec (.channelStatus h ch) s = .next (s.replied h 0x5A .ok (.channelStatus c.state c.chain head c.cues))) ∧
  (∀ (h : Hdr) (p : Nat) (s : State), s.admits h 0x68 = true →
    let g := s.program p
    let carrying := (s.canvas.zones.filter fun z =>
      z.spec.base == .rotation p || (z.spec.base == .crawl && s.crawl.config.idle == some p)).map (·.spec.id);
    exec (.rotationStatus h p) s = .next
      (if 3 < p then s.replied h 0x68 .range .none
      else s.replied h 0x68 .ok (.rotationStatus
        { program := p
          active := !carrying.isEmpty
          carrying := carrying
          mode := g.mode
          cover := g.cover
          pointer := g.pointer
          entries := g.entries.map fun e => ⟨e, (s.canvas.assets.find? (·.id == e.asset)).any (·.ready),
            e.sponsor.any fun i => (s.exposed i).fulfilled⟩
          onAir := g.onAir
          slates := g.slates
          dropped := s.rotation.featuresDropped
          features := s.rotation.features
          breakConfig := s.rotation.breakConfig
          breakRecorded := s.rotation.breakRecorded }))) ∧
  (∀ (h : Hdr) (id : Nat) (s : State), s.admits h 0x6C = true →
    exec (.exposureRead h id) s = .next
      (if 63 < id then s.replied h 0x6C .range .none
      else s.replied h 0x6C .ok (.exposureRead
        ⟨id, s.rotation.sponsors.any (·.id == id), s.exposed id, s.exposure.mask, s.exposure.tagShare⟩))) ∧
  ∀ (h : Hdr) (start : Nat) (form : ListForm) (s : State), s.admits h 0x75 = true →
    let c := s.crawl
    let limit := (match form with | .short => 32 | .text => 4)
    let width (t : Text) : Nat := (t.map fun b => c.config.widths.getD (b.toNat - 0x20) 0).sum
    let entry (m : Message) : MsgReading :=
      let item := c.strip.find? (·.id == m.id);
      ⟨m.id, m.cls, m.state, m.repeats, m.passes, m.featuredDone, place m.id c.order, place m.id c.featureOrder,
        item.map (·.x), (item.map (·.width)).getD (width m.text), if form = .text then some m.text else none⟩;
    exec (.msgList h start form) s = .next
      (if 63 < start then s.replied h 0x75 .range .none
      else s.replied h 0x75 .ok (.msgList c.messages.length (c.messages.filter (·.state == .held)).length c.strip.length
        c.order.length c.featureOrder.length c.cardsDropped (((c.messages.drop start).take limit).map entry)))
end

