-- ==== Sys2Proof/Laws/State.lean ====
section
/-! SUPPORT. What each updater of the state changes and leaves, one lemma per field and updater, so that no later proof
unfolds a record update. -/

namespace Sys2Proof.Machine

section
variable (s : State)

/-! ### mapTiming -/

@[simp] theorem mapTiming_pending (f : Timing → Timing) : (s.mapTiming f).pending = s.pending := rfl
@[simp] theorem mapTiming_due (f : Timing → Timing) : (s.mapTiming f).due = s.due := rfl
@[simp] theorem mapTiming_production (f : Timing → Timing) : (s.mapTiming f).production = s.production := rfl
@[simp] theorem mapTiming_table (f : Timing → Timing) : (s.mapTiming f).table = s.table := rfl
@[simp] theorem mapTiming_slotToTable (f : Timing → Timing) : (s.mapTiming f).slotToTable = s.slotToTable := rfl
@[simp] theorem mapTiming_slotToProduction (f : Timing → Timing) : (s.mapTiming f).slotToProduction = s.slotToProduction := rfl
@[simp] theorem mapTiming_timing (f : Timing → Timing) : (s.mapTiming f).timing = f s.timing := rfl
@[simp] theorem mapTiming_record (f : Timing → Timing) : (s.mapTiming f).record = s.record := rfl
@[simp] theorem mapTiming_twin (f : Timing → Timing) : (s.mapTiming f).twin = s.twin := rfl
@[simp] theorem mapTiming_canvas (f : Timing → Timing) : (s.mapTiming f).canvas = s.canvas := rfl
@[simp] theorem mapTiming_capture (f : Timing → Timing) : (s.mapTiming f).capture = s.capture := rfl
@[simp] theorem mapTiming_replay (f : Timing → Timing) : (s.mapTiming f).replay = s.replay := rfl
@[simp] theorem mapTiming_rotation (f : Timing → Timing) : (s.mapTiming f).rotation = s.rotation := rfl
@[simp] theorem mapTiming_exposure (f : Timing → Timing) : (s.mapTiming f).exposure = s.exposure := rfl
@[simp] theorem mapTiming_crawl (f : Timing → Timing) : (s.mapTiming f).crawl = s.crawl := rfl

/-! ### mapRecord -/

@[simp] theorem mapRecord_pending (f : GameRecord → GameRecord) : (s.mapRecord f).pending = s.pending := rfl
@[simp] theorem mapRecord_due (f : GameRecord → GameRecord) : (s.mapRecord f).due = s.due := rfl
@[simp] theorem mapRecord_production (f : GameRecord → GameRecord) : (s.mapRecord f).production = s.production := rfl
@[simp] theorem mapRecord_table (f : GameRecord → GameRecord) : (s.mapRecord f).table = s.table := rfl
@[simp] theorem mapRecord_slotToTable (f : GameRecord → GameRecord) : (s.mapRecord f).slotToTable = s.slotToTable := rfl
@[simp] theorem mapRecord_slotToProduction (f : GameRecord → GameRecord) : (s.mapRecord f).slotToProduction = s.slotToProduction := rfl
@[simp] theorem mapRecord_timing (f : GameRecord → GameRecord) : (s.mapRecord f).timing = s.timing := rfl
@[simp] theorem mapRecord_record (f : GameRecord → GameRecord) : (s.mapRecord f).record = f s.record := rfl
@[simp] theorem mapRecord_twin (f : GameRecord → GameRecord) : (s.mapRecord f).twin = s.twin := rfl
@[simp] theorem mapRecord_canvas (f : GameRecord → GameRecord) : (s.mapRecord f).canvas = s.canvas := rfl
@[simp] theorem mapRecord_capture (f : GameRecord → GameRecord) : (s.mapRecord f).capture = s.capture := rfl
@[simp] theorem mapRecord_replay (f : GameRecord → GameRecord) : (s.mapRecord f).replay = s.replay := rfl
@[simp] theorem mapRecord_rotation (f : GameRecord → GameRecord) : (s.mapRecord f).rotation = s.rotation := rfl
@[simp] theorem mapRecord_exposure (f : GameRecord → GameRecord) : (s.mapRecord f).exposure = s.exposure := rfl
@[simp] theorem mapRecord_crawl (f : GameRecord → GameRecord) : (s.mapRecord f).crawl = s.crawl := rfl

/-! ### mapTwin -/

@[simp] theorem mapTwin_pending (f : Twin → Twin) : (s.mapTwin f).pending = s.pending := rfl
@[simp] theorem mapTwin_due (f : Twin → Twin) : (s.mapTwin f).due = s.due := rfl
@[simp] theorem mapTwin_production (f : Twin → Twin) : (s.mapTwin f).production = s.production := rfl
@[simp] theorem mapTwin_table (f : Twin → Twin) : (s.mapTwin f).table = s.table := rfl
@[simp] theorem mapTwin_slotToTable (f : Twin → Twin) : (s.mapTwin f).slotToTable = s.slotToTable := rfl
@[simp] theorem mapTwin_slotToProduction (f : Twin → Twin) : (s.mapTwin f).slotToProduction = s.slotToProduction := rfl
@[simp] theorem mapTwin_timing (f : Twin → Twin) : (s.mapTwin f).timing = s.timing := rfl
@[simp] theorem mapTwin_record (f : Twin → Twin) : (s.mapTwin f).record = s.record := rfl
@[simp] theorem mapTwin_twin (f : Twin → Twin) : (s.mapTwin f).twin = f s.twin := rfl
@[simp] theorem mapTwin_canvas (f : Twin → Twin) : (s.mapTwin f).canvas = s.canvas := rfl
@[simp] theorem mapTwin_capture (f : Twin → Twin) : (s.mapTwin f).capture = s.capture := rfl
@[simp] theorem mapTwin_replay (f : Twin → Twin) : (s.mapTwin f).replay = s.replay := rfl
@[simp] theorem mapTwin_rotation (f : Twin → Twin) : (s.mapTwin f).rotation = s.rotation := rfl
@[simp] theorem mapTwin_exposure (f : Twin → Twin) : (s.mapTwin f).exposure = s.exposure := rfl
@[simp] theorem mapTwin_crawl (f : Twin → Twin) : (s.mapTwin f).crawl = s.crawl := rfl

/-! ### mapCanvas -/

@[simp] theorem mapCanvas_pending (f : Canvas → Canvas) : (s.mapCanvas f).pending = s.pending := rfl
@[simp] theorem mapCanvas_due (f : Canvas → Canvas) : (s.mapCanvas f).due = s.due := rfl
@[simp] theorem mapCanvas_production (f : Canvas → Canvas) : (s.mapCanvas f).production = s.production := rfl
@[simp] theorem mapCanvas_table (f : Canvas → Canvas) : (s.mapCanvas f).table = s.table := rfl
@[simp] theorem mapCanvas_slotToTable (f : Canvas → Canvas) : (s.mapCanvas f).slotToTable = s.slotToTable := rfl
@[simp] theorem mapCanvas_slotToProduction (f : Canvas → Canvas) : (s.mapCanvas f).slotToProduction = s.slotToProduction := rfl
@[simp] theorem mapCanvas_timing (f : Canvas → Canvas) : (s.mapCanvas f).timing = s.timing := rfl
@[simp] theorem mapCanvas_record (f : Canvas → Canvas) : (s.mapCanvas f).record = s.record := rfl
@[simp] theorem mapCanvas_twin (f : Canvas → Canvas) : (s.mapCanvas f).twin = s.twin := rfl
@[simp] theorem mapCanvas_canvas (f : Canvas → Canvas) : (s.mapCanvas f).canvas = f s.canvas := rfl
@[simp] theorem mapCanvas_capture (f : Canvas → Canvas) : (s.mapCanvas f).capture = s.capture := rfl
@[simp] theorem mapCanvas_replay (f : Canvas → Canvas) : (s.mapCanvas f).replay = s.replay := rfl
@[simp] theorem mapCanvas_rotation (f : Canvas → Canvas) : (s.mapCanvas f).rotation = s.rotation := rfl
@[simp] theorem mapCanvas_exposure (f : Canvas → Canvas) : (s.mapCanvas f).exposure = s.exposure := rfl
@[simp] theorem mapCanvas_crawl (f : Canvas → Canvas) : (s.mapCanvas f).crawl = s.crawl := rfl

/-! ### mapCapture -/

@[simp] theorem mapCapture_pending (f : Capture → Capture) : (s.mapCapture f).pending = s.pending := rfl
@[simp] theorem mapCapture_due (f : Capture → Capture) : (s.mapCapture f).due = s.due := rfl
@[simp] theorem mapCapture_production (f : Capture → Capture) : (s.mapCapture f).production = s.production := rfl
@[simp] theorem mapCapture_table (f : Capture → Capture) : (s.mapCapture f).table = s.table := rfl
@[simp] theorem mapCapture_slotToTable (f : Capture → Capture) : (s.mapCapture f).slotToTable = s.slotToTable := rfl
@[simp] theorem mapCapture_slotToProduction (f : Capture → Capture) : (s.mapCapture f).slotToProduction = s.slotToProduction := rfl
@[simp] theorem mapCapture_timing (f : Capture → Capture) : (s.mapCapture f).timing = s.timing := rfl
@[simp] theorem mapCapture_record (f : Capture → Capture) : (s.mapCapture f).record = s.record := rfl
@[simp] theorem mapCapture_twin (f : Capture → Capture) : (s.mapCapture f).twin = s.twin := rfl
@[simp] theorem mapCapture_canvas (f : Capture → Capture) : (s.mapCapture f).canvas = s.canvas := rfl
@[simp] theorem mapCapture_capture (f : Capture → Capture) : (s.mapCapture f).capture = f s.capture := rfl
@[simp] theorem mapCapture_replay (f : Capture → Capture) : (s.mapCapture f).replay = s.replay := rfl
@[simp] theorem mapCapture_rotation (f : Capture → Capture) : (s.mapCapture f).rotation = s.rotation := rfl
@[simp] theorem mapCapture_exposure (f : Capture → Capture) : (s.mapCapture f).exposure = s.exposure := rfl
@[simp] theorem mapCapture_crawl (f : Capture → Capture) : (s.mapCapture f).crawl = s.crawl := rfl

/-! ### mapReplay -/

@[simp] theorem mapReplay_pending (f : Replay → Replay) : (s.mapReplay f).pending = s.pending := rfl
@[simp] theorem mapReplay_due (f : Replay → Replay) : (s.mapReplay f).due = s.due := rfl
@[simp] theorem mapReplay_production (f : Replay → Replay) : (s.mapReplay f).production = s.production := rfl
@[simp] theorem mapReplay_table (f : Replay → Replay) : (s.mapReplay f).table = s.table := rfl
@[simp] theorem mapReplay_slotToTable (f : Replay → Replay) : (s.mapReplay f).slotToTable = s.slotToTable := rfl
@[simp] theorem mapReplay_slotToProduction (f : Replay → Replay) : (s.mapReplay f).slotToProduction = s.slotToProduction := rfl
@[simp] theorem mapReplay_timing (f : Replay → Replay) : (s.mapReplay f).timing = s.timing := rfl
@[simp] theorem mapReplay_record (f : Replay → Replay) : (s.mapReplay f).record = s.record := rfl
@[simp] theorem mapReplay_twin (f : Replay → Replay) : (s.mapReplay f).twin = s.twin := rfl
@[simp] theorem mapReplay_canvas (f : Replay → Replay) : (s.mapReplay f).canvas = s.canvas := rfl
@[simp] theorem mapReplay_capture (f : Replay → Replay) : (s.mapReplay f).capture = s.capture := rfl
@[simp] theorem mapReplay_replay (f : Replay → Replay) : (s.mapReplay f).replay = f s.replay := rfl
@[simp] theorem mapReplay_rotation (f : Replay → Replay) : (s.mapReplay f).rotation = s.rotation := rfl
@[simp] theorem mapReplay_exposure (f : Replay → Replay) : (s.mapReplay f).exposure = s.exposure := rfl
@[simp] theorem mapReplay_crawl (f : Replay → Replay) : (s.mapReplay f).crawl = s.crawl := rfl

/-! ### mapRotation -/

@[simp] theorem mapRotation_pending (f : Rotation → Rotation) : (s.mapRotation f).pending = s.pending := rfl
@[simp] theorem mapRotation_due (f : Rotation → Rotation) : (s.mapRotation f).due = s.due := rfl
@[simp] theorem mapRotation_production (f : Rotation → Rotation) : (s.mapRotation f).production = s.production := rfl
@[simp] theorem mapRotation_table (f : Rotation → Rotation) : (s.mapRotation f).table = s.table := rfl
@[simp] theorem mapRotation_slotToTable (f : Rotation → Rotation) : (s.mapRotation f).slotToTable = s.slotToTable := rfl
@[simp] theorem mapRotation_slotToProduction (f : Rotation → Rotation) : (s.mapRotation f).slotToProduction = s.slotToProduction := rfl
@[simp] theorem mapRotation_timing (f : Rotation → Rotation) : (s.mapRotation f).timing = s.timing := rfl
@[simp] theorem mapRotation_record (f : Rotation → Rotation) : (s.mapRotation f).record = s.record := rfl
@[simp] theorem mapRotation_twin (f : Rotation → Rotation) : (s.mapRotation f).twin = s.twin := rfl
@[simp] theorem mapRotation_canvas (f : Rotation → Rotation) : (s.mapRotation f).canvas = s.canvas := rfl
@[simp] theorem mapRotation_capture (f : Rotation → Rotation) : (s.mapRotation f).capture = s.capture := rfl
@[simp] theorem mapRotation_replay (f : Rotation → Rotation) : (s.mapRotation f).replay = s.replay := rfl
@[simp] theorem mapRotation_rotation (f : Rotation → Rotation) : (s.mapRotation f).rotation = f s.rotation := rfl
@[simp] theorem mapRotation_exposure (f : Rotation → Rotation) : (s.mapRotation f).exposure = s.exposure := rfl
@[simp] theorem mapRotation_crawl (f : Rotation → Rotation) : (s.mapRotation f).crawl = s.crawl := rfl

/-! ### mapExposure -/

@[simp] theorem mapExposure_pending (f : Exposure → Exposure) : (s.mapExposure f).pending = s.pending := rfl
@[simp] theorem mapExposure_due (f : Exposure → Exposure) : (s.mapExposure f).due = s.due := rfl
@[simp] theorem mapExposure_production (f : Exposure → Exposure) : (s.mapExposure f).production = s.production := rfl
@[simp] theorem mapExposure_table (f : Exposure → Exposure) : (s.mapExposure f).table = s.table := rfl
@[simp] theorem mapExposure_slotToTable (f : Exposure → Exposure) : (s.mapExposure f).slotToTable = s.slotToTable := rfl
@[simp] theorem mapExposure_slotToProduction (f : Exposure → Exposure) : (s.mapExposure f).slotToProduction = s.slotToProduction := rfl
@[simp] theorem mapExposure_timing (f : Exposure → Exposure) : (s.mapExposure f).timing = s.timing := rfl
@[simp] theorem mapExposure_record (f : Exposure → Exposure) : (s.mapExposure f).record = s.record := rfl
@[simp] theorem mapExposure_twin (f : Exposure → Exposure) : (s.mapExposure f).twin = s.twin := rfl
@[simp] theorem mapExposure_canvas (f : Exposure → Exposure) : (s.mapExposure f).canvas = s.canvas := rfl
@[simp] theorem mapExposure_capture (f : Exposure → Exposure) : (s.mapExposure f).capture = s.capture := rfl
@[simp] theorem mapExposure_replay (f : Exposure → Exposure) : (s.mapExposure f).replay = s.replay := rfl
@[simp] theorem mapExposure_rotation (f : Exposure → Exposure) : (s.mapExposure f).rotation = s.rotation := rfl
@[simp] theorem mapExposure_exposure (f : Exposure → Exposure) : (s.mapExposure f).exposure = f s.exposure := rfl
@[simp] theorem mapExposure_crawl (f : Exposure → Exposure) : (s.mapExposure f).crawl = s.crawl := rfl

/-! ### mapCrawl -/

@[simp] theorem mapCrawl_pending (f : Crawl → Crawl) : (s.mapCrawl f).pending = s.pending := rfl
@[simp] theorem mapCrawl_due (f : Crawl → Crawl) : (s.mapCrawl f).due = s.due := rfl
@[simp] theorem mapCrawl_production (f : Crawl → Crawl) : (s.mapCrawl f).production = s.production := rfl
@[simp] theorem mapCrawl_table (f : Crawl → Crawl) : (s.mapCrawl f).table = s.table := rfl
@[simp] theorem mapCrawl_slotToTable (f : Crawl → Crawl) : (s.mapCrawl f).slotToTable = s.slotToTable := rfl
@[simp] theorem mapCrawl_slotToProduction (f : Crawl → Crawl) : (s.mapCrawl f).slotToProduction = s.slotToProduction := rfl
@[simp] theorem mapCrawl_timing (f : Crawl → Crawl) : (s.mapCrawl f).timing = s.timing := rfl
@[simp] theorem mapCrawl_record (f : Crawl → Crawl) : (s.mapCrawl f).record = s.record := rfl
@[simp] theorem mapCrawl_twin (f : Crawl → Crawl) : (s.mapCrawl f).twin = s.twin := rfl
@[simp] theorem mapCrawl_canvas (f : Crawl → Crawl) : (s.mapCrawl f).canvas = s.canvas := rfl
@[simp] theorem mapCrawl_capture (f : Crawl → Crawl) : (s.mapCrawl f).capture = s.capture := rfl
@[simp] theorem mapCrawl_replay (f : Crawl → Crawl) : (s.mapCrawl f).replay = s.replay := rfl
@[simp] theorem mapCrawl_rotation (f : Crawl → Crawl) : (s.mapCrawl f).rotation = s.rotation := rfl
@[simp] theorem mapCrawl_exposure (f : Crawl → Crawl) : (s.mapCrawl f).exposure = s.exposure := rfl
@[simp] theorem mapCrawl_crawl (f : Crawl → Crawl) : (s.mapCrawl f).crawl = f s.crawl := rfl

/-! ### mapGame -/

@[simp] theorem mapGame_pending (f : RecordFields → RecordFields) : (s.mapGame f).pending = s.pending := rfl
@[simp] theorem mapGame_due (f : RecordFields → RecordFields) : (s.mapGame f).due = s.due := rfl
@[simp] theorem mapGame_production (f : RecordFields → RecordFields) : (s.mapGame f).production = s.production := rfl
@[simp] theorem mapGame_table (f : RecordFields → RecordFields) : (s.mapGame f).table = s.table := rfl
@[simp] theorem mapGame_slotToTable (f : RecordFields → RecordFields) : (s.mapGame f).slotToTable = s.slotToTable := rfl
@[simp] theorem mapGame_slotToProduction (f : RecordFields → RecordFields) : (s.mapGame f).slotToProduction = s.slotToProduction := rfl
@[simp] theorem mapGame_timing (f : RecordFields → RecordFields) : (s.mapGame f).timing = s.timing := rfl
@[simp] theorem mapGame_game (f : RecordFields → RecordFields) : (s.mapGame f).record.game = f s.record.game := rfl
@[simp] theorem mapGame_outstanding (f : RecordFields → RecordFields) : (s.mapGame f).record.outstanding = s.record.outstanding := rfl
@[simp] theorem mapGame_twin (f : RecordFields → RecordFields) : (s.mapGame f).twin = s.twin := rfl
@[simp] theorem mapGame_canvas (f : RecordFields → RecordFields) : (s.mapGame f).canvas = s.canvas := rfl
@[simp] theorem mapGame_capture (f : RecordFields → RecordFields) : (s.mapGame f).capture = s.capture := rfl
@[simp] theorem mapGame_replay (f : RecordFields → RecordFields) : (s.mapGame f).replay = s.replay := rfl
@[simp] theorem mapGame_rotation (f : RecordFields → RecordFields) : (s.mapGame f).rotation = s.rotation := rfl
@[simp] theorem mapGame_exposure (f : RecordFields → RecordFields) : (s.mapGame f).exposure = s.exposure := rfl
@[simp] theorem mapGame_crawl (f : RecordFields → RecordFields) : (s.mapGame f).crawl = s.crawl := rfl

/-! ### mapLink -/

@[simp] theorem mapLink_pending (l : Link) (f : LinkState → LinkState) : (s.mapLink l f).pending = s.pending := by cases l <;> rfl
@[simp] theorem mapLink_due (l : Link) (f : LinkState → LinkState) : (s.mapLink l f).due = s.due := by cases l <;> rfl
@[simp] theorem mapLink_slotToTable (l : Link) (f : LinkState → LinkState) : (s.mapLink l f).slotToTable = s.slotToTable := by cases l <;> rfl
@[simp] theorem mapLink_slotToProduction (l : Link) (f : LinkState → LinkState) : (s.mapLink l f).slotToProduction = s.slotToProduction := by cases l <;> rfl
@[simp] theorem mapLink_timing (l : Link) (f : LinkState → LinkState) : (s.mapLink l f).timing = s.timing := by cases l <;> rfl
@[simp] theorem mapLink_record (l : Link) (f : LinkState → LinkState) : (s.mapLink l f).record = s.record := by cases l <;> rfl
@[simp] theorem mapLink_twin (l : Link) (f : LinkState → LinkState) : (s.mapLink l f).twin = s.twin := by cases l <;> rfl
@[simp] theorem mapLink_canvas (l : Link) (f : LinkState → LinkState) : (s.mapLink l f).canvas = s.canvas := by cases l <;> rfl
@[simp] theorem mapLink_capture (l : Link) (f : LinkState → LinkState) : (s.mapLink l f).capture = s.capture := by cases l <;> rfl
@[simp] theorem mapLink_replay (l : Link) (f : LinkState → LinkState) : (s.mapLink l f).replay = s.replay := by cases l <;> rfl
@[simp] theorem mapLink_rotation (l : Link) (f : LinkState → LinkState) : (s.mapLink l f).rotation = s.rotation := by cases l <;> rfl
@[simp] theorem mapLink_exposure (l : Link) (f : LinkState → LinkState) : (s.mapLink l f).exposure = s.exposure := by cases l <;> rfl
@[simp] theorem mapLink_crawl (l : Link) (f : LinkState → LinkState) : (s.mapLink l f).crawl = s.crawl := by cases l <;> rfl
@[simp] theorem mapLink_link (l : Link) (f : LinkState → LinkState) : (s.mapLink l f).link l = f (s.link l) := by cases l <;> rfl
theorem mapLink_other (f : LinkState → LinkState) : ∀ l m : Link, l ≠ m → (s.mapLink l f).link m = s.link m
  | .production, .table, _ => rfl
  | .table, .production, _ => rfl
  | .production, .production, h => absurd rfl h
  | .table, .table, h => absurd rfl h
@[simp] theorem mapLink_mapLink (l : Link) (f g : LinkState → LinkState) :
    (s.mapLink l f).mapLink l g = s.mapLink l (g ∘ f) := by cases l <;> rfl
@[simp] theorem mapLink_production_table (f : LinkState → LinkState) : (s.mapLink .production f).table = s.table := rfl
@[simp] theorem mapLink_table_production (f : LinkState → LinkState) : (s.mapLink .table f).production = s.production := rfl
theorem mapLink_id (l : Link) (f : LinkState → LinkState) (h : f (s.link l) = s.link l) : s.mapLink l f = s := by
  cases l
  · show { s with production := f (s.link .production) } = s
    rw [h]; rfl
  · show { s with table := f (s.link .table) } = s
    rw [h]; rfl

/-! ### addDue -/

@[simp] theorem addDue_pending (e : DueEvent) : (s.addDue e).pending = s.pending := rfl
@[simp] theorem addDue_due (e : DueEvent) : (s.addDue e).due = s.due ++ [e] := rfl
@[simp] theorem addDue_production (e : DueEvent) : (s.addDue e).production = s.production := rfl
@[simp] theorem addDue_table (e : DueEvent) : (s.addDue e).table = s.table := rfl
@[simp] theorem addDue_slotToTable (e : DueEvent) : (s.addDue e).slotToTable = s.slotToTable := rfl
@[simp] theorem addDue_slotToProduction (e : DueEvent) : (s.addDue e).slotToProduction = s.slotToProduction := rfl
@[simp] theorem addDue_timing (e : DueEvent) : (s.addDue e).timing = s.timing := rfl
@[simp] theorem addDue_record (e : DueEvent) : (s.addDue e).record = s.record := rfl
@[simp] theorem addDue_twin (e : DueEvent) : (s.addDue e).twin = s.twin := rfl
@[simp] theorem addDue_canvas (e : DueEvent) : (s.addDue e).canvas = s.canvas := rfl
@[simp] theorem addDue_capture (e : DueEvent) : (s.addDue e).capture = s.capture := rfl
@[simp] theorem addDue_replay (e : DueEvent) : (s.addDue e).replay = s.replay := rfl
@[simp] theorem addDue_rotation (e : DueEvent) : (s.addDue e).rotation = s.rotation := rfl
@[simp] theorem addDue_exposure (e : DueEvent) : (s.addDue e).exposure = s.exposure := rfl
@[simp] theorem addDue_crawl (e : DueEvent) : (s.addDue e).crawl = s.crawl := rfl
@[simp] theorem addDueIf_pending (c : Bool) (e : DueEvent) : (s.addDueIf c e).pending = s.pending := by cases c <;> rfl
@[simp] theorem addDueIf_production (c : Bool) (e : DueEvent) : (s.addDueIf c e).production = s.production := by cases c <;> rfl
@[simp] theorem addDueIf_table (c : Bool) (e : DueEvent) : (s.addDueIf c e).table = s.table := by cases c <;> rfl
@[simp] theorem addDueIf_slotToTable (c : Bool) (e : DueEvent) : (s.addDueIf c e).slotToTable = s.slotToTable := by cases c <;> rfl
@[simp] theorem addDueIf_slotToProduction (c : Bool) (e : DueEvent) : (s.addDueIf c e).slotToProduction = s.slotToProduction := by cases c <;> rfl
@[simp] theorem addDueIf_timing (c : Bool) (e : DueEvent) : (s.addDueIf c e).timing = s.timing := by cases c <;> rfl
@[simp] theorem addDueIf_record (c : Bool) (e : DueEvent) : (s.addDueIf c e).record = s.record := by cases c <;> rfl
@[simp] theorem addDueIf_twin (c : Bool) (e : DueEvent) : (s.addDueIf c e).twin = s.twin := by cases c <;> rfl
@[simp] theorem addDueIf_canvas (c : Bool) (e : DueEvent) : (s.addDueIf c e).canvas = s.canvas := by cases c <;> rfl
@[simp] theorem addDueIf_capture (c : Bool) (e : DueEvent) : (s.addDueIf c e).capture = s.capture := by cases c <;> rfl
@[simp] theorem addDueIf_replay (c : Bool) (e : DueEvent) : (s.addDueIf c e).replay = s.replay := by cases c <;> rfl
@[simp] theorem addDueIf_rotation (c : Bool) (e : DueEvent) : (s.addDueIf c e).rotation = s.rotation := by cases c <;> rfl
@[simp] theorem addDueIf_exposure (c : Bool) (e : DueEvent) : (s.addDueIf c e).exposure = s.exposure := by cases c <;> rfl
@[simp] theorem addDueIf_crawl (c : Bool) (e : DueEvent) : (s.addDueIf c e).crawl = s.crawl := by cases c <;> rfl

/-! ### raise -/

@[simp] theorem raise_pending (c : Cond) (d : Detail) : (s.raise c d).pending = s.pending := rfl
@[simp] theorem raise_due (c : Cond) (d : Detail) : (s.raise c d).due = s.due := rfl
@[simp] theorem raise_production (c : Cond) (d : Detail) : (s.raise c d).production = s.production.occur c d := rfl
@[simp] theorem raise_table (c : Cond) (d : Detail) : (s.raise c d).table = s.table.occur c d := rfl
@[simp] theorem raise_slotToTable (c : Cond) (d : Detail) : (s.raise c d).slotToTable = s.slotToTable := rfl
@[simp] theorem raise_slotToProduction (c : Cond) (d : Detail) : (s.raise c d).slotToProduction = s.slotToProduction := rfl
@[simp] theorem raise_timing (c : Cond) (d : Detail) : (s.raise c d).timing = s.timing := rfl
@[simp] theorem raise_record (c : Cond) (d : Detail) : (s.raise c d).record = s.record := rfl
@[simp] theorem raise_twin (c : Cond) (d : Detail) : (s.raise c d).twin = s.twin := rfl
@[simp] theorem raise_canvas (c : Cond) (d : Detail) : (s.raise c d).canvas = s.canvas := rfl
@[simp] theorem raise_capture (c : Cond) (d : Detail) : (s.raise c d).capture = s.capture := rfl
@[simp] theorem raise_replay (c : Cond) (d : Detail) : (s.raise c d).replay = s.replay := rfl
@[simp] theorem raise_rotation (c : Cond) (d : Detail) : (s.raise c d).rotation = s.rotation := rfl
@[simp] theorem raise_exposure (c : Cond) (d : Detail) : (s.raise c d).exposure = s.exposure := rfl
@[simp] theorem raise_crawl (c : Cond) (d : Detail) : (s.raise c d).crawl = s.crawl := rfl
@[simp] theorem raise_link (c : Cond) (d : Detail) (l : Link) : (s.raise c d).link l = (s.link l).occur c d := by cases l <;> rfl

/-! ### sendTwin -/

@[simp] theorem sendTwin_pending (r : TwinRecord) : (s.sendTwin r).pending = s.pending := rfl
@[simp] theorem sendTwin_due (r : TwinRecord) : (s.sendTwin r).due = s.due := rfl
@[simp] theorem sendTwin_production (r : TwinRecord) : (s.sendTwin r).production = s.production := rfl
@[simp] theorem sendTwin_table (r : TwinRecord) : (s.sendTwin r).table = s.table := rfl
@[simp] theorem sendTwin_slotToTable (r : TwinRecord) : (s.sendTwin r).slotToTable = s.slotToTable := rfl
@[simp] theorem sendTwin_slotToProduction (r : TwinRecord) : (s.sendTwin r).slotToProduction = s.slotToProduction := rfl
@[simp] theorem sendTwin_timing (r : TwinRecord) : (s.sendTwin r).timing = s.timing := rfl
@[simp] theorem sendTwin_record (r : TwinRecord) : (s.sendTwin r).record = s.record := rfl
@[simp] theorem sendTwin_twin (r : TwinRecord) : (s.sendTwin r).twin = { s.twin with out := s.twin.out ++ [r] } := rfl
@[simp] theorem sendTwin_canvas (r : TwinRecord) : (s.sendTwin r).canvas = s.canvas := rfl
@[simp] theorem sendTwin_capture (r : TwinRecord) : (s.sendTwin r).capture = s.capture := rfl
@[simp] theorem sendTwin_replay (r : TwinRecord) : (s.sendTwin r).replay = s.replay := rfl
@[simp] theorem sendTwin_rotation (r : TwinRecord) : (s.sendTwin r).rotation = s.rotation := rfl
@[simp] theorem sendTwin_exposure (r : TwinRecord) : (s.sendTwin r).exposure = s.exposure := rfl
@[simp] theorem sendTwin_crawl (r : TwinRecord) : (s.sendTwin r).crawl = s.crawl := rfl

/-! ### setSlot -/

@[simp] theorem setSlot_pending (k : Slot) (t : Option Text) : (s.setSlot k t).pending = s.pending := by cases k <;> rfl
@[simp] theorem setSlot_due (k : Slot) (t : Option Text) : (s.setSlot k t).due = s.due := by cases k <;> rfl
@[simp] theorem setSlot_production (k : Slot) (t : Option Text) : (s.setSlot k t).production = s.production := by cases k <;> rfl
@[simp] theorem setSlot_table (k : Slot) (t : Option Text) : (s.setSlot k t).table = s.table := by cases k <;> rfl
@[simp] theorem setSlot_timing (k : Slot) (t : Option Text) : (s.setSlot k t).timing = s.timing := by cases k <;> rfl
@[simp] theorem setSlot_record (k : Slot) (t : Option Text) : (s.setSlot k t).record = s.record := by cases k <;> rfl
@[simp] theorem setSlot_twin (k : Slot) (t : Option Text) : (s.setSlot k t).twin = s.twin := by cases k <;> rfl
@[simp] theorem setSlot_canvas (k : Slot) (t : Option Text) : (s.setSlot k t).canvas = s.canvas := by cases k <;> rfl
@[simp] theorem setSlot_capture (k : Slot) (t : Option Text) : (s.setSlot k t).capture = s.capture := by cases k <;> rfl
@[simp] theorem setSlot_replay (k : Slot) (t : Option Text) : (s.setSlot k t).replay = s.replay := by cases k <;> rfl
@[simp] theorem setSlot_rotation (k : Slot) (t : Option Text) : (s.setSlot k t).rotation = s.rotation := by cases k <;> rfl
@[simp] theorem setSlot_exposure (k : Slot) (t : Option Text) : (s.setSlot k t).exposure = s.exposure := by cases k <;> rfl
@[simp] theorem setSlot_crawl (k : Slot) (t : Option Text) : (s.setSlot k t).crawl = s.crawl := by cases k <;> rfl
@[simp] theorem setSlot_slot (k : Slot) (t : Option Text) : (s.setSlot k t).slot k = t := by cases k <;> rfl

/-! ### Arrivals of occurrences on a link -/

variable (l : LinkState) (c : Cond) (d : Detail)

@[simp] theorem occur_lineRate : (l.occur c d).lineRate = l.lineRate := rfl
@[simp] theorem occur_rx : (l.occur c d).rx = l.rx := rfl
@[simp] theorem occur_inbound : (l.occur c d).inbound = l.inbound := rfl
@[simp] theorem occur_waiting : (l.occur c d).waiting = l.waiting := rfl
@[simp] theorem occur_replies : (l.occur c d).replies = l.replies := rfl
@[simp] theorem occur_subs : (l.occur c d).subs = l.subs := rfl
@[simp] theorem occur_framingErrors : (l.occur c d).framingErrors = l.framingErrors := rfl
@[simp] theorem occur_lastSent : (l.occur c d).lastSent = l.lastSent := rfl
@[simp] theorem occur_length : (l.occur c d).table.length = l.table.length := by simp [LinkState.occur]

end

end Sys2Proof.Machine
end

