-- ==== Sys2Proof/Laws/Frames.lean ====
section
/-! SUPPORT. What each shared operation can change: one frame lemma per operation, each with the parts it may change. -/

namespace Sys2Proof.Machine

/-! ## Occurrences -/

theorem occurs_append (l : LinkState) (a b : List (Cond × Detail)) : l.occurs (a ++ b) = (l.occurs a).occurs b := by
  simp [LinkState.occurs]

/-- A field that no occurrence touches. -/
theorem occurs_keeps {α : Type} (f : LinkState → α) (hf : ∀ l c d, f (LinkState.occur c d l) = f l) (l : LinkState)
    (es : List (Cond × Detail)) : f (l.occurs es) = f l := by
  induction es generalizing l with
  | nil => rfl
  | cons e es ih => exact (ih _).trans (hf l e.1 e.2)

theorem OnlyRaises.refl (s : State) : OnlyRaises s s := ⟨[], rfl, rfl⟩

theorem OnlyRaises.trans {s t u : State} : OnlyRaises s t → OnlyRaises t u → OnlyRaises s u
  | ⟨a, ha, hb⟩, ⟨b, hc, hd⟩ => ⟨a ++ b, by rw [hc, ha, occurs_append], by rw [hd, hb, occurs_append]⟩

theorem OnlyRaises.raise (s : State) (c : Cond) (d : Detail) : OnlyRaises s (s.raise c d) := ⟨[(c, d)], rfl, rfl⟩

/-- What a run of occurrences leaves of either link. -/
theorem OnlyRaises.keeps {α : Type} (f : LinkState → α) (hf : ∀ l c d, f (LinkState.occur c d l) = f l) {s t : State}
    (h : OnlyRaises s t) (l : Link) : f (t.link l) = f (s.link l) := by
  obtain ⟨es, h1, h2⟩ := h
  cases l
  · exact (congrArg f h1).trans (occurs_keeps f hf _ es)
  · exact (congrArg f h2).trans (occurs_keeps f hf _ es)

/-! ## Frames -/

theorem samePart.refl (s : State) (p : Part) : samePart s s p := by cases p <;> simp [samePart]

theorem samePart.trans {s t u : State} {p : Part} (h : samePart s t p) (k : samePart t u p) : samePart s u p := by
  cases p <;> simp_all [samePart]

theorem Frame.refl (P : List Part) (s : State) : Frame P s s := ⟨rfl, rfl, .refl s, fun p _ => .refl s p⟩

/-- One operation after others; its parts are among theirs. -/
theorem Frame.next {P Q : List Part} {s t u : State} (h : Frame P s t) (k : Frame Q t u)
    (hQ : Q.all (fun p => P.contains p) = true := by decide) : Frame P s u where
  pending := k.pending.trans h.pending
  due := k.due.trans h.due
  links := h.links.trans k.links
  same p hp := (h.same p hp).trans (k.same p fun hq => hp (by simpa using List.all_eq_true.mp hQ p hq))

theorem Frame.mono {P Q : List Part} {s t : State} (k : Frame Q s t)
    (hQ : Q.all (fun p => P.contains p) = true := by decide) : Frame P s t := (Frame.refl P s).next k hQ

theorem Frame.foldl {α : Type} {P : List Part} (f : State → α → State) (hf : ∀ s a, Frame P s (f s a)) (l : List α)
    (s : State) : Frame P s (l.foldl f s) := by
  induction l generalizing s with
  | nil => exact .refl P s
  | cons a l ih => exact (hf s a).next (ih _) (by simp)

/-- An operation made only where a condition holds. -/
theorem Frame.ite {P : List Part} {s t u : State} {c : Prop} [Decidable c] (ht : Frame P s t) (hu : Frame P s u) :
    Frame P s (if c then t else u) := by
  split
  · exact ht
  · exact hu

theorem raise_frame (s : State) (c : Cond) (d : Detail) : Frame [] s (s.raise c d) :=
  ⟨rfl, rfl, .raise s c d, fun p _ => by cases p <;> simp [samePart]⟩

/-- An update that leaves queues and links, with the parts it leaves. -/
theorem Frame.update {P : List Part} {s t : State} (hq : t.pending = s.pending ∧ t.due = s.due)
    (hl : t.production = s.production ∧ t.table = s.table) (hs : ∀ p, p ∉ P → samePart s t p) : Frame P s t :=
  ⟨hq.1, hq.2, ⟨[], hl.1, hl.2⟩, hs⟩

end Sys2Proof.Machine
end

