-- ==== Sys2Proof/Laws/UnitFrames.lean ====
section
/-! SUPPORT. Frame lemmas of the replay, capture, rotation, exposure and crawl units' own operations. -/

namespace Sys2Proof.Machine

-- one proof after another: elaborated together they wait for each other, each in a thread with a stack of its own
set_option Elab.async false

variable (s : State)

/-! ## Updaters -/

theorem mapRing_frame (n : Nat) (f : Ring → Ring) : Frame [.rings] s (s.mapRing n f) :=
  .update ⟨rfl, rfl⟩ ⟨rfl, rfl⟩ fun p hp => by cases p <;> simp_all [samePart, State.mapRing]

theorem mapInput_frame (n : Nat) (f : Input → Input) : Frame [.inputs] s (s.mapInput n f) :=
  .update ⟨rfl, rfl⟩ ⟨rfl, rfl⟩ fun p hp => by cases p <;> simp_all [samePart, State.mapInput]

theorem mapChan_frame (ch : Channel) (f : Chan → Chan) : Frame [.channels] s (s.mapChan ch f) := by
  cases ch <;> exact .update ⟨rfl, rfl⟩ ⟨rfl, rfl⟩ fun p hp => by cases p <;> simp_all [samePart, State.mapChan]

theorem mapClip_frame (id : Nat) (f : Clip → Clip) : Frame [.clips] s (s.mapClip id f) :=
  .update ⟨rfl, rfl⟩ ⟨rfl, rfl⟩ fun p hp => by cases p <;> simp_all [samePart, State.mapClip]

theorem setReader_frame (name : ReaderName) (r : Option Reader) : Frame [.readers] s (s.setReader name r) := by
  cases name <;> exact .update ⟨rfl, rfl⟩ ⟨rfl, rfl⟩ fun p hp => by cases p <;> simp_all [samePart, State.setReader]

theorem mapExposure_frame (f : Exposure → Exposure) : Frame [.exposure] s (s.mapExposure f) :=
  .update ⟨rfl, rfl⟩ ⟨rfl, rfl⟩ fun p hp => by cases p <;> simp_all [samePart]

theorem mapProgram_frame (n : Nat) (f : Program → Program) : Frame [.programs] s (s.mapProgram n f) :=
  .update ⟨rfl, rfl⟩ ⟨rfl, rfl⟩ fun p hp => by cases p <;> simp_all [samePart, State.mapProgram]

theorem mapMessage_frame (id : Nat) (f : Message → Message) : Frame [.crawl] s (s.mapMessage id f) :=
  .update ⟨rfl, rfl⟩ ⟨rfl, rfl⟩ fun p hp => by cases p <;> simp_all [samePart, State.mapMessage]

theorem mapCrawl_frame (f : Crawl → Crawl) (hf : ∀ c, (f c).config = c.config) : Frame [.crawl] s (s.mapCrawl f) :=
  .update ⟨rfl, rfl⟩ ⟨rfl, rfl⟩ fun p hp => by cases p <;> simp_all [samePart]

theorem saveQueue_frame (f : List Nat → List Nat) :
    Frame [.clips] s (s.mapReplay fun r => { r with saveQueue := f r.saveQueue }) :=
  .update ⟨rfl, rfl⟩ ⟨rfl, rfl⟩ fun p hp => by cases p <;> simp_all [samePart]

/-! ## Readers and clips -/

theorem testReader_frame (name : ReaderName) : Frame [.readers] s (s.testReader name) := by
  unfold State.testReader
  split
  · exact .refl _ s
  · dsimp only
    split
    · split
      · exact (setReader_frame s name _).next (raise_frame _ _ _)
      · exact .refl _ s
    · split
      · exact setReader_frame s name _
      · exact .refl _ s

theorem attachReader_frame (name : ReaderName) (r : Reader) : Frame [.readers] s (s.attachReader name r) := by
  unfold State.attachReader
  split
  · exact (setReader_frame s name _).next (testReader_frame _ name)
  · exact .refl _ s

theorem syncReader_frame (name : ReaderName) (want : Option Reader) : Frame [.readers] s (s.syncReader name want) := by
  unfold State.syncReader
  split
  · exact .refl _ s
  · exact setReader_frame s name _
  · exact attachReader_frame s name _
  · split
    · exact (setReader_frame s name _).next (testReader_frame _ name)
    · exact (setReader_frame s name _).next (attachReader_frame _ name _)

theorem syncReaders_frame : Frame [.readers] s s.syncReaders :=
  ((syncReader_frame s _ _).next (syncReader_frame _ _ _)).next (syncReader_frame _ _ _)

theorem loseClip_frame (cause : ClipCause) (seq : Option Nat) (c : Clip) :
    Frame [.clips] s (s.loseClip cause seq c) :=
  ((mapClip_frame s _ _).next (saveQueue_frame _ _)).next (raise_frame _ _ _)

theorem overwriteReport_frame (input seq : Nat) : Frame [.clips] s (s.overwriteReport input seq) :=
  Frame.foldl _ (fun s c => by split; exacts [loseClip_frame s _ _ _, .refl _ s]) _ s

theorem disarm_frame (input : Nat) : Frame [.readers] s (s.mapCapture fun c =>
    { c with readSave := disarm input c.readSave, readA := disarm input c.readA, readB := disarm input c.readB }) :=
  .update ⟨rfl, rfl⟩ ⟨rfl, rfl⟩ fun p hp => by cases p <;> simp_all [samePart]

theorem captureRestart_frame (n : Nat) : Frame [.rings, .readers, .clips] s (s.captureRestart n) :=
  (((Frame.mono (mapRing_frame s _ _)).next (disarm_frame _ n)).next
    (Frame.foldl (P := [.clips]) _ (fun s c => loseClip_frame s _ _ c) _ _)).next (syncReaders_frame _)

/-! ## Cue entries -/

theorem placeHead_frame (ch : Channel) : Frame [.channels] s (s.placeHead ch) := mapChan_frame s ch _

theorem loadHead_frame (ch : Channel) : Frame [.channels, .readers] s (s.loadHead ch) :=
  (Frame.mono (placeHead_frame s ch)).next (syncReaders_frame _)

theorem cutCues_frame (ch : Channel) (f : List Cue → List Cue) : Frame [.channels, .readers] s (s.cutCues ch f) :=
  ((Frame.mono (mapChan_frame s ch _)).next (placeHead_frame _ ch)).next (setReader_frame _ _ _)

/-- RESTART raises nothing as it takes a channel's cues (R139). -/
theorem cutCues_links (ch : Channel) (f : List Cue → List Cue) :
    (s.cutCues ch f).production = s.production ∧ (s.cutCues ch f).table = s.table := by
  cases ch <;> exact ⟨rfl, rfl⟩

theorem raiseChannel_frame (ch : Channel) (e : Cue) (o : CueOutcome) (pos : Int) (a b : Nat) :
    Frame [] s (s.raiseChannel ch e o pos a b) := raise_frame s _ _

theorem leaveHead_frame (ch : Channel) : Frame [.channels, .readers] s (s.leaveHead ch) :=
  (Frame.mono (mapChan_frame s ch _)).next (setReader_frame _ _ _)

theorem popHead_frame (ch : Channel) : Frame [.channels, .readers] s (s.popHead ch) :=
  (leaveHead_frame s ch).next (loadHead_frame _ ch)

theorem endEntry_frame (ch : Channel) (o : CueOutcome) : Frame [.channels, .readers] s (s.endEntry ch o) := by
  unfold State.endEntry
  split
  · exact .refl _ s
  · exact (Frame.ite (cutCues_frame s ch _) (popHead_frame s ch)).next (raiseChannel_frame _ _ _ _ _ _ _)

/-! ## Exposure and rotation -/

theorem mapExposed_frame (id : Nat) (f : Exposed → Exposed) : Frame [.exposure] s (s.mapExposed id f) :=
  mapExposure_frame s _

theorem tellStart_frame (e : RotEntry) : Frame [.exposure] s (s.tellStart e) := by
  unfold State.tellStart
  split
  · exact mapExposed_frame s _ _
  · exact .refl _ s

theorem tellEnd_frame (e : RotEntry) (short : Bool) : Frame [.exposure] s (s.tellEnd e short) := by
  unfold State.tellEnd
  split
  · split
    · exact mapExposed_frame s _ _
    · exact .refl _ s
  · exact .refl _ s

theorem testMilestone_frame (id : Nat) (m : Milestone) : Frame [.exposure] s (s.testMilestone id m) := by
  unfold State.testMilestone
  split
  · split
    · exact (mapExposed_frame s _ _).next (raise_frame _ _ _)
    · exact .refl _ s
  · exact .refl _ s

theorem testMilestones_frame (id : Nat) : Frame [.exposure] s (s.testMilestones id) :=
  ((testMilestone_frame s _ _).next (testMilestone_frame _ _ _)).next (testMilestone_frame _ _ _)

theorem setQuota_frame (id : Nat) (q : Option Nat) : Frame [.exposure] s (s.setQuota id q) := by
  unfold State.setQuota
  split
  · exact mapExposed_frame s _ _
  · dsimp only
    split
    · exact (mapExposed_frame s _ _).next (raise_frame _ _ _)
    · exact mapExposed_frame s _ _

theorem clearExposure_frame : Frame [.exposure] s s.clearExposure := mapExposure_frame s _

theorem raiseSkipped_frame (p : Nat) (e : RotEntry) : Frame [] s (s.raiseSkipped p e) := by
  unfold State.raiseSkipped
  split
  · exact raise_frame s _ _
  · exact .refl _ s

theorem startEntry_frame (p : Nat) (e : RotEntry) : Frame [.programs, .exposure] s (s.startEntry p e) :=
  (Frame.mono (mapProgram_frame s p _)).next (tellStart_frame _ e)

theorem startSlate_frame (p : Nat) : Frame [.programs] s (s.startSlate p) :=
  (mapProgram_frame s p _).next (raise_frame _ _ _)

theorem select_frame (p : Nat) : Frame [.programs, .exposure] s (s.select p) := by
  have h : Frame [.programs, .exposure] s
      ((s.examined (s.program p).candidates).foldl (fun s e => s.raiseSkipped p e) s) :=
    Frame.mono (Frame.foldl (P := []) _ (fun s e => raiseSkipped_frame s p e) _ s)
  unfold State.select
  dsimp only
  split
  · exact h.next (startEntry_frame _ p _)
  · exact h.next (startSlate_frame _ p)

theorem closeAppearance_frame (p : Nat) (moves : Bool) (a : Appearance) :
    Frame [.programs, .exposure] s (s.closeAppearance p moves a) := by
  unfold State.closeAppearance
  dsimp only
  split
  · exact (Frame.mono (tellEnd_frame s _ _)).next (mapProgram_frame _ p _)
  · exact Frame.mono (mapProgram_frame s p _)

theorem endAppearance_frame (p : Nat) : Frame [.programs, .exposure] s (s.endAppearance p) := by
  unfold State.endAppearance
  split
  · exact .refl _ s
  · dsimp only
    split
    · exact (closeAppearance_frame s p _ _).next (select_frame _ p)
    · exact closeAppearance_frame s p _ _

theorem dropAppearance_frame (p : Nat) : Frame [.programs, .exposure] s (s.dropAppearance p) := by
  unfold State.dropAppearance
  split
  · exact .refl _ s
  · exact closeAppearance_frame s p _ _

theorem activityChanged_frame (before : List Nat) : Frame [.programs, .exposure] s (s.activityChanged before) :=
  Frame.foldl _ (fun s p => by
    split
    · split
      · exact .refl _ s
      · exact endAppearance_frame s p
    · split
      · exact select_frame s p
      · exact .refl _ s) _ s

/-! ## Crawl -/

theorem removeMessage_frame (id : Nat) : Frame [.crawl] s (s.removeMessage id) := mapCrawl_frame s _ fun _ => by rfl

theorem finishMessage_frame (cause : DoneCause) (m : Message) : Frame [.crawl] s (s.finishMessage cause m) :=
  (removeMessage_frame s _).next (raise_frame _ _ _)

/-- The step that a done card and a message leaving the strip share. -/
theorem markMessage_frame (id : Nat) (g : Message → Message) (f : Crawl → Crawl) (hf : ∀ c, (f c).config = c.config) :
    Frame [.crawl] s ((s.mapMessage id g).mapCrawl f) := (mapMessage_frame s id g).next (mapCrawl_frame _ f hf)

theorem finishCard_frame (id : Nat) : Frame [.crawl] s (s.finishCard id) := by
  unfold State.finishCard
  dsimp only
  split
  · split
    · exact (markMessage_frame s id _ _ fun _ => by rfl).next (finishMessage_frame _ _ _)
    · exact markMessage_frame s id _ _ fun _ => by rfl
  · exact markMessage_frame s id _ _ fun _ => by rfl

theorem leaveStrip_frame (id : Nat) : Frame [.crawl] s (s.leaveStrip id) := by
  unfold State.leaveStrip
  dsimp only
  split
  · split
    · exact (markMessage_frame s id _ _ fun _ => by rfl).next (mapCrawl_frame _ _ fun _ => by rfl)
    · split
      · exact (markMessage_frame s id _ _ fun _ => by rfl).next (finishMessage_frame _ _ _)
      · exact markMessage_frame s id _ _ fun _ => by rfl
  · exact markMessage_frame s id _ _ fun _ => by rfl

theorem moveStrip_frame : Frame [.crawl] s s.moveStrip :=
  (mapCrawl_frame s _ fun _ => by rfl).next (Frame.foldl _ (fun s (i : StripItem) => leaveStrip_frame s i.id) _ _)

theorem enterStrip_frame (w : Nat) : Frame [.crawl] s (s.enterStrip w) := by
  unfold State.enterStrip
  split
  · split
    · exact (mapMessage_frame s _ _).next (mapCrawl_frame _ _ fun _ => by rfl)
    · exact .refl _ s
  · exact .refl _ s

theorem clearStrip_frame : Frame [.crawl] s s.clearStrip := mapCrawl_frame s _ fun _ => by rfl

end Sys2Proof.Machine
end

