-- ==== Sys2Proof/Laws/ArbiterFrames.lean ====
section
/-! SUPPORT. Frame lemmas of the arbiter's shared operations: grants, requests, ends, rolls and features. -/

namespace Sys2Proof.Machine

-- one proof after another: elaborated together they wait for each other, each in a thread with a stack of its own
set_option Elab.async false

variable (s : State)

/-! ## Grants and requests -/

theorem mapZone_frame (id : Nat) (f : Zone → Zone) : Frame [.zones] s (s.mapZone id f) :=
  .update ⟨rfl, rfl⟩ ⟨rfl, rfl⟩ fun p hp => by cases p <;> simp_all [samePart, State.mapZone]

theorem mapArb_frame (id : Nat) (f : ZoneArb → ZoneArb) : Frame [.zones] s (s.mapArb id f) := mapZone_frame s id _

theorem noteGrant_frame (zone level : Nat) : Frame [.channels] s (s.noteGrant zone level) := by
  unfold State.noteGrant
  split
  · split
    · exact mapChan_frame s _ _
    · exact .refl _ s
  · exact .refl _ s

theorem evaluate_frame (zone : Nat) : Frame [.zones, .channels] s (s.evaluate zone) := by
  unfold State.evaluate
  split
  · exact (Frame.mono (mapArb_frame s _ _)).next (noteGrant_frame _ _ _)
  · exact .refl _ s

theorem evaluateAll_frame (zones : List Nat) : Frame [.zones, .channels] s (s.evaluateAll zones) :=
  Frame.foldl _ (fun s z => evaluate_frame s z) _ s

theorem request_frame (zone : Nat) (r : Request) (b : Bool) : Frame [.zones, .channels] s (s.request zone r b).1 := by
  have h (f : ZoneArb → ZoneArb) : Frame [.zones, .channels] s (s.mapArb zone f) := .mono (mapArb_frame s zone f)
  unfold State.request
  split
  · exact .refl _ s
  · split
    · split
      · exact h _
      · exact .refl _ s
    · split
      · split
        · exact (h _).next (evaluate_frame _ _)
        · exact .refl _ s
      · dsimp only
        split <;> exact (h _).next (evaluate_frame _ _)

theorem requestAll_frame (r : Request) (b : Bool) (zones : List Nat) :
    Frame [.zones, .channels] s (s.requestAll r b zones).1 := by
  suffices h : ∀ (zs : List Nat) (acc : State × List Nat), Frame [.zones, .channels] s acc.1 →
      Frame [.zones, .channels] s (zs.foldl (fun acc z =>
        let (s, a) := acc.1.request z r b
        (s, if a.joins then acc.2 ++ [z] else acc.2)) acc).1 from h zones (s, []) (.refl _ s)
  intro zs
  induction zs with
  | nil => exact fun _ h => h
  | cons z zs ih => exact fun acc h => ih _ (h.next (request_frame acc.1 z r b))

theorem mapFeatures_frame (f : Rotation → Rotation)
    (hf : ∀ r, (f r).sponsors = r.sponsors ∧ (f r).breakConfig = r.breakConfig ∧ (f r).programs = r.programs) :
    Frame [.features] s (s.mapRotation f) :=
  .update ⟨rfl, rfl⟩ ⟨rfl, rfl⟩ fun p hp => by cases p <;> simp_all [samePart]

theorem startFeatures_frame (fs : List Feature) : Frame [.zones, .channels, .features] s (s.startFeatures fs) := by
  induction fs generalizing s with
  | nil => exact .mono (mapFeatures_frame s _ fun _ => by simp)
  | cons f fs ih =>
    unfold State.startFeatures
    dsimp only
    have h : Frame [.zones, .channels, .features] s _ := .mono (requestAll_frame s
      ⟨5, .asset f.asset, some (s.toFrames f.duration), some f.sponsor⟩ false (s.resolveZones f.zones))
    split
    · exact (h.next (mapFeatures_frame _ _ fun _ => by simp)).next (ih _)
    · exact h.next (mapFeatures_frame _ _ fun _ => by simp)

theorem featureFollow_frame : Frame [.zones, .channels, .features] s s.featureFollow := by
  unfold State.featureFollow
  split
  · split
    · exact startFeatures_frame s _
    · exact .refl _ s
  · exact .refl _ s

theorem startCards_frame (ids : List Nat) : Frame [.zones, .channels, .crawl] s (s.startCards ids) := by
  induction ids generalizing s with
  | nil => exact .mono (mapCrawl_frame s _ fun _ => by rfl)
  | cons id ids ih =>
    unfold State.startCards
    dsimp only
    have h : Frame [.zones, .channels, .crawl] s _ := .mono (requestAll_frame s
      ⟨6, .card id, some (s.toFrames s.crawl.config.duration), none⟩ false (s.resolveZones s.crawl.config.zones.ids))
    split
    · exact ((h.next (mapCrawl_frame _ _ fun _ => by rfl)).next (finishCard_frame _ _)).next (ih _)
    · exact h.next (mapCrawl_frame _ _ fun _ => by rfl)

theorem cardFollow_frame : Frame [.zones, .channels, .crawl] s s.cardFollow := by
  unfold State.cardFollow
  split
  · split
    · exact ((Frame.mono (mapCrawl_frame s _ fun _ => by rfl)).next (finishCard_frame _ _)).next (startCards_frame _ _)
    · exact .refl _ s
  · exact .refl _ s

theorem followUps_frame : Frame [.zones, .channels, .features, .crawl] s s.followUps :=
  (Frame.mono (featureFollow_frame s)).next (cardFollow_frame _)

/-! ## Ends -/

theorem phase_frame (f : Timing → Timing)
    (hf : ∀ t, { f t with phase := .idle, outstanding := [] } = { t with phase := .idle, outstanding := [] }) :
    Frame [.phase] s (s.mapTiming f) :=
  .update ⟨rfl, rfl⟩ ⟨rfl, rfl⟩ fun p hp => by
    have h := hf s.timing
    cases p <;> simp_all [samePart]

theorem levelTwo_frame (f : GameRecord → GameRecord) (hf : ∀ r, (f r).game = r.game) :
    Frame [.levelTwo] s (s.mapRecord f) :=
  .update ⟨rfl, rfl⟩ ⟨rfl, rfl⟩ fun p hp => by cases p <;> simp_all [samePart]

theorem channelEnded_frame (ch : Channel) (zone : Nat) (o : Outcome) :
    Frame [.channels, .readers] s (s.channelEnded ch zone o) := by
  unfold State.channelEnded
  split
  · split
    · exact endEntry_frame s _ _
    · exact .refl _ s
  · exact .refl _ s

theorem tellOwner_frame (zone level : Nat) (o : Outcome) : Frame endParts s (s.tellOwner zone level o) := by
  unfold State.tellOwner
  split
  · exact .mono (phase_frame s _ fun _ => by rfl)
  · exact .mono (levelTwo_frame s _ fun _ => by rfl)
  · exact .mono (channelEnded_frame s _ _ _)
  · exact .mono (channelEnded_frame s _ _ _)
  · exact .mono (mapFeatures_frame s _ fun _ => by simp [Rotation.levelEnded])
  · exact .mono (mapCrawl_frame s _ fun _ => by rfl)
  · exact .refl _ s

theorem endOne_frame (o : Outcome) (zone level : Nat) : Frame endParts s (s.endOne o zone level) := by
  unfold State.endOne
  split
  · exact ((Frame.mono (mapArb_frame s _ _)).next (raise_frame _ _ _)).next (tellOwner_frame _ _ _ _)
  · exact .refl _ s

theorem endEach_frame (o : Outcome) (items : List (Nat × Nat)) : Frame endParts s (s.endEach o items) :=
  Frame.foldl _ (fun s (i : Nat × Nat) => endOne_frame s o i.1 i.2) _ s

theorem endAll_frame (o : Outcome) (items : List (Nat × Nat)) : Frame endParts s (s.endAll o items) :=
  ((endEach_frame s o items).next (evaluateAll_frame _ _)).next (followUps_frame _)

theorem release_frame (zone level : Nat) : Frame endParts s (s.release zone level) := by
  unfold State.release
  split
  · exact endAll_frame s _ _
  · exact .refl _ s

theorem arbiterStart_frame : Frame endParts s s.arbiterStart :=
  ((endEach_frame s _ _).next (evaluateAll_frame _ _)).next (followUps_frame _)

theorem arbiterStop_frame : Frame [.zones, .channels] s s.arbiterStop := evaluateAll_frame s _

theorem arbiterRestart_frame : Frame endParts s s.arbiterRestart :=
  ((endEach_frame s _ _).next (evaluateAll_frame _ _)).next (followUps_frame _)

/-! ## Rolls and entries -/

theorem dropHead_frame (ch : Channel) (e : Cue) (o : CueOutcome) : Frame [.channels, .readers] s (s.dropHead ch e o) :=
  ((leaveHead_frame s ch).next (raiseChannel_frame _ _ _ _ _ _ _)).next (loadHead_frame _ ch)

theorem rollDrops_frame (ch : Channel) (cues : List Cue) :
    Frame [.channels, .readers] s (s.rollDrops ch cues).1 := by
  induction cues generalizing s with
  | nil => exact .refl _ s
  | cons e cues ih =>
    unfold State.rollDrops
    split
    · exact (dropHead_frame s ch _ _).next (ih _) (by decide)
    · exact .refl _ s

theorem rollHead_frame (ch : Channel) : Frame [.zones, .channels] s (s.rollHead ch).1 := by
  unfold State.rollHead
  split
  · exact .refl _ s
  · exact (Frame.mono (mapChan_frame s ch _)).next (request_frame _ _ _ _) (by decide)

theorem roll_frame (ch : Channel) : Frame [.zones, .channels, .readers] s (s.roll ch).1 :=
  (Frame.mono (rollDrops_frame s ch _)).next (rollHead_frame _ ch)

theorem releaseEntry_frame (ch : Channel) (o : CueOutcome) : Frame endParts s (s.releaseEntry ch o) := by
  unfold State.releaseEntry
  split
  · exact .refl _ s
  · exact (release_frame s _ _).next (endEntry_frame _ _ _)

theorem completeEntry_frame (ch : Channel) : Frame endParts s (s.completeEntry ch) := by
  unfold State.completeEntry
  split
  · exact .refl _ s
  · dsimp only
    split
    · exact (((release_frame s _ _).next (popHead_frame _ _)).next (roll_frame _ _)).next
        (raiseChannel_frame _ _ _ _ _ _ _)
    · exact ((release_frame s _ _).next (popHead_frame _ _)).next (raiseChannel_frame _ _ _ _ _ _ _)

/-! ## Features -/

theorem appendFeature_frame (sponsor asset duration : Nat) (zones : List Nat) (brk : Bool) :
    Frame [.zones, .channels, .features] s (s.appendFeature sponsor asset duration zones brk) := by
  unfold State.appendFeature
  dsimp only
  split
  · exact (Frame.mono (mapFeatures_frame s _ fun _ => by simp)).next (startFeatures_frame _ _)
  · exact .mono (mapFeatures_frame s _ fun _ => by simp)

theorem featureBreakStart_frame (seconds : Nat) :
    Frame [.zones, .channels, .features] s (s.featureBreakStart seconds) := by
  unfold State.featureBreakStart
  split
  · exact .refl _ s
  · split
    · exact .mono (mapFeatures_frame s _ fun _ => by simp)
    · exact (appendFeature_frame s _ _ _ _ _).next (mapFeatures_frame _ _ fun _ => by simp)

theorem featureBreakCancel_frame : Frame endParts s s.featureBreakCancel := by
  unfold State.featureBreakCancel
  split
  · exact .refl _ s
  · dsimp only
    split
    · split
      · exact (endAll_frame s _ _).next (mapFeatures_frame _ _ fun _ => by simp)
      · exact (Frame.mono (mapFeatures_frame s _ fun _ => by simp [Rotation.dropWaiting])).next
          (mapFeatures_frame _ _ fun _ => by simp)
    · exact .mono (mapFeatures_frame s _ fun _ => by simp)

theorem featureBreakExpiry_frame : Frame [.features] s s.featureBreakExpiry := by
  unfold State.featureBreakExpiry
  split
  · exact .refl _ s
  · exact mapFeatures_frame s _ fun _ => by simp [Rotation.dropWaiting]

end Sys2Proof.Machine
end

