-- ==== Sys2Proof/Laws/ClockFrames.lean ====
section
/-! SUPPORT. Frame lemmas of the game timing, game record and twin units' shared operations. -/

namespace Sys2Proof.Machine

-- one proof after another: elaborated together they wait for each other, each in a thread with a stack of its own
set_option Elab.async false

variable (s : State)

/-! ## Updates of the timing, record and twin units -/

theorem horns_frame (f : Timing → Timing)
    (hf : ∀ t, { f t with gameHorn := none, playHorn := none } = { t with gameHorn := none, playHorn := none }) :
    Frame [.horns] s (s.mapTiming f) :=
  .update ⟨rfl, rfl⟩ ⟨rfl, rfl⟩ fun p hp => by
    have h := hf s.timing
    cases p <;> simp_all [samePart]

theorem clock_frame (f : Timing → Timing)
    (hf : ∀ t, (f t).gameHorn = t.gameHorn ∧ (f t).playHorn = t.playHorn ∧ (f t).phase = t.phase ∧
      (f t).outstanding = t.outstanding) : Frame [.clock] s (s.mapTiming f) :=
  .update ⟨rfl, rfl⟩ ⟨rfl, rfl⟩ fun p hp => by
    have h := hf s.timing
    cases p <;> simp_all [samePart]

theorem session_frame (x : Session) : Frame [.session] s (s.mapGame fun g => { g with session := x }) :=
  .update ⟨rfl, rfl⟩ ⟨rfl, rfl⟩ fun p hp => by cases p <;> simp_all [samePart]

theorem game_frame (f : RecordFields → RecordFields) (hf : ∀ g, (f g).session = g.session) :
    Frame [.game] s (s.mapGame f) :=
  .update ⟨rfl, rfl⟩ ⟨rfl, rfl⟩ fun p hp => by cases p <;> simp_all [samePart]

theorem twin_frame (f : Twin → Twin) (hf : ∀ t, (f t).out = t.out ∧ (f t).clockTimer = t.clockTimer) :
    Frame [.twin] s (s.mapTwin f) :=
  .update ⟨rfl, rfl⟩ ⟨rfl, rfl⟩ fun p hp => by cases p <;> simp_all [samePart]

theorem sendTwin_frame (r : TwinRecord) : Frame [.twinOut] s (s.sendTwin r) :=
  .update ⟨rfl, rfl⟩ ⟨rfl, rfl⟩ fun p hp => by cases p <;> simp_all [samePart]

theorem sendHello_frame : Frame [.twinOut] s s.sendHello := sendTwin_frame s _
theorem sendState_frame : Frame [.twinOut] s s.sendState := sendTwin_frame s _
theorem sendHeartbeat_frame : Frame [.twinOut] s s.sendHeartbeat := sendTwin_frame s _

theorem sendClock_frame (cause : ClockCause) : Frame [.twinOut] s (s.sendClock cause) := by
  unfold State.sendClock
  split
  · exact .update ⟨rfl, rfl⟩ ⟨rfl, rfl⟩ fun p hp => by cases p <;> simp_all [samePart]
  · exact .refl _ s

theorem sendEvent_frame (c : Change) (n : Nat) : Frame [.twinOut, .twin] s (s.sendEvent c n) := by
  unfold State.sendEvent
  split
  · exact .update ⟨rfl, rfl⟩ ⟨rfl, rfl⟩ fun p hp => by cases p <;> simp_all [samePart]
  · exact .refl _ s

theorem sendStateIfMaster_frame : Frame [.twinOut] s s.sendStateIfMaster := by
  unfold State.sendStateIfMaster
  split
  · exact sendState_frame s
  · exact .refl _ s

/-! ## Horns, countdown and period end -/

theorem soundHorn_frame (which : Horn) (d : Nat) : Frame [.horns] s (s.mapTiming (Timing.soundHorn which d)) :=
  horns_frame s _ fun _ => by cases which <;> rfl

theorem hornSounds_frame (which : Horn) : Frame [.horns] s (s.hornSounds which) :=
  horns_frame s _ fun _ => by cases which <;> rfl

theorem releaseLevelOne_frame (phase : Phase) : Frame endParts s (s.releaseLevelOne phase) :=
  (endAll_frame s _ _).next (phase_frame _ _ fun _ => by rfl)

theorem requestLevelOne_frame (asset : Nat) (frames : Option Nat) (phase : Phase) :
    Frame [.zones, .channels, .phase] s (s.requestLevelOne asset frames phase) := by
  unfold State.requestLevelOne
  exact (Frame.mono (requestAll_frame s _ _ _)).next (phase_frame _ _ fun _ => by rfl)

theorem requestCountdown_frame : Frame [.zones, .channels, .phase] s s.requestCountdown := by
  unfold State.requestCountdown
  split
  · exact requestLevelOne_frame s _ _ _
  · exact .refl _ s

theorem sendCountdown_frame (asks : Bool) : Frame endParts s (s.sendCountdown asks) := by
  unfold State.sendCountdown
  split
  · split
    · exact .mono (requestCountdown_frame s)
    · exact (releaseLevelOne_frame s _).next (requestCountdown_frame _)
    · exact .refl _ s
    · exact .refl _ s
  · exact .refl _ s

@[simp] theorem sendCountdown_false : s.sendCountdown false = s := rfl

/-- Everything the level-1 sends of a countdown check can be (R45, R47). -/
theorem sendCountdown_cases (asks : Bool) :
    (asks = true ∧ s.timing.phase = .idle ∧ s.sendCountdown asks = s.requestCountdown) ∨
      (asks = true ∧ s.timing.phase = .periodEnd ∧
        s.sendCountdown asks = (s.releaseLevelOne .idle).requestCountdown) ∨
      ((asks = false ∨ s.timing.phase = .countdown ∨ s.timing.phase = .spent) ∧ s.sendCountdown asks = s) := by
  cases asks with
  | false => exact .inr (.inr ⟨.inl rfl, rfl⟩)
  | true => cases h : s.timing.phase <;> simp [State.sendCountdown, h]

theorem checkCountdown_frame : Frame endParts s s.checkCountdown := sendCountdown_frame s _

theorem releaseCountdown_frame : Frame endParts s s.releaseCountdown := by
  unfold State.releaseCountdown
  split
  · exact releaseLevelOne_frame s _
  · exact .refl _ s

theorem renewCountdown_frame : Frame [.phase] s s.renewCountdown := phase_frame s _ fun _ => by rfl

theorem switchPeriodEnd_frame (asset frames : Nat) :
    Frame [.zones, .channels, .phase] s (s.switchPeriodEnd asset frames) :=
  (Frame.mono (requestAll_frame s _ _ _)).next (phase_frame _ _ fun _ => by rfl)

theorem periodEnd_frame : Frame endParts s s.periodEnd := by
  unfold State.periodEnd
  split
  · dsimp only
    split
    · exact .mono (switchPeriodEnd_frame s _ _)
    · exact .mono (switchPeriodEnd_frame s _ _)
    · split
      · exact .refl _ s
      · exact .mono (requestLevelOne_frame s _ _ _)
    · split
      · exact .refl _ s
      · exact .mono (requestLevelOne_frame s _ _ _)
  · split
    · exact releaseLevelOne_frame s _
    · exact .refl _ s

/-! ## Run changes and expiries -/

theorem sessionStart_frame (run : RunState) : Frame [.session] s (s.sessionStart run) := by
  unfold State.sessionStart
  split
  · exact (session_frame s _).next (raise_frame _ _ _)
  · exact .refl _ s

theorem handOn_frame (cause : RunCause) (n : Nat) : Frame runParts s (s.handOn cause n) := by
  unfold State.handOn
  dsimp only
  split
  · exact (((Frame.mono (raise_frame s _ _)).next (arbiterStart_frame _)).next (sessionStart_frame _ _)).next
      (sendClock_frame _ _)
  · exact (((Frame.mono (raise_frame s _ _)).next (arbiterStop_frame _)).next (sessionStart_frame _ _)).next
      (sendClock_frame _ _)

theorem raiseExpired_frame (cause : ExpiryCause) : Frame [] s (s.raiseExpired cause) := raise_frame s _ _

theorem checkRegulation_frame : Frame [.clock, .horns] s s.checkRegulation := by
  unfold State.checkRegulation
  split
  · exact ((Frame.mono (clock_frame s _ fun _ => by simp)).next (raiseExpired_frame _ _)).next (hornSounds_frame _ _)
  · exact .refl _ s

theorem expire_frame (asks : Bool) : Frame expiryParts s (s.expire asks) := by
  have h : Frame expiryParts s _ := ((Frame.mono (clock_frame s (fun t =>
    { t with v := clockLimit t.rules, run := .stopped, atLimit := true, expiryPending := false })
    fun _ => by simp)).next (handOn_frame _ .expiry 0)).next (sendCountdown_frame _ asks)
  unfold State.expire
  dsimp only
  split
  · exact h.next (raiseExpired_frame _ _)
  · exact ((h.next (raiseExpired_frame _ _)).next (hornSounds_frame _ _)).next (periodEnd_frame _)

theorem playExpire_frame (b : Bool) : Frame [.clock, .horns, .twinOut] s (s.playExpire b) := by
  have h : Frame [.clock, .horns, .twinOut] s _ := (Frame.mono (clock_frame s (fun t =>
    { t with play := 0, playPending := false }) fun _ => by simp)).next (raise_frame _ .playExpired
    (.playExpired b s.timing.v))
  unfold State.playExpire
  dsimp only
  split
  · exact (h.next (hornSounds_frame _ _)).next (sendClock_frame _ _)
  · exact h.next (sendClock_frame _ _)

theorem breakExpire_frame : Frame [.clock, .horns, .features, .twinOut] s s.breakExpire := by
  have h : Frame [.clock, .horns, .features, .twinOut] s _ := (Frame.mono (clock_frame s (fun t =>
    { t with brkRunning := false, brkValue := 0 }) fun _ => by simp)).next (raise_frame _ .breakExpired
    (.breakExpired (s.timing.brkLength / 1000) s.timing.brkHorn))
  unfold State.breakExpire
  dsimp only
  split
  · exact ((h.next (hornSounds_frame _ _)).next (featureBreakExpiry_frame _)).next (sendClock_frame _ _)
  · exact (h.next (featureBreakExpiry_frame _)).next (sendClock_frame _ _)

/-! ## The gate -/

theorem confirmStart_frame : Frame expiryParts s s.confirmStart := by
  unfold State.confirmStart
  dsimp only
  split
  · exact (Frame.mono (clock_frame s _ fun _ => by simp [Timing.gateSteady])).next (sendClock_frame _ _)
  · have h : Frame expiryParts s _ := ((Frame.mono (clock_frame s Timing.lineStart fun _ => by
      simp [Timing.lineStart, Timing.gateSteady])).next (handOn_frame _ .line s.timing.window)).next
        (checkRegulation_frame _)
    refine .ite (Frame.next ?_ (playExpire_frame _ _)) ?_ <;>
      exact .ite (h.next (expire_frame _ _)) (h.next (checkCountdown_frame _))

theorem confirmStop_frame (asks : Bool) : Frame ([.clock] ++ runParts) s (s.confirmStop asks) :=
  (((Frame.mono (clock_frame s Timing.lineStop fun _ => by simp [Timing.lineStop, Timing.gateSteady])).next
    (handOn_frame _ _ _)).next (sendCountdown_frame _ asks)).next (releaseCountdown_frame _)

theorem rejectStop_frame : Frame expiryParts s s.rejectStop := by
  have h : Frame expiryParts s _ := .mono (clock_frame s (fun t =>
    { t.gateSteady with expiryPending := false, playPending := false }) fun _ => by simp [Timing.gateSteady])
  refine .ite (Frame.next ?_ (playExpire_frame _ _)) ?_ <;>
    exact .ite (h.next (expire_frame _ false)) (h.next (sendClock_frame _ _))

theorem closeWindow_frame : Frame expiryParts s s.closeWindow := by
  unfold State.closeWindow
  split
  · exact .refl _ s
  · exact (Frame.mono (clock_frame s _ fun _ => by simp [Timing.gateSteady])).next (sendClock_frame _ _)
  · exact rejectStop_frame s

theorem sampleLine_frame : Frame [.clock] s s.sampleLine := by
  unfold State.sampleLine
  split
  · exact .refl _ s
  · exact clock_frame s _ fun _ => by simp

theorem openWindow_frame (gate : Gate) : Frame expiryParts s (s.openWindow gate) := by
  have h : Frame expiryParts s (s.mapTiming fun t => { t.gateSteady with gate := gate }) :=
    .mono (clock_frame s _ fun _ => by simp [Timing.gateSteady])
  unfold State.openWindow
  dsimp only
  split
  · split
    · exact h.next (confirmStart_frame _)
    · exact h.next (confirmStop_frame _ _)
    · exact h
  · exact h.next (sendClock_frame _ _)

theorem lineEdge_frame (level : GateLevel) : Frame expiryParts s (s.lineEdge level) := by
  have h (f : Timing → Timing) (hf : ∀ t, (f t).gameHorn = t.gameHorn ∧ (f t).playHorn = t.playHorn ∧
      (f t).phase = t.phase ∧ (f t).outstanding = t.outstanding) : Frame expiryParts s (s.mapTiming f) :=
    .mono (clock_frame s f hf)
  unfold State.lineEdge
  dsimp only
  split
  · split
    · exact .refl _ s
    · split
      · split
        · exact h _ fun _ => by simp
        · exact openWindow_frame s _
      · exact h _ fun _ => by simp
      · exact openWindow_frame s _
      · exact h _ fun _ => by simp
  · split
    · exact closeWindow_frame s
    · exact .refl _ s
  · split
    · exact closeWindow_frame s
    · exact .refl _ s

theorem linkStart_frame : Frame expiryParts s s.linkStart :=
  (((Frame.mono (clock_frame s (fun t => { t with run := .running }) fun _ => by simp)).next
    (handOn_frame _ _ _)).next (checkRegulation_frame _)).next (checkCountdown_frame _)

theorem linkStop_frame : Frame ([.clock] ++ runParts) s s.linkStop :=
  (Frame.mono (clock_frame s (fun t => { t with run := .stopped }) fun _ => by simp)).next (handOn_frame _ _ _)

/-! ## Set, adjust and reset -/

theorem regulationAfter_keeps (t : Timing) :
    t.regulationAfter.gameHorn = t.gameHorn ∧ t.regulationAfter.playHorn = t.playHorn ∧
      t.regulationAfter.phase = t.phase ∧ t.regulationAfter.outstanding = t.outstanding := by
  unfold Timing.regulationAfter
  split
  · simp
  · split <;> simp

theorem adjust_keeps (delta : Int) (t : Timing) :
    (t.adjust delta).gameHorn = t.gameHorn ∧ (t.adjust delta).playHorn = t.playHorn ∧
      (t.adjust delta).phase = t.phase ∧ (t.adjust delta).outstanding = t.outstanding := by
  have h := regulationAfter_keeps { t with v := t.adjusted delta }
  unfold Timing.adjust
  dsimp only
  split
  · split <;> exact h
  · exact h

theorem setClock_frame (v : Nat) : Frame ([.clock, .twinOut] ++ endParts) s (s.setClock v) :=
  (((Frame.mono (clock_frame s _ fun t => by
    exact regulationAfter_keeps { t with v := v, atLimit := decide (v = clockLimit t.rules) })).next
    (releaseCountdown_frame _)).next (renewCountdown_frame _)).next (sendClock_frame _ _)

theorem adjustClock_frame (delta : Int) : Frame expiryParts s (s.adjustClock delta) := by
  have h : Frame expiryParts s _ := (((Frame.mono (clock_frame s (Timing.adjust delta) (adjust_keeps delta))).next
    (releaseCountdown_frame _)).next (renewCountdown_frame _)).next (checkRegulation_frame _)
  unfold State.adjustClock
  dsimp only
  split
  · exact (h.next (expire_frame _ _)).next (sendClock_frame _ _)
  · exact (h.next (checkCountdown_frame _)).next (sendClock_frame _ _)

theorem resetClocks_frame : Frame ([.clock] ++ endParts) s s.resetClocks :=
  (Frame.mono (clock_frame s (fun t =>
    { t with
      v := clockStartValue t.rules
      atLimit := false
      expiryPending := false
      regulation := false
      play := t.rules.playPrimary * 1000 }) fun _ => by simp)).next (releaseLevelOne_frame _ _)

end Sys2Proof.Machine
end

