-- ==== Sys2Proof/Laws/TwinFrames.lean ====
section
/-! SUPPORT. Frame lemmas of the game record unit's and the twin unit's shared operations. -/

namespace Sys2Proof.Machine

-- one proof after another: elaborated together they wait for each other, each in a thread with a stack of its own
set_option Elab.async false

variable (s : State)

/-! ## The game record unit -/

theorem requestScoreEvent_frame (team : Team) :
    Frame [.zones, .channels, .levelTwo] s (s.requestScoreEvent team) := by
  unfold State.requestScoreEvent
  dsimp only
  split
  · exact .refl _ s
  · exact (Frame.mono (requestAll_frame s _ _ _)).next (levelTwo_frame _ _ fun _ => by rfl)

theorem setTeam_session (team : Team) (r : TeamRec) (g : RecordFields) : (setTeam team r g).session = g.session := by
  cases team <;> rfl

/-- The parts a score reaches (R60). -/
def scoreParts : List Part := [.game, .zones, .channels, .levelTwo, .twinOut, .twin]

theorem addScore_frame (team : Team) (points seq : Nat) : Frame scoreParts s (s.addScore team points seq) := by
  unfold State.addScore
  dsimp only
  refine Frame.next (.ite (Frame.next ?_ (requestScoreEvent_frame _ _)) ?_) (sendEvent_frame _ _ _) <;>
    exact (Frame.mono (game_frame s _ fun _ => by simp [setTeam_session])).next (raise_frame _ _ _)

theorem reviseScore_frame (e : LogEntry) (seq : Nat) :
    Frame [.game, .twinOut, .twin] s (s.reviseScore e seq) :=
  ((Frame.mono (game_frame s _ fun _ => by simp [setTeam_session])).next (raise_frame _ _ _)).next
    (sendEvent_frame _ _ _)

theorem raiseSession_frame (before : Session) (cause : SessionCause) : Frame [] s (s.raiseSession before cause) :=
  raise_frame s _ _

theorem handChange_frame (c : Change) : Frame [.twinOut, .twin] s (s.handChange c) := sendEvent_frame s _ _

/-- The parts that closing, opening and advancing the game reach (R53 to R55). -/
def gameParts : List Part := [.game, .twin, .exposure] ++ expiryParts

theorem finalGame_frame (cause : SessionCause) : Frame gameParts s (s.finalGame cause) := by
  have h : Frame gameParts s _ := ((Frame.mono (session_frame s .final)).next
    (raiseSession_frame _ s.record.game.session cause)).next (handChange_frame _ .gameFinal)
  exact .ite h (h.next (closeWindow_frame _))

theorem newGameRecord_session (g : RecordFields) : (newGameRecord g).session = g.session := rfl

theorem openGame_frame (cause : SessionCause) : Frame gameParts s (s.openGame cause) := by
  unfold State.openGame
  dsimp only
  refine Frame.next (Frame.next (.ite (Frame.next ?_ (sampleLine_frame _)) ?_) (handChange_frame _ _))
    (sendClock_frame _ _) <;>
  exact (((((Frame.mono (game_frame s _ newGameRecord_session)).next (resetClocks_frame _)).next
    (endAll_frame _ _ _)).next (clearExposure_frame _)).next (session_frame _ _)).next (raiseSession_frame _ _ _)

theorem advancePeriod_frame (cause : SessionCause) : Frame gameParts s (s.advancePeriod cause) :=
  (((((Frame.mono (game_frame s _ fun _ => by rfl)).next (resetClocks_frame _)).next
    (game_frame _ _ fun _ => by rfl)).next (raiseSession_frame _ _ _)).next (handChange_frame _ _)).next
      (sendClock_frame _ _)

theorem applyTeam_frame (team : Team) (f : TeamFields) : Frame [.game, .twinOut, .twin] s (s.applyTeam team f) :=
  (Frame.mono (game_frame s _ fun _ => by simp [setTeam_session])).next (handChange_frame _ _)

theorem applyDefs_frame (defs : List FieldDef) : Frame [.game, .twinOut, .twin] s (s.applyDefs defs) :=
  (Frame.mono (game_frame s _ fun _ => by rfl)).next (handChange_frame _ _)

theorem applyField_frame (index value : Nat) : Frame [.game, .twinOut, .twin] s (s.applyField index value) :=
  (Frame.mono (game_frame s _ fun _ => by rfl)).next (handChange_frame _ _)

theorem applyConfig_frame (c : RecordConfig) : Frame [.game, .twinOut, .twin] s (s.applyConfig c) :=
  (Frame.mono (game_frame s _ fun _ => by rfl)).next (handChange_frame _ _)

/-! ## The twin unit -/

/-- The parts that what the twin unit hears or decides reaches. -/
def twinParts : List Part := gameParts

theorem enter_frame (new : TwinState) (reason : FaultReason) :
    Frame [.twin, .twinOut] s (s.mapTwin (Twin.enter new reason)) :=
  .update ⟨rfl, rfl⟩ ⟨rfl, rfl⟩ fun p hp => by cases p <;> simp_all [samePart]

theorem enterTwin_frame (new : TwinState) (cause : TwinCause) (reason : FaultReason) :
    Frame ([.twin] ++ expiryParts) s (s.enterTwin new cause reason) := by
  have h : Frame ([.twin] ++ expiryParts) s _ := .mono (enter_frame s new reason)
  unfold State.enterTwin
  dsimp only
  refine .ite h (.ite ?_ ?_)
  · exact ((h.next (raise_frame _ _ _)).next (closeWindow_frame _)).next (sampleLine_frame _)
  · exact h.next (raise_frame _ _ _)

theorem applyDecision_frame (d : Decision) : Frame twinParts s (s.applyDecision d) := by
  unfold State.applyDecision
  split
  · exact (((Frame.mono (twin_frame s _ fun _ => by simp)).next (enterTwin_frame _ _ _ _)).next
      (sendHello_frame _)).next (sendState_frame _)
  · exact .mono (twin_frame s _ fun _ => by simp)
  · exact .mono (enterTwin_frame s _ _ _)

theorem resolveAfresh_frame (h : Hello) : Frame twinParts s (s.resolveAfresh h) :=
  ((Frame.mono (enterTwin_frame s _ _ _)).next (sendHello_frame _)).next (applyDecision_frame _ _)

theorem heard_frame : Frame [.twin] s (s.mapTwin Twin.heard) := twin_frame s _ fun _ => by simp [Twin.heard]

theorem takeHello_frame (h : Hello) : Frame twinParts s (s.takeHello h) := by
  have k : Frame twinParts s (s.mapTwin fun t => { t.heard with peer := some h }) :=
    .mono (twin_frame s _ fun _ => by simp [Twin.heard])
  unfold State.takeHello
  dsimp only
  split
  · exact k.next (resolveAfresh_frame _ _)
  · exact k.next (resolveAfresh_frame _ _)
  · exact k.next (applyDecision_frame _ _)
  · split
    · exact (k.next (sendHello_frame _)).next (sendState_frame _)
    · exact (k.next (enterTwin_frame _ _ _ _)).next (applyDecision_frame _ _)
  · exact .ite k (k.next (resolveAfresh_frame _ _))
  · exact .ite k (k.next (resolveAfresh_frame _ _))

theorem conflict_frame : Frame twinParts s s.conflict :=
  (Frame.mono (enterTwin_frame s _ _ _)).next (sendHello_frame _)

theorem mirrorRun_keeps (run : RunState) (t : Timing) :
    (t.mirrorRun run).gameHorn = t.gameHorn ∧ (t.mirrorRun run).playHorn = t.playHorn ∧
      (t.mirrorRun run).phase = t.phase ∧ (t.mirrorRun run).outstanding = t.outstanding := by
  cases run <;> simp [Timing.mirrorRun]

theorem adopt_keeps (rules : ClockRules) (c : ClockFields) (t : Timing) :
    (t.adopt rules c).gameHorn = t.gameHorn ∧ (t.adopt rules c).playHorn = t.playHorn ∧
      (t.adopt rules c).phase = t.phase ∧ (t.adopt rules c).outstanding = t.outstanding :=
  mirrorRun_keeps c.run ((((Timing.mirrorGate c.gate { t with rules := rules }).mirrorClock c).mirrorPlay c).mirrorBreak c)

theorem adoptBreak_frame (before : Bool) : Frame endParts s (s.adoptBreak before) := by
  unfold State.adoptBreak
  split
  · exact .mono (featureBreakStart_frame s _)
  · exact featureBreakCancel_frame s
  · exact .refl _ s

theorem adoptValues_frame (r : StateRecord) : Frame twinParts s (s.adoptValues r) := by
  unfold State.adoptValues
  dsimp only
  refine Frame.next (Frame.next (Frame.next (Frame.next (.ite ?_ (Frame.next ?_ (handOn_frame _ _ _)))
    (adoptBreak_frame _ _)) (releaseLevelOne_frame _ _)) (checkCountdown_frame _)) (raiseSession_frame _ _ _) <;>
  exact .update ⟨rfl, rfl⟩ ⟨rfl, rfl⟩ fun p hp => by
    have h := adopt_keeps r.rules (compensated r.rules s.twin.compensation r.clock) s.timing
    cases p <;> first | (exact absurd (by decide) hp) | simp_all [samePart]

theorem becomeFollower_frame : Frame twinParts s s.becomeFollower :=
  ((Frame.mono (closeWindow_frame s)).next (twin_frame _ _ fun _ => by simp)).next (enterTwin_frame _ _ _ _)

theorem takeState_frame (r : StateRecord) : Frame twinParts s (s.takeState r) := by
  unfold State.takeState
  split
  · exact .mono (sendHello_frame s)
  · exact .mono (sendHello_frame s)
  · exact .ite ((becomeFollower_frame s).next (adoptValues_frame _ _)) (.refl _ s)
  · exact conflict_frame s
  · exact adoptValues_frame s r
  · exact .refl _ s

theorem mirrorRunChange_frame (c : ClockFields) : Frame expiryParts s (s.mirrorRunChange c) := by
  unfold State.mirrorRunChange
  split
  · exact (((Frame.mono (clock_frame s _ fun _ => by simp [Timing.mirrorRun])).next (handOn_frame _ _ _)).next
      (checkRegulation_frame _)).next (checkCountdown_frame _)
  · exact .ite (expire_frame s false)
      ((Frame.mono (clock_frame s _ fun _ => by simp [Timing.mirrorRun])).next (handOn_frame _ _ _))
  · exact .refl _ s

theorem mirrorBreakChange_frame (cause : ClockCause) (c : ClockFields) :
    Frame expiryParts s (s.mirrorBreakChange cause c) := by
  have h : Frame expiryParts s (s.mapTiming (Timing.mirrorBreak c)) :=
    .mono (clock_frame s _ fun _ => by simp [Timing.mirrorBreak])
  unfold State.mirrorBreakChange
  split
  · exact .ite (h.next (featureBreakStart_frame _ _)) (.refl _ s)
  · exact .ite ((Frame.mono (clock_frame s _ fun _ => by simp)).next (featureBreakCancel_frame _)) (.refl _ s)
  · exact .ite (.mono (breakExpire_frame s)) (.refl _ s)
  · exact .ite (.refl _ s) h

theorem mirrorCountdown_frame (cause : ClockCause) : Frame endParts s (s.mirrorCountdown cause) := by
  unfold State.mirrorCountdown
  dsimp only
  refine Frame.next (.ite (Frame.next ?_ (renewCountdown_frame _)) ?_) (checkCountdown_frame _) <;>
    exact .ite (releaseCountdown_frame s) (.refl _ s)

theorem mirrorPlay_keeps (keep : Timing → Bool) (c : ClockFields) (t : Timing) :
    let u := if keep t then t else t.mirrorPlay c
    u.gameHorn = t.gameHorn ∧ u.playHorn = t.playHorn ∧ u.phase = t.phase ∧ u.outstanding = t.outstanding := by
  dsimp only
  split <;> simp [Timing.mirrorPlay]

theorem mirror_keeps (g : Gate) (c : ClockFields) (keep : Timing → Bool) (b : Bool) (t : Timing) :
    let u := if b then t.mirrorGate g else (t.mirrorGate g).mirrorClock c
    let u := if keep u then u else u.mirrorPlay c
    u.gameHorn = t.gameHorn ∧ u.playHorn = t.playHorn ∧ u.phase = t.phase ∧ u.outstanding = t.outstanding := by
  cases b
  · exact mirrorPlay_keeps keep c ((t.mirrorGate g).mirrorClock c)
  · exact mirrorPlay_keeps keep c (t.mirrorGate g)

theorem applyClock_frame (r : ClockRecord) : Frame twinParts s (s.applyClock r) := by
  have h : Frame twinParts s (s.mapTiming fun t =>
      let u := if s.timing.keepsClock r.cause then
        t.mirrorGate (compensated s.timing.rules s.twin.compensation r.clock).gate
        else (t.mirrorGate (compensated s.timing.rules s.twin.compensation r.clock).gate).mirrorClock
          (compensated s.timing.rules s.twin.compensation r.clock)
      if u.keepsPlay r.cause then u else u.mirrorPlay (compensated s.timing.rules s.twin.compensation r.clock)) :=
    .mono (clock_frame s _ fun t => mirror_keeps _ _ (Timing.keepsPlay r.cause) _ t)
  unfold State.applyClock
  dsimp only
  refine Frame.next (Frame.next (.ite ?_ (Frame.next ?_ (mirrorRunChange_frame _ _))) (mirrorBreakChange_frame _ _ _))
    (mirrorCountdown_frame _ _) <;> exact h

theorem takeClock_frame (r : ClockRecord) : Frame twinParts s (s.takeClock r) := by
  unfold State.takeClock
  split
  · exact .mono (sendHello_frame s)
  · exact .mono (sendHello_frame s)
  · exact .refl _ s
  · exact conflict_frame s
  · exact applyClock_frame s r
  · exact .refl _ s

theorem applyChange_frame (c : Change) (n : Nat) : Frame twinParts s (s.applyChange c n) := by
  unfold State.applyChange
  split
  · exact .mono (addScore_frame s _ _ _)
  · split
    · exact .mono (reviseScore_frame s _ _)
    · exact .mono (game_frame s _ fun _ => by rfl)
  · exact (openGame_frame s _).next (game_frame _ _ fun _ => by rfl)
  · exact (finalGame_frame s _).next (game_frame _ _ fun _ => by rfl)
  · exact (advancePeriod_frame s _).next (game_frame _ _ fun _ => by rfl)
  · exact (Frame.mono (applyTeam_frame s _ _)).next (game_frame _ _ fun _ => by rfl)
  · exact (Frame.mono (applyDefs_frame s _)).next (game_frame _ _ fun _ => by rfl)
  · exact (Frame.mono (applyField_frame s _ _)).next (game_frame _ _ fun _ => by rfl)
  · exact (Frame.mono (applyConfig_frame s _)).next (game_frame _ _ fun _ => by rfl)

theorem followEvent_frame (r : EventRecord) : Frame twinParts s (s.followEvent r) :=
  .ite (.refl _ s) (.ite ((applyChange_frame s _ _).next (twin_frame _ _ fun _ => by simp))
    ((Frame.mono (twin_frame s _ fun _ => by simp)).next (sendHeartbeat_frame _)))

theorem takeEvent_frame (r : EventRecord) : Frame twinParts s (s.takeEvent r) := by
  unfold State.takeEvent
  split
  · exact .mono (sendHello_frame s)
  · exact .mono (sendHello_frame s)
  · exact .refl _ s
  · exact conflict_frame s
  · exact followEvent_frame s r
  · exact .refl _ s

theorem takeHeartbeat_frame (b : Bool) : Frame twinParts s (s.takeHeartbeat b) := by
  unfold State.takeHeartbeat
  split
  · exact .mono (sendHello_frame s)
  · exact .mono (sendHello_frame s)
  · exact .refl _ s
  · exact .ite (.mono (sendState_frame s)) (.refl _ s)
  · exact conflict_frame s
  · exact .refl _ s

theorem hearTwin_frame (f : State → State) (hf : ∀ s, Frame twinParts s (f s)) : Frame twinParts s (s.hearTwin f) :=
  .ite (.refl _ s) ((Frame.mono (heard_frame s)).next (hf _))

theorem twinBadFrame_frame : Frame [.twin] s s.twinBadFrame := twin_frame s _ fun _ => by simp [Twin.badFrame]

theorem lossExpire_frame : Frame ([.twin] ++ expiryParts) s s.lossExpire := enterTwin_frame s _ _ _

theorem helloExpire_frame : Frame [.twin, .twinOut] s s.helloExpire :=
  (Frame.mono (twin_frame s _ fun _ => by simp)).next (sendHello_frame _)

theorem heartbeatExpire_frame : Frame [.twin, .twinOut] s s.heartbeatExpire :=
  (Frame.mono (twin_frame s _ fun _ => by simp)).next (sendHeartbeat_frame _)

theorem stopSending_frame : Frame [.twinOut, .twin] s (s.mapTwin Twin.stopSending) :=
  .update ⟨rfl, rfl⟩ ⟨rfl, rfl⟩ fun p hp => by cases p <;> simp_all [samePart]

theorem reconfigure_frame (old : TwinRole) : Frame twinParts s (s.reconfigure old) := by
  have h (new : TwinState) (c : TwinCause) (r : FaultReason) : Frame twinParts s (s.enterTwin new c r) :=
    .mono (enterTwin_frame s _ _ _)
  unfold State.reconfigure
  refine .ite (.ite (.refl _ s) ((h _ _ _).next (stopSending_frame _))) (.ite ((h _ _ _).next (sendHello_frame _)) ?_)
  split
  · exact .mono (sendHello_frame s)
  · exact .mono (sendHello_frame s)
  · exact (h _ _ _).next (sendHello_frame _)

theorem configureTwin_frame (role : TwinRole) (token comp : Nat) :
    Frame twinParts s (s.configureTwin role token comp) := by
  have h : Frame twinParts s (s.mapTwin fun t => { t with role := role, token := token, compensation := comp }) :=
    .mono (twin_frame s _ fun _ => by simp)
  exact .ite h (h.next (reconfigure_frame _ _))

end Sys2Proof.Machine
end

