-- ==== Sys2Proof/Laws/StepFrames.lean ====
section
/-! SUPPORT. Frame lemmas of the canvas, capture, rotation and crawl operations that commands carry out, what due events
leave of the queues, and what `settle` leaves due. -/

namespace Sys2Proof.Machine

-- one proof after another: elaborated together they wait for each other, each in a thread with a stack of its own
set_option Elab.async false

variable (s : State)

/-! ## Layout -/

theorem layoutCountdown_frame (won gone : List Nat) : Frame endParts s (s.layoutCountdown won gone) := by
  unfold State.layoutCountdown
  dsimp only
  refine Frame.next ?_ (Frame.foldl _ (fun s z => release_frame s z 1) _ _)
  split
  · exact (Frame.mono (requestAll_frame s _ _ _)).next (phase_frame _ _ fun _ => by rfl)
  · exact .refl _ s

theorem layoutScore_frame (gone : List Nat) : Frame endParts s (s.layoutScore gone) :=
  Frame.foldl _ (fun s z => release_frame s z 2) _ s

theorem layoutReplay_frame (ch : Channel) (gone : List Nat) : Frame endParts s (s.layoutReplay ch gone) :=
  .ite (releaseEntry_frame s _ _) (.refl _ s)

theorem zones_frame (f : Canvas → List Zone) : Frame [.zones] s (s.mapCanvas fun c => { c with zones := f c }) :=
  .update ⟨rfl, rfl⟩ ⟨rfl, rfl⟩ fun p hp => by cases p <;> simp_all [samePart]

theorem placeZones_frame (specs : List ZoneSpec) :
    Frame [.zones, .programs, .exposure, .crawl] s (s.placeZones specs) := by
  unfold State.placeZones
  dsimp only
  refine Frame.next (.ite ((Frame.mono (zones_frame s _)).next (clearStrip_frame _)) (.mono (zones_frame s _)))
    (activityChanged_frame _ _)

theorem layoutOwners_frame (old : List Zone) (specs : List ZoneSpec) : Frame endParts s (s.layoutOwners old specs) :=
  ((((layoutCountdown_frame s _ _).next (layoutScore_frame _ _)).next (layoutReplay_frame _ _ _)).next
    (layoutReplay_frame _ _ _)).next (followUps_frame _)

/-- The parts an applied layout reaches (R90, R123). -/
def layoutParts : List Part := [.programs, .exposure] ++ endParts

theorem applyLayout_frame (specs : List ZoneSpec) : Frame layoutParts s (s.applyLayout specs) :=
  (((Frame.mono (endEach_frame s _ _)).next (placeZones_frame _ _)).next (evaluateAll_frame _ _)).next
    (layoutOwners_frame _ _ _)

theorem canvas_frame (f : Canvas → Canvas)
    (hf : ∀ c, (f c).zones = c.zones ∧ (f c).inputs = c.inputs ∧ (f c).assets = c.assets ∧
      (f c).missingReported = c.missingReported) : Frame [.canvas] s (s.mapCanvas f) :=
  .update ⟨rfl, rfl⟩ ⟨rfl, rfl⟩ fun p hp => by cases p <;> simp_all [samePart]

theorem applyAwaiting_frame : Frame ([.canvas] ++ layoutParts) s s.applyAwaiting := by
  have h : Frame ([.canvas] ++ layoutParts) s (match s.canvas.awaitingConfig with
      | some size => s.mapCanvas fun c => { c with size := size, awaitingConfig := none }
      | none => s) := by
    split
    · exact .mono (canvas_frame s _ fun _ => by simp)
    · exact .refl _ s
  unfold State.applyAwaiting
  dsimp only
  split
  · exact (h.next (canvas_frame _ _ fun _ => by simp)).next (applyLayout_frame _ _)
  · exact h

/-! ## The frame event -/

theorem testOverrun_frame (ch : Channel) : Frame endParts s (s.testOverrun ch) :=
  .ite (releaseEntry_frame s _ _) (.refl _ s)

theorem compose_frame : Frame [.canvas] s s.compose :=
  .update ⟨rfl, rfl⟩ ⟨rfl, rfl⟩ fun p hp => by cases p <;> simp_all [samePart, State.compose]

@[simp] theorem compose_surround : s.compose.canvas.surround = .slate := rfl

/-- Where no zone covers the canvas, the composed frame shows the slate (R86). -/
theorem compose_pictureAt {x y : Nat} (h : ∀ z ∈ s.canvas.zones, covers x y z.spec = false) :
    s.compose.pictureAt x y = .slate := by
  have none : s.compose.canvas.zones.find? (fun z => covers x y z.spec) = none :=
    List.find?_eq_none.2 fun z hz => by simp [h z hz]
  simp [State.pictureAt, none]

theorem assets_frame (f : Canvas → Canvas)
    (hf : ∀ c, (f c).zones = c.zones ∧ (f c).inputs = c.inputs ∧ (f c).size = c.size ∧ (f c).frame = c.frame ∧
      (f c).awaitingConfig = c.awaitingConfig ∧ (f c).awaitingLayout = c.awaitingLayout ∧
      (f c).visibility = c.visibility ∧ (f c).frameOut = c.frameOut ∧
      (f c).surround = c.surround) : Frame [.assets] s (s.mapCanvas f) :=
  .update ⟨rfl, rfl⟩ ⟨rfl, rfl⟩ fun p hp => by cases p <;> simp_all [samePart]

theorem reportMissing_frame : Frame [.assets] s s.reportMissing :=
  Frame.foldl _ (fun s (e : VisEntry) => by
    split
    · exact .ite (.refl _ s) ((assets_frame s _ fun _ => by simp).next (raise_frame _ _ _))
    · exact .refl _ s) _ s

theorem programs_frame (f : List Program → List Program) :
    Frame [.programs] s (s.mapRotation fun r => { r with programs := f r.programs }) :=
  .update ⟨rfl, rfl⟩ ⟨rfl, rfl⟩ fun p hp => by cases p <;> simp_all [samePart]

theorem recordShown_frame : Frame [.programs] s s.recordShown := programs_frame s _

theorem applyCredits_frame (id : Nat) (cs : List Credit) : Frame [.exposure] s (s.applyCredits id cs) :=
  (mapExposed_frame s _ _).next (testMilestones_frame _ _)

theorem creditFrame_frame : Frame [.exposure] s s.creditFrame :=
  Frame.foldl _ (fun s _ => .ite (.refl _ s) (applyCredits_frame s _ _)) _ s

theorem stepCrawl_frame (kept : Option Nat) : Frame [.crawl] s (s.stepCrawl kept) := by
  unfold State.stepCrawl
  split
  · exact .ite ((moveStrip_frame s).next (enterStrip_frame _ _)) (.refl _ s)
  · exact .refl _ s

theorem testPass_frame (ch : Channel) (f : CueFields) (clip : Clip) : Frame endParts s (s.testPass ch f clip) := by
  have h (g : Chan → Chan) : Frame endParts s (s.mapChan ch g) := .mono (mapChan_frame s ch g)
  exact .ite (.ite (((h _).next (mapChan_frame _ _ _)).next (syncReaders_frame _))
    ((h _).next (completeEntry_frame _ _))) (.mono (syncReaders_frame s))

theorem advance_frame (ch : Channel) : Frame endParts s (s.advance ch) := by
  unfold State.advance
  split
  · split
    · exact (Frame.mono (mapChan_frame s ch _)).next (testPass_frame _ _ _ _)
    · exact .refl _ s
  · exact .refl _ s

theorem stepChannel_frame (ch : Channel) : Frame endParts s (s.stepChannel ch) := by
  unfold State.stepChannel
  split
  · exact .ite (.ite (advance_frame s ch) (.mono (mapChan_frame s ch _))) (.refl _ s)
  · exact .refl _ s

theorem expireTakeovers_frame (zone : Nat) : Frame endParts s (s.expireTakeovers zone) := endAll_frame s _ _

/-! ## Inputs, rings and copies -/

theorem raiseSignal_frame (n : Nat) (cause : SignalCause) : Frame [] s (s.raiseSignal n cause) := raise_frame s _ _

theorem writeFrame_frame (n : Nat) : Frame [.rings, .clips, .readers] s (s.writeFrame n) :=
  .ite (.refl _ s) (Frame.next (.ite ((Frame.mono (mapRing_frame s _ _)).next (overwriteReport_frame _ _ _))
    (.mono (mapRing_frame s _ _))) (syncReaders_frame _))

theorem captureFrame_frame (n : Nat) : Frame [.inputs, .rings, .clips, .readers] s (s.captureFrame n) :=
  (Frame.mono (mapInput_frame s _ _)).next (writeFrame_frame _ _)

theorem detectSignal_frame (n : Nat) : Frame [.inputs, .rings, .clips, .readers] s (s.detectSignal n) := by
  have h (f : Input → Input) : Frame [.inputs, .rings, .clips, .readers] s ((s.mapInput n f).raiseSignal n .detected) :=
    (Frame.mono (mapInput_frame s _ _)).next (raiseSignal_frame _ _ _)
  unfold State.detectSignal
  dsimp only
  split
  · exact .ite (h _) ((h _).next (captureRestart_frame _ _))
  · exact h _

theorem loseSignal_frame (n : Nat) : Frame [.inputs] s (s.loseSignal n) :=
  (mapInput_frame s _ _).next (raiseSignal_frame _ _ _)

theorem cameraFrame_frame (n : Nat) (valid : Bool) :
    Frame [.inputs, .rings, .clips, .readers] s (s.cameraFrame n valid) := by
  unfold State.cameraFrame
  refine .ite (.refl _ s) ?_
  split
  · exact captureFrame_frame s n
  · exact .mono (loseSignal_frame s n)
  · exact .ite ((detectSignal_frame s n).next (captureFrame_frame _ n)) (.mono (mapInput_frame s _ _))
  · exact .mono (mapInput_frame s _ _)

theorem signalTimeout_frame (n : Nat) : Frame [.inputs] s (s.signalTimeout n) :=
  .ite (.refl _ s) (.ite (loseSignal_frame s n) (mapInput_frame s _ _))

theorem endHold_frame (n : Nat) : Frame [.inputs] s (s.endHold n) := .ite (mapInput_frame s _ _) (.refl _ s)

theorem configureInput_frame (n : Nat) (c : InputSetting) :
    Frame [.inputs, .rings, .clips, .readers] s (s.configureInput n c) := by
  have h (f : Input → Input) : Frame [.inputs, .rings, .clips, .readers] s (s.mapInput n f) :=
    .mono (mapInput_frame s _ _)
  unfold State.configureInput
  dsimp only
  split
  · exact h _
  · exact h _
  · exact .ite ((h _).next (raiseSignal_frame _ _ _)) (h _)
  · refine .ite (.refl _ s) (.ite (Frame.next ?_ (captureRestart_frame _ _)) ?_) <;>
      exact .ite ((h _).next (raiseSignal_frame _ _ _)) (h _)

theorem copyFrame_frame : Frame [.clips, .readers] s s.copyFrame := by
  unfold State.copyFrame
  split
  · split
    · exact .ite ((Frame.mono (mapClip_frame s _ _)).next (syncReaders_frame _))
        ((((Frame.mono (mapClip_frame s _ _)).next (saveQueue_frame _ _)).next (raise_frame _ _ _)).next
          (syncReaders_frame _))
    · exact .refl _ s
  · exact .refl _ s

/-! ## Records of rotation, crawl and capture; RESTART -/

theorem loadProgram_frame (p : Nat) (es : List RotEntry) : Frame [.programs, .exposure] s (s.loadProgram p es) := by
  have h (g : Program → Program) : Frame [.programs, .exposure] s ((s.dropAppearance p).mapProgram p g) :=
    (dropAppearance_frame s p).next (mapProgram_frame _ _ _)
  exact .ite ((h _).next (select_frame _ _)) (h _)

theorem suspendEntry_frame (p id : Nat) : Frame [.programs, .exposure] s (s.suspendEntry p id) := by
  have h : Frame [.programs, .exposure] s (s.flagEntry p id true) := .mono (mapProgram_frame s p _)
  exact .ite (h.next (endAppearance_frame _ _)) h

theorem restartProgram_frame (p : Nat) : Frame [.programs, .exposure] s (s.restartProgram p) := by
  have h (g : Program → Program) : Frame [.programs, .exposure] s ((s.dropAppearance p).mapProgram p g) :=
    (dropAppearance_frame s p).next (mapProgram_frame _ _ _)
  exact .ite ((h _).next (select_frame _ _)) (h _)

theorem crawlConfig_frame (config : CrawlConfig) :
    Frame [.crawlConfig] s (s.mapCrawl fun c => { c with config := config }) :=
  .update ⟨rfl, rfl⟩ ⟨rfl, rfl⟩ fun p hp => by cases p <;> simp_all [samePart]

theorem configureCrawl_frame (config : CrawlConfig) :
    Frame [.crawlConfig, .programs, .exposure] s (s.configureCrawl config) :=
  (Frame.mono (crawlConfig_frame s _)).next (activityChanged_frame _ _)

theorem approveMessage_frame (m : Message) : Frame [.zones, .channels, .crawl] s (s.approveMessage m) := by
  have h : Frame [.zones, .channels, .crawl] s ((s.mapMessage m.id fun m => { m with state := .queued }).mapCrawl
      fun c => { c with order := c.order ++ [m.id] }) :=
    (Frame.mono (mapMessage_frame s _ _)).next (mapCrawl_frame _ _ fun _ => by rfl)
  unfold State.approveMessage
  dsimp only
  split
  · exact h
  · exact .ite ((h.next (mapCrawl_frame _ _ fun _ => by rfl)).next (startCards_frame _ _))
      (h.next (mapCrawl_frame _ _ fun _ => by rfl))

theorem withdrawMessage_frame (m : Message) : Frame endParts s (s.withdrawMessage m) :=
  ((Frame.mono (removeMessage_frame s _)).next (endAll_frame _ _ _)).next (raise_frame _ _ _)

theorem partitionRings_frame (a b c d : Nat) : Frame [.rings, .clips] s (s.partitionRings a b c d) :=
  ((((Frame.mono (mapRing_frame s _ _)).next (mapRing_frame _ _ _)).next (mapRing_frame _ _ _)).next
    (mapRing_frame _ _ _)).next (Frame.foldl (P := [.clips]) _ (fun s c => loseClip_frame s _ _ c) _ _)

theorem testReaderOf_frame (n : Nat) (name : ReaderName) : Frame [.readers] s (s.testReaderOf n name) :=
  .ite (testReader_frame s _) (.refl _ s)

theorem emptyChannel_frame (ch : Channel) : Frame [.channels, .readers] s (s.emptyChannel ch) := cutCues_frame s ch _

theorem emptyFeatures_frame : Frame endParts s s.emptyFeatures :=
  (Frame.mono (mapFeatures_frame s _ fun _ => by simp)).next (endAll_frame _ _ _)

theorem addCue_frame (ch : Channel) (f : CueFields) (c : Clip) : Frame [.channels, .readers] s (s.addCue ch f c) := by
  have h (g : Chan → Chan) : Frame [.channels, .readers] s (s.mapChan ch g) := .mono (mapChan_frame s ch g)
  exact .ite ((h _).next (loadHead_frame _ _)) (h _)

theorem removeCue_frame (ch : Channel) (n : Nat) : Frame [.channels, .readers] s (s.removeCue ch n) :=
  .ite (popHead_frame s _) (.mono (mapChan_frame s ch _))

/-- The blocks' own parts of RESTART, after the link interface's (R20). -/
theorem restart_frame : Frame layoutParts (s.mapLink .production LinkState.restart) s.restart := by
  refine Frame.next (Frame.next (Frame.next ?_ (Frame.foldl (P := [.programs, .exposure]) _
    (fun s p => restartProgram_frame s p) [0, 1, 2, 3] _)) (emptyFeatures_frame _)) (clearStrip_frame _)
  exact ((Frame.mono (arbiterRestart_frame _)).next (emptyChannel_frame _ _)).next (emptyChannel_frame _ _)

/-! ## The twin link's transmitter and receiver -/

/-- Everything the twin transmitter can do: nothing, one frame of the first record, or its last frame (R69). -/
theorem transmit_cases (t : Twin) :
    (t.out = [] ∧ t.transmit = t) ∨
      ∃ r rest, t.out = r :: rest ∧
        ((t.outSent + 1 < r.frames.length ∧
            t.transmit = { t with outSent := t.outSent + 1, lastSent := some (r, t.outSent + 1) }) ∨
          (r.frames.length ≤ t.outSent + 1 ∧
            t.transmit = { t with out := rest, outSent := 0, lastSent := some (r, t.outSent + 1) })) := by
  cases h : t.out with
  | nil => exact .inl ⟨rfl, by simp [Twin.transmit, h]⟩
  | cons r rest =>
    refine .inr ⟨r, rest, rfl, ?_⟩
    rcases Nat.lt_or_ge (t.outSent + 1) r.frames.length with hlt | hge
    · exact .inl ⟨hlt, by simp [Twin.transmit, h, hlt]⟩
    · exact .inr ⟨hge, by simp [Twin.transmit, h, Nat.not_lt.2 hge]⟩

theorem whenIdle_frame : Frame [.twinOut, .twin] s s.whenIdle :=
  .update ⟨rfl, rfl⟩ ⟨rfl, rfl⟩ fun p hp => by cases p <;> simp_all [samePart, State.whenIdle]

/-- With nothing handed over the part idles. -/
theorem whenIdle_of_out_nil (h : s.twin.out = []) : s.whenIdle = s := by
  cases s
  simp_all [State.whenIdle, State.mapTwin, Twin.transmit]

/-- The twin receiver changes its own state and the framing-error count alone, and never lowers the count (R69). -/
theorem receiveByte_twin (t : Twin) (b : Byte) :
    ∃ rx n, t.receiveByte b = { t with rx := rx, framingErrors := n } ∧ (t.framingErrors ≤ 65535 → t.framingErrors ≤ n) := by
  unfold Twin.receiveByte
  dsimp only
  split
  · exact ⟨_, _, rfl, fun h => Nat.le_refl _⟩
  · exact ⟨_, _, rfl, fun h => by simp [satInc]; omega⟩
  · split
    · exact ⟨_, _, rfl, fun h => Nat.le_refl _⟩
    · exact ⟨_, _, rfl, fun h => by simp [satInc]; omega⟩

theorem receive_twin (chars : List LineChar) (t : Twin) :
    ∃ rx n, t.receive chars = { t with rx := rx, framingErrors := n } := by
  unfold Twin.receive
  induction keptBytes chars generalizing t with
  | nil => exact ⟨_, _, rfl⟩
  | cons b bs ih =>
    obtain ⟨rx, n, h, -⟩ := receiveByte_twin t b
    obtain ⟨rx', n', h'⟩ := ih (t.receiveByte b)
    exact ⟨rx', n', by rw [List.foldl_cons, h', h]⟩

/-- After its silence limit the twin receiver hunts (R69, R3). -/
@[simp] theorem silence_rx (t : Twin) : t.silence.rx = .hunt := by
  unfold Twin.silence
  split <;> simp_all

/-! ## Due events -/

theorem runDue_queues (e : DueEvent) : (s.runDue e).pending = s.pending ∧ (s.runDue e).due = s.due := by
  have of {P : List Part} {t : State} (h : Frame P s t) : t.pending = s.pending ∧ t.due = s.due := ⟨h.pending, h.due⟩
  have ite {c : Prop} [Decidable c] {P : List Part} {t : State} (h : Frame P s t) :
      (if c then t else s).pending = s.pending ∧ (if c then t else s).due = s.due := of (.ite h (.refl P s))
  cases e with
  | startConfirm => exact ite (confirmStart_frame s)
  | stopConfirm => exact ite (confirmStop_frame s _)
  | gameExpiry => exact ite (expire_frame s _)
  | playExpiry b => exact ite (playExpire_frame s b)
  | breakExpiry => exact ite (breakExpire_frame s)
  | hornEnd which => exact ⟨rfl, rfl⟩
  | helloTimer => exact ite (helloExpire_frame s)
  | heartbeatTimer => exact ite (heartbeatExpire_frame s)
  | clockTimer => exact ite (sendClock_frame s _)
  | lossTimer => exact ite (lossExpire_frame s)
  | takeoverExpiry zone => exact of (.ite (.refl _ s) (expireTakeovers_frame s zone))
  | dwellEnd p =>
    show (s.endDwell p).pending = _ ∧ (s.endDwell p).due = _
    unfold State.endDwell
    split
    · exact ite (endAppearance_frame s p)
    · exact ⟨rfl, rfl⟩
  | holdEnd n => exact of (endHold_frame s n)
  | replyPlace l => exact ⟨mapLink_pending s l _, mapLink_due s l _⟩

theorem runDues_queues (es : List DueEvent) :
    (es.foldl (fun s e => s.runDue e) s).pending = s.pending ∧ (es.foldl (fun s e => s.runDue e) s).due = s.due := by
  induction es generalizing s with
  | nil => exact ⟨rfl, rfl⟩
  | cons e es ih => exact ⟨(ih _).1.trans (runDue_queues s e).1, (ih _).2.trans (runDue_queues s e).2⟩

@[simp] theorem settle_pending : s.settle.pending = s.pending := (runDues_queues { s with due := [] } s.due).1
@[simp] theorem settle_due : s.settle.due = [] := (runDues_queues { s with due := [] } s.due).2

/-- Nothing due, nothing to carry out. -/
theorem settle_of_due_nil (h : s.due = []) : s.settle = s := by
  unfold State.settle
  rw [h]
  cases s
  simp_all

@[simp] theorem settle_settle : s.settle.settle = s.settle := settle_of_due_nil _ (settle_due s)

end Sys2Proof.Machine
end

