-- ==== Sys2Proof/Laws/Take.lean ====
section
/-! SUPPORT. What taking a record does: the one lemma that says it for a record that is admitted, and its refusals. -/

namespace Sys2Proof.Machine

-- one proof after another: elaborated together they wait for each other, each in a thread with a stack of its own
set_option Elab.async false

/-- What `admits` says, clause by clause. -/
theorem admits_iff (h : Hdr) (kind : Nat) (s : State) : s.admits h kind = true ↔
    s.due = [] ∧ (1 ≤ h.tag ∧ h.tag ≤ 255) ∧ h.fits = true ∧ (s.link h.link).waiting = none ∧
      (s.link h.link).replies.length < 16 ∧
      (s.link h.link).inbound.head?.any (fun r => r.tag == h.tag && r.kind == kind) = true ∧
      (s.link h.link).lengthFits (statedBodyLength kind) = true ∧ (kindPermit kind).any (fun p => permitted p h.link) = true ∧
      (h.link == .table && s.twin.state == .follower && changingKinds.contains kind) = false := by
  simp only [State.admits, State.offers, State.allows, Bool.and_eq_true, between, decide_eq_true_eq, List.isEmpty_iff, Option.isNone_iff_eq_none,
    Bool.not_eq_true']
  tauto

/-- A kind of Table 1-3 is a request kind, so its reply kind is 0x80 above it (R8). -/
theorem replyKind_of_permit {kind : Nat} (h : (kindPermit kind).isSome = true) : replyKind kind = kind + 0x80 := by
  have key : ∀ e ∈ kindTable, 1 ≤ e.1 ∧ e.1 ≤ 0x7F := by decide
  unfold kindPermit at h
  rw [Option.isSome_map] at h
  obtain ⟨e, he⟩ := Option.isSome_iff_exists.mp h
  have hk : e.1 = kind := by simpa using List.find?_some he
  have := key e (List.mem_of_find?_eq_some he)
  rw [hk] at this
  unfold replyKind
  rw [if_pos this]

theorem present_of_head {l : LinkState} {tag kind : Nat} (len : Option Nat) (hw : l.waiting = none)
    (hh : l.inbound.head?.any (fun r => r.tag == tag && r.kind == kind) = true) : l.present tag kind len = some l := by
  unfold LinkState.present
  cases hi : l.inbound with
  | nil => simp [hi] at hh
  | cons r rest => simp_all

/-- An admitted record of the length its rule states passes the link's tests (R7). -/
theorem linkRefusal_admitted {h : Hdr} {kind : Nat} {s : State} (ha : s.admits h kind = true) (len : Option Nat)
    (shape : Bool) :
    s.linkRefusal h.link kind len (h.fits && shape) =
      if shape && (s.link h.link).lengthFits len then none else some .malformed := by
  obtain ⟨-, -, hf, -, -, -, -, hp, hn⟩ := (admits_iff h kind s).mp ha
  unfold State.linkRefusal
  cases hk : kindPermit kind with
  | none => simp [hk] at hp
  | some p =>
    rw [hk] at hp
    simp only [Option.any_some] at hp
    dsimp only
    rw [hp, hn, hf]
    cases shape <;> cases (s.link h.link).lengthFits len <;> rfl

/-- A record at the head of its link is served, and its reply joins the reply list (R6, R7, R8). -/
theorem takeSized_offered {h : Hdr} {kind : Nat} {s : State} (ho : s.offers h kind = true) (len : Option Nat)
    (shape : Bool) (owner : State → Answered) (hk : ((owner s).1.link h.link).replies = (s.link h.link).replies) :
    s.takeSized h kind len shape owner =
      (s.serve h.link kind len (h.fits && shape) owner).1.mapLink h.link fun l =>
        { l with
          inbound := l.inbound.tail
          replies := l.replies ++ [⟨h.tag, replyKind kind, (s.serve h.link kind len (h.fits && shape) owner).2.1,
            (s.serve h.link kind len (h.fits && shape) owner).2.2⟩] } := by
  simp only [State.offers, Bool.and_eq_true, between, decide_eq_true_eq, List.isEmpty_iff, Option.isNone_iff_eq_none]
    at ho
  obtain ⟨⟨⟨⟨hd, ht⟩, hw⟩, hr⟩, hh⟩ := ho
  have hm : (s.mapLink h.link fun _ => s.link h.link) = s := mapLink_id _ _ _ rfl
  have hs : ((s.serve h.link kind len (h.fits && shape) owner).1.link h.link).replies.length < 16 := by
    unfold State.serve
    split
    · exact hr
    · rw [hk]; exact hr
  unfold State.takeSized
  dsimp only
  rw [settle_of_due_nil s hd, if_neg (by omega), present_of_head len hw hh]
  dsimp only
  rw [hm]
  generalize s.serve h.link kind len (h.fits && shape) owner = a at hs ⊢
  obtain ⟨t, status, result⟩ := a
  generalize h.link = l at hs ⊢
  cases l <;> simp [State.mapLink, LinkState.answer, State.link] at hs ⊢ <;> simp [hs]

/-- What taking an admitted record does (R6, R7, R8): one of the stated length with its counts and choices in their sets is
handed to its owner, whose reply joins the reply list; any other is MALFORMED. -/
theorem takeSized_admitted {h : Hdr} {kind : Nat} {s : State} (ha : s.admits h kind = true) (len : Option Nat)
    (shape : Bool) (owner : State → Answered) (hk : ((owner s).1.link h.link).replies = (s.link h.link).replies) :
    s.takeSized h kind len shape owner =
      if shape && (s.link h.link).lengthFits len then (owner s).1.replied h kind (owner s).2.1 (owner s).2.2
      else s.replied h kind .malformed .none := by
  have ho : s.offers h kind = true := by simp_all [State.admits]
  have hp : (kindPermit kind).isSome = true := by
    have := ((admits_iff h kind s).mp ha).2.2.2.2.2.2.2.1
    cases hk : kindPermit kind <;> simp_all
  rw [takeSized_offered ho len shape owner hk, replyKind_of_permit hp]
  unfold State.serve
  rw [linkRefusal_admitted ha len shape]
  cases shape && (s.link h.link).lengthFits len <;> rfl

/-- A record that is admitted is handed to its owner, and its reply joins the reply list (R6, R7, R8). -/
theorem take_admitted {h : Hdr} {kind : Nat} {s : State} (ha : s.admits h kind = true) (owner : State → Answered)
    (hk : ((owner s).1.link h.link).replies = (s.link h.link).replies) :
    s.take h kind true owner = (owner s).1.replied h kind (owner s).2.1 (owner s).2.2 := by
  rw [State.take, takeSized_admitted ha _ _ owner hk, ((admits_iff h kind s).mp ha).2.2.2.2.2.2.1]
  rfl

/-- An admitted record whose counts or choices are outside their sets is MALFORMED (test 4 of R7). -/
theorem take_malformed {h : Hdr} {kind : Nat} {s : State} (ha : s.admits h kind = true) (owner : State → Answered)
    (hk : ((owner s).1.link h.link).replies = (s.link h.link).replies) :
    s.take h kind false owner = s.replied h kind .malformed .none := by
  rw [State.take, takeSized_admitted ha _ _ owner hk]
  rfl

/-- Nothing an owner does by a framed operation touches a reply list. -/
theorem Frame.replies {P : List Part} {s t : State} (h : Frame P s t) (l : Link) :
    (t.link l).replies = (s.link l).replies := h.links.keeps (·.replies) (fun _ _ _ => rfl) l

/-- The first test that fails decides a refusal; a list of tests that all pass accepts. -/
theorem tests_nil (accept : State → Answered) (s : State) : s.tests [] accept = accept s := rfl

theorem tests_cons (c : Bool) (status : Status) (rest : List (Bool × Status)) (accept : State → Answered) (s : State) :
    s.tests ((c, status) :: rest) accept = if c then s.refuse status else s.tests rest accept := by
  cases c <;> rfl

end Sys2Proof.Machine
end

