-- ==== Sys2Proof/Laws/Owners.lean ====
section
/-! SUPPORT. What each owner can change when it answers a record: one frame lemma per record kind. The owners of the link
interface also change a link or a slot; for them the lemma says what stays of the reply lists. -/

namespace Sys2Proof.Machine

-- one proof after another: elaborated together they wait for each other, each in a thread with a stack of its own
set_option Elab.async false

variable (s : State)

/-- A refusal changes nothing, so an owner changes at most what its acceptance does. -/
theorem tests_frame {P : List Part} (checks : List (Bool × Status)) {accept : State → Answered}
    (h : Frame P s (accept s).1) : Frame P s (s.tests checks accept).1 := by
  unfold State.tests
  split
  · exact .refl P s
  · exact h

theorem tests_ok_frame {P : List Part} (checks : List (Bool × Status)) {f : State → State} (h : Frame P s (f s)) :
    Frame P s (s.tests checks fun s => (f s).ok).1 := tests_frame s checks h

theorem tests_okWith_frame {P : List Part} (checks : List (Bool × Status)) {f : State → State} {r : State → Result}
    (h : Frame P s (f s)) : Frame P s (s.tests checks fun s => (f s).okWith (r s)).1 := tests_frame s checks h

/-! ## Link interface -/

theorem subscribeOwner_replies (link : Link) (codes : List Nat) (l : Link) :
    ((subscribeOwner link codes s).1.link l).replies = (s.link l).replies := by
  unfold subscribeOwner State.tests
  split
  · rfl
  · cases link <;> cases l <;> rfl

theorem conditionsOwner_replies (link l : Link) :
    ((conditionsOwner link s).1.link l).replies = (s.link l).replies := by cases link <;> cases l <;> rfl

theorem slotPostOwner_replies (link : Link) (text : Text) (l : Link) :
    ((slotPostOwner link text s).1.link l).replies = (s.link l).replies := by
  unfold slotPostOwner State.tests
  split
  · rfl
  · cases link <;> cases l <;> rfl

theorem slotTakeOwner_replies (link l : Link) : ((slotTakeOwner link s).1.link l).replies = (s.link l).replies := by
  unfold slotTakeOwner
  split
  · rfl
  · cases link <;> cases l <;> rfl

theorem restartOwner_replies (l : Link) : ((restartOwner s).1.link l).replies = (s.link l).replies :=
  ((restart_frame s).replies l).trans (by cases l <;> rfl)

/-! ## Timing -/

theorem trimOwner_frame (t : Int) : Frame [.clock] s (trimOwner t s).1 := clock_frame s (fun m => { m with trim := clampTrim t }) fun _ => by simp

theorem setRules_frame (r : ClockRules) : Frame [.clock, .phase] s (s.mapTiming (Timing.setRules r)) :=
  .update ⟨rfl, rfl⟩ ⟨rfl, rfl⟩ fun p hp => by cases p <;> simp_all [samePart, Timing.setRules]

theorem clockRulesOwner_frame (r : ClockRules) : Frame [.clock, .phase, .twinOut] s (clockRulesOwner r s).1 :=
  tests_frame s _ (((Frame.mono (setRules_frame s r)).next (sampleLine_frame _)).next (sendStateIfMaster_frame _))

theorem clockStartOwner_frame : Frame expiryParts s (clockStartOwner s).1 :=
  tests_frame s _ (.ite (.refl _ s) (linkStart_frame s))

theorem clockStopOwner_frame : Frame ([.clock] ++ runParts) s (clockStopOwner s).1 :=
  tests_frame s _ (.ite (linkStop_frame s) (.refl _ s))

theorem clockSetOwner_frame (v : Nat) : Frame ([.clock, .twinOut] ++ endParts) s (clockSetOwner v s).1  := by
  unfold clockSetOwner
  exact tests_ok_frame s _ (setClock_frame s v)

theorem clockAdjustOwner_frame (d : Int) : Frame expiryParts s (clockAdjustOwner d s).1  := by
  unfold clockAdjustOwner
  exact tests_okWith_frame s _ (adjustClock_frame s d)

theorem playResetOwner_frame (c : PlayChoice) : Frame [.clock, .twinOut] s (playResetOwner c s).1 :=
  tests_ok_frame s _ ((Frame.mono (clock_frame s _ fun _ => by simp)).next (sendClock_frame _ _))

theorem playEnableOwner_frame (on : Bool) : Frame [.clock, .twinOut] s (playEnableOwner on s).1 :=
  tests_ok_frame s _ ((Frame.mono (clock_frame s _ fun _ => by simp)).next (sendClock_frame _ _))

theorem breakStartOwner_frame (n : Nat) (b : Bool) :
    Frame [.clock, .zones, .channels, .features, .twinOut] s (breakStartOwner n b s).1 :=
  tests_ok_frame s _ (((Frame.mono (clock_frame s _ fun _ => by simp [Timing.startBreak])).next
    (featureBreakStart_frame _ _)).next (sendClock_frame _ _))

theorem breakCancelOwner_frame : Frame ([.clock, .twinOut] ++ endParts) s (breakCancelOwner s).1 :=
  tests_ok_frame s _ (((Frame.mono (clock_frame s _ fun _ => by simp)).next (featureBreakCancel_frame _)).next
    (sendClock_frame _ _))

theorem hornOwner_frame (which : Horn) (d : Nat) : Frame [.horns] s (hornOwner which d s).1 :=
  tests_frame s _ (soundHorn_frame s _ _)

/-! ## Record -/

theorem gameFinalOwner_frame : Frame gameParts s (gameFinalOwner s).1 := tests_frame s _ (finalGame_frame s _)
theorem gameOpenOwner_frame : Frame gameParts s (gameOpenOwner s).1 := tests_frame s _ (openGame_frame s _)
theorem nextPeriodOwner_frame : Frame gameParts s (nextPeriodOwner s).1 := tests_frame s _ (advancePeriod_frame s _)

theorem scoreAddOwner_frame (team : Team) (n : Nat) : Frame scoreParts s (scoreAddOwner team n s).1 :=
  tests_frame s _ (addScore_frame s _ _ _)

theorem scoreReviseOwner_frame (seq : Nat) : Frame [.game, .twinOut, .twin] s (scoreReviseOwner seq s).1 := by
  unfold scoreReviseOwner
  split
  · exact .refl _ s
  · split
    · exact .refl _ s
    · split
      · exact reviseScore_frame s _ _
      · exact .refl _ s

theorem teamSetOwner_frame (team : Team) (f : TeamFields) : Frame [.game, .twinOut, .twin] s (teamSetOwner team f s).1 :=
  tests_frame s _ (applyTeam_frame s _ _)

theorem fieldDefineOwner_frame (defs : List FieldDef) : Frame [.game, .twinOut, .twin] s (fieldDefineOwner defs s).1 :=
  tests_frame s _ (applyDefs_frame s _)

theorem fieldSetOwner_frame (i v : Nat) : Frame [.game, .twinOut, .twin] s (fieldSetOwner i v s).1 :=
  tests_frame s _ (applyField_frame s _ _)

theorem logReadOwner_frame (n : Nat) : Frame [] s (logReadOwner n s).1 := tests_frame s _ (.refl _ s)

theorem recordConfigOwner_frame (c : RecordConfig) : Frame [.game, .twinOut, .twin] s (recordConfigOwner c s).1 :=
  tests_frame s _ (applyConfig_frame s _)

/-! ## Twin and canvas -/

theorem twinConfigOwner_frame (role : TwinRole) (token comp : Nat) :
    Frame twinParts s (twinConfigOwner role token comp s).1 := tests_frame s _ (configureTwin_frame s _ _ _)

theorem canvasConfigOwner_frame (rate : Rate) (w h : Nat) : Frame [.canvas] s (canvasConfigOwner rate w h s).1 :=
  tests_ok_frame s _ (canvas_frame s _ fun _ => by simp)

theorem layoutOwner_frame (n : Nat) (zs : List ZoneSpec) : Frame [.canvas] s (layoutOwner n zs s).1 :=
  tests_ok_frame s _ (canvas_frame s _ fun _ => by simp)

theorem assetDefineOwner_frame (id : Nat) (k : AssetKind) (n m : Nat) :
    Frame [.assets] s (assetDefineOwner id k n m s).1 :=
  tests_frame s _ (assets_frame s
    (fun c => { c.clearMissing id with assets := c.assets ++ [⟨id, k, n, m, [], false⟩] }) fun _ => by
      simp [Canvas.clearMissing])

theorem loadChunk_frame (a : Asset) (data : List Byte) : Frame [.assets] s (s.loadChunk a data) := by
  have h (f : Canvas → List Asset) : Frame [.assets] s (s.mapCanvas fun c => { c with assets := f c }) :=
    assets_frame s _ fun _ => by simp
  exact .ite (((h _).next (assets_frame _ _ fun _ => by simp [Canvas.clearMissing])).next (raise_frame _ _ _)) (h _)

theorem assetChunkOwner_frame (id o n : Nat) (d : List Byte) : Frame [.assets] s (assetChunkOwner id o n d s).1 := by
  unfold assetChunkOwner
  split
  · exact .refl _ s
  · split
    · exact .refl _ s
    · exact tests_frame s _ (loadChunk_frame s _ _)

theorem assetDropOwner_frame (id : Nat) : Frame [.assets] s (assetDropOwner id s).1 :=
  tests_frame s _ ((assets_frame s _ fun _ => by simp).next (raise_frame _ _ _))

theorem inputConfigOwner_frame (a b c d : InputSetting) :
    Frame [.inputs, .rings, .clips, .readers] s (inputConfigOwner a b c d s).1 :=
  tests_frame s _ ((((configureInput_frame s _ _).next (configureInput_frame _ _ _)).next
    (configureInput_frame _ _ _)).next (configureInput_frame _ _ _))

/-! ## Arbiter -/

theorem takeoverZones_frame (r : Request) (zones : List Nat) :
    Frame [.zones, .channels] s (s.takeoverZones r zones).1 := by
  suffices h : ∀ (zs : List Nat) (acc : State × List (Nat × TakeoverResult)), Frame [.zones, .channels] s acc.1 →
      Frame [.zones, .channels] s (zs.foldl (fun acc z =>
        let (s, a) := acc.1.request z r true
        (s, acc.2 ++ [(z, s.takeoverResult z r.level a)])) acc).1 from h zones (s, []) (.refl _ s)
  intro zs
  induction zs with
  | nil => exact fun _ h => h
  | cons z zs ih => exact fun acc h => ih _ (h.next (request_frame acc.1 z r true))

theorem takeoverOwner_frame (l : Nat) (z : ZoneSet) (a d : Nat) :
    Frame [.zones, .channels] s (takeoverOwner l z a d s).1 := tests_frame s _ (takeoverZones_frame s _ _)

theorem releaseOwner_frame (l : Nat) (z : ZoneSet) : Frame endParts s (releaseOwner l z s).1 :=
  tests_frame s _ (endAll_frame s _ _)

theorem clearTopOwner_frame (z : Nat) : Frame endParts s (clearTopOwner z s).1 := by
  unfold clearTopOwner
  split
  · exact .refl _ s
  · exact tests_frame s _ (endAll_frame s _ _)

theorem maskOwner_frame (z : Nat) (l : List Nat) : Frame [.zones, .channels] s (maskOwner z l s).1 :=
  tests_frame s _ ((Frame.mono (mapArb_frame s _ _)).next (evaluate_frame _ _))

theorem yieldOwner_frame (z l : Nat) (b : Bool) : Frame [.zones, .channels] s (yieldOwner z l b s).1 :=
  tests_frame s _ ((Frame.mono (mapArb_frame s _ _)).next (evaluate_frame _ _))

theorem zonePolicyOwner_frame (z : Nat) (p : Policies) : Frame [.zones, .channels] s (zonePolicyOwner z p s).1 :=
  tests_frame s _ ((Frame.mono (mapZone_frame s _ _)).next (evaluate_frame _ _))

theorem zoneQueryOwner_frame (z : Nat) : Frame [] s (zoneQueryOwner z s).1 := by
  unfold zoneQueryOwner
  split <;> exact .refl _ s

/-! ## Capture and replay -/

theorem ringPartitionOwner_frame (a b c d : Nat) : Frame [.rings, .clips] s (ringPartitionOwner a b c d s).1 :=
  tests_frame s _ (partitionRings_frame s _ _ _ _)

theorem captureRestartOwner_frame (n : Nat) : Frame [.rings, .readers, .clips] s (captureRestartOwner n s).1 :=
  tests_frame s _ (captureRestart_frame s _)

theorem marginSetOwner_frame (n : Nat) (t : Threshold) : Frame [.rings, .readers] s (marginSetOwner n t s).1 :=
  tests_frame s _ ((((Frame.mono (mapRing_frame s _ _)).next (testReaderOf_frame _ _ _)).next
    (testReaderOf_frame _ _ _)).next (testReaderOf_frame _ _ _))

theorem ringStatusOwner_frame (n : Nat) : Frame [] s (ringStatusOwner n s).1 := tests_frame s _ (.refl _ s)

theorem clips_frame (f : Replay → Replay) (hf : ∀ r, (f r).chanA = r.chanA ∧ (f r).chanB = r.chanB) :
    Frame [.clips] s (s.mapReplay f) :=
  .update ⟨rfl, rfl⟩ ⟨rfl, rfl⟩ fun p hp => by cases p <;> simp_all [samePart]

theorem clipCreateOwner_frame (id i a b : Nat) (t : Option Nat) (l : Option Text) :
    Frame [.clips] s (clipCreateOwner id i a b t l s).1 := tests_okWith_frame s _ (clips_frame s _ fun _ => by simp)

theorem enqueueSave_frame (id : Nat) (f : Clip → Clip) : Frame [.clips, .readers] s
    ((s.mapClip id f).mapReplay fun r => { r with saveQueue := r.saveQueue ++ [id] }).syncReaders :=
  ((Frame.mono (mapClip_frame s id f)).next (saveQueue_frame _ fun q => q ++ [id])).next (syncReaders_frame _)

theorem clipSaveOwner_frame (id : Nat) : Frame [.clips, .readers] s (clipSaveOwner id s).1 := by
  unfold clipSaveOwner
  split
  · exact .refl _ s
  · split
    · exact .refl _ s
    · split
      · exact .refl _ s
      · exact .refl _ s
      · exact .refl _ s
      · split
        · exact .refl _ s
        · split
          · exact .refl _ s
          · exact enqueueSave_frame s id _

theorem dropClip_frame (id : Nat) : Frame [.clips, .readers] s (s.mapReplay fun r =>
    { r with clips := r.clips.filter (·.id != id), saveQueue := r.saveQueue.filter (· != id) }).syncReaders := by
  have h := clips_frame s (fun r =>
    { r with clips := r.clips.filter (·.id != id), saveQueue := r.saveQueue.filter (· != id) }) fun _ => ⟨rfl, rfl⟩
  exact Frame.next (Q := [.readers]) (Frame.mono (P := [.clips, .readers]) h) (syncReaders_frame _)

theorem clipDeleteOwner_frame (id : Nat) : Frame [.clips, .readers] s (clipDeleteOwner id s).1 :=
  tests_frame s _ (dropClip_frame s id)

theorem clipReadOwner_frame (id : Nat) : Frame [] s (clipReadOwner id s).1 := by
  unfold clipReadOwner
  split
  · exact .refl _ s
  · split <;> exact .refl _ s

theorem cueAddOwner_frame (ch : Channel) (f : CueFields) : Frame [.channels, .readers] s (cueAddOwner ch f s).1 := by
  unfold cueAddOwner
  split
  · exact .refl _ s
  · split
    · exact .refl _ s
    · exact tests_frame s _ (addCue_frame s _ _ _)

theorem cueRemoveOwner_frame (ch : Channel) (n : Nat) : Frame [.channels, .readers] s (cueRemoveOwner ch n s).1 :=
  tests_frame s _ (removeCue_frame s _ _)

theorem channelRollOwner_frame (ch : Channel) : Frame [.zones, .channels, .readers] s (channelRollOwner ch s).1 :=
  tests_frame s _ (roll_frame s _)

theorem channelStopOwner_frame (ch : Channel) : Frame endParts s (channelStopOwner ch s).1 :=
  tests_frame s _ (releaseEntry_frame s _ _)

theorem channelSpeedOwner_frame (ch : Channel) (v : Int) : Frame [.channels] s (channelSpeedOwner ch v s).1 :=
  tests_ok_frame s _ (mapChan_frame s _ _)

theorem channelChainOwner_frame (ch : Channel) (b : Bool) : Frame [.channels] s (channelChainOwner ch b s).1 :=
  mapChan_frame s ch fun c => { c with chain := b }

/-! ## Rotation and exposure -/

theorem sponsors_frame (f : Rotation → Rotation)
    (hf : ∀ r, (f r).programs = r.programs ∧ (f r).features = r.features ∧ (f r).featuresDropped = r.featuresDropped ∧
      (f r).nextFeature = r.nextFeature ∧ (f r).breakRecorded = r.breakRecorded) :
    Frame [.sponsors] s (s.mapRotation f) :=
  .update ⟨rfl, rfl⟩ ⟨rfl, rfl⟩ fun p hp => by cases p <;> simp_all [samePart]

theorem sponsorDefineOwner_frame (id : Nat) (n : Text) (q : Option Nat) :
    Frame [.sponsors, .exposure] s (sponsorDefineOwner id n q s).1 :=
  tests_ok_frame s _ ((Frame.mono (sponsors_frame s _ fun _ => by simp)).next (setQuota_frame _ _ _))

theorem sponsorRemoveOwner_frame (id : Nat) : Frame [.sponsors, .exposure] s (sponsorRemoveOwner id s).1 :=
  tests_ok_frame s _ ((Frame.mono (sponsors_frame s _ fun _ => by simp)).next (setQuota_frame _ _ _))

theorem rotationLoadOwner_frame (p n : Nat) (es : List RotEntry) :
    Frame [.programs, .exposure] s (rotationLoadOwner p n es s).1 := tests_frame s _ (loadProgram_frame s _ _)

theorem rotationModeOwner_frame (p : Nat) (m : RotMode) (c : Cover) : Frame [.programs] s (rotationModeOwner p m c s).1 :=
  tests_ok_frame s _ (mapProgram_frame s _ _)

theorem rotationSuspendOwner_frame (p id : Nat) : Frame [.programs, .exposure] s (rotationSuspendOwner p id s).1 :=
  tests_frame s _ (suspendEntry_frame s _ _)

theorem rotationResumeOwner_frame (p id : Nat) : Frame [.programs] s (rotationResumeOwner p id s).1 :=
  tests_ok_frame s _ (mapProgram_frame s _ _)

theorem rotationFrontOwner_frame (p id : Nat) : Frame [.programs] s (rotationFrontOwner p id s).1 :=
  tests_frame s _ (mapProgram_frame s p (Program.front id))

theorem rotationStatusOwner_frame (p : Nat) : Frame [] s (rotationStatusOwner p s).1 := tests_frame s _ (.refl _ s)

theorem featureAddOwner_frame (a b c : Nat) (z : ZoneSet) :
    Frame [.zones, .channels, .features] s (featureAddOwner a b c z s).1 := tests_frame s _ (appendFeature_frame s _ _ _ _ _)

theorem breakFeatureOwner_frame (c : Option (Nat × Nat)) : Frame [.sponsors] s (breakFeatureOwner c s).1 :=
  tests_ok_frame s _ (sponsors_frame s _ fun _ => by simp)

theorem quotaSetOwner_frame (id : Nat) (q : Option Nat) : Frame [.exposure] s (quotaSetOwner id q s).1 :=
  tests_frame s _ (setQuota_frame s _ _)

theorem counterMaskOwner_frame (m : CounterMask) (n : Nat) : Frame [.exposure] s (counterMaskOwner m n s).1 :=
  tests_ok_frame s _ (mapExposure_frame s _)

theorem exposureReadOwner_frame (id : Nat) : Frame [] s (exposureReadOwner id s).1 := tests_frame s _ (.refl _ s)

/-! ## Crawl -/

theorem crawlConfigOwner_frame (c : CrawlConfig) :
    Frame [.crawlConfig, .programs, .exposure] s (crawlConfigOwner c s).1 := tests_frame s _ (configureCrawl_frame s _)

theorem raiseBacklog_frame : Frame [] s s.raiseBacklog := .ite (raise_frame s _ _) (.refl _ s)

theorem msgSubmitOwner_frame (id : Nat) (t : Text) (n : Nat) (c : MsgClass) :
    Frame [.crawl] s (msgSubmitOwner id t n c s).1 :=
  tests_frame s _ ((mapCrawl_frame s _ fun _ => by rfl).next (raiseBacklog_frame _))

theorem msgApproveOwner_frame (id : Nat) : Frame [.zones, .channels, .crawl] s (msgApproveOwner id s).1 := by
  unfold msgApproveOwner
  split
  · exact .refl _ s
  · split
    · exact .refl _ s
    · exact tests_frame s _ (approveMessage_frame s _)

theorem msgRejectOwner_frame (id : Nat) : Frame [.crawl] s (msgRejectOwner id s).1 := by
  unfold msgRejectOwner
  split
  · exact .refl _ s
  · split
    · exact .refl _ s
    · exact tests_frame s _ (finishMessage_frame s _ _)

theorem msgWithdrawOwner_frame (id : Nat) : Frame endParts s (msgWithdrawOwner id s).1 := by
  unfold msgWithdrawOwner
  split
  · exact .refl _ s
  · split
    · exact .refl _ s
    · exact withdrawMessage_frame s _

theorem msgListOwner_frame (n : Nat) (f : ListForm) : Frame [] s (msgListOwner n f s).1 := tests_frame s _ (.refl _ s)

end Sys2Proof.Machine
end

