-- ==== Sys2Proof/Tests/Slice0.lean ====
section
/-! SUPPORT. Tests: commands that WellFormed refuses, worked sequences of the spec (one step each; the comment names the
sequence), and for each obligation that has hypotheses a state and operands that meet them, at the edges of its clauses. -/

namespace Sys2Proof.Tests

open Sys2Proof Sys2Proof.Machine

-- one theorem after another: the kernel's evaluations would else wait for each other in a thread each
set_option Elab.async false

/-! ## Words and ill-formed commands -/

/-- No word spells a command: the table gives no row any bits. -/
theorem test_no_word_spells : decodeTableWord 8 0xC3 = none := by decide

def hP : Hdr := ⟨.production, 1, true⟩
def hT : Hdr := ⟨.table, 1, true⟩

/-- R5: a record that is taken has a tag of 1..255. -/
theorem test_wf_tag : (Instr.clockRead ⟨.table, 0, true⟩).wf = false ∧ (Instr.clockRead ⟨.table, 255, true⟩).wf = true ∧
    (Instr.clockRead ⟨.table, 256, true⟩).wf = false := by decide

/-- R1: each strap within its link's rates. -/
theorem test_wf_straps : (Instr.powerOn 0 115200 .low).wf = false ∧ (Instr.powerOn 12000001 115200 .low).wf = false ∧
    (Instr.powerOn 12000000 115199 .low).wf = false ∧ (Instr.powerOn 12000000 921600 .high).wf = true := by decide

/-- Section 1.1: a kind of one byte. -/
theorem test_wf_kind : (Instr.unknownKindRecord .table 1 256).wf = false ∧ (Instr.unknownKindRecord .table 0 9).wf = false ∧
    (Instr.unknownKindRecord .table 1 255).wf = true := by decide

/-- R4: LEN of two bytes and above 1,024. -/
theorem test_wf_len : (Instr.lenOversized .table 1024).wf = false ∧ (Instr.lenOversized .table 65536).wf = false ∧
    (Instr.lenOversized .table 1025).wf = true := by decide

/-- R69: part numbers in order; R80 and R59: numbers of 16 bits; R70: a token of 32 bits. -/
theorem test_wf_numbers : (Instr.twinHeartbeatReceived 65536 true).wf = false ∧
    (Instr.twinEventReceived ⟨65536, .gameFinal, 1⟩).wf = false ∧ (Instr.twinEventReceived ⟨0, .gameFinal, 65536⟩).wf = false ∧
    (Instr.twinConfig hP .off (2 ^ 32) 0).wf = false ∧ (Instr.scoreRevise hT 65536).wf = false ∧
    (Instr.logRead hT 65536).wf = false ∧ (Instr.msgReject hP 65536).wf = false := by decide

/-- R56: counts of 16 bits; and an input, zone or program the part has. -/
theorem test_wf_ids : (Instr.teamSet hT .home ⟨none, some 65536, none, none⟩).wf = false ∧
    (Instr.teamSet hT .home ⟨none, none, some 65536, none⟩).wf = false ∧ (Instr.cameraFrame 4 true).wf = false ∧
    (Instr.inputSignalTimeout 4).wf = false ∧ (Instr.signalLossHoldEnd 4).wf = false ∧ (Instr.takeoverExpiry 8).wf = false ∧
    (Instr.appearanceDwellEnd 4).wf = false := by decide

/-- R69: characters after which the twin receiver is in HUNT are no incomplete frame; SYNC opens one. -/
theorem test_wf_twin_silence : (Instr.twinReceiverSilenceExpiry []).wf = false ∧
    (Instr.twinReceiverSilenceExpiry [⟨0xC3#8, false⟩, ⟨0xC2#8, true⟩]).wf = false ∧
    (Instr.twinReceiverSilenceExpiry [⟨0xC3#8, true⟩]).wf = true ∧ Instr.twinReceiverSilenceExpiry.wf = true := by decide

/-! ## A small arena -/

/-- A zone of 1,920 × 100 pixels with weight 10, no takeover, and all attributes or none. -/
def zone (id : Nat) (role : ZoneRole) (base : Base) (targets : Bool) (policy : Policies) : Zone :=
  ⟨⟨id, 0, 100 * id, 1920, 100, role, base, 10, ⟨targets, targets, targets, targets⟩, policy⟩, ⟨[], [], [], [], 1⟩, 0⟩

def easy : Policies := ⟨.free, .free, .free, .free, .free, .free, .hold⟩

def entry0 : RotEntry := ⟨10, some 3, 5, 5000, false⟩

/-- The part in use: the clock, the main board (level 7 held during play), the crawl ribbon and a sponsor panel; asset 5
READY and asset 6 loading; sponsor 3 one unit short of its quota; a program on air; a saved clip 0 and a clip 1 in the ring
of input 0; one score in the log; a held and a queued message. -/
def arena : State :=
  { State.reset with
    canvas := { Canvas.reset with
      zones := [zone 0 .clock .clock false allCut, zone 1 .main (.camera 0) true easy, zone 2 .ribbon .crawl false easy,
        zone 3 .sponsor (.rotation 0) false easy]
      assets := [⟨5, .still, 1, 1, [7#8], true⟩, ⟨6, .still, 1, 4, [7#8], false⟩] }
    capture := { Capture.reset with rings := [⟨1200, 200, 0, some ⟨60, 1⟩, .preset120⟩, .reset, .reset, .reset] }
    replay := { Replay.reset with clips :=
      [⟨0, 0, 10, 19, ⟨60, 1⟩, .saved 0, none, none⟩, ⟨1, 0, 100, 109, ⟨60, 1⟩, .ring, none, none⟩] }
    rotation := { Rotation.reset with
      sponsors := [⟨3, [0x41#8]⟩]
      programs := [{ Program.reset with entries := [entry0], onAir := some ⟨some entry0, 300, 0, 0, 0⟩ }, .reset, .reset,
        .reset] }
    exposure :=
      { Exposure.reset with ids := Exposure.reset.ids.set 3 { Exposed.reset with delivered := 999, quota := some 1000 } }
    record := { GameRecord.reset with game := { GameRecord.reset.game with
      home := ⟨[0x41#8], 2, 0, 0⟩, fields := [⟨⟨[0x46#8], 5, true⟩, 4⟩], log := [⟨1, .add false, .home, 2, 2, 1, 720000⟩]
      nextSeq := 2 } }
    crawl := { Crawl.reset with
      messages := [⟨1, [0x41#8], 1, .featured, .held, false, 0⟩, ⟨2, [0x41#8], 2, .ordinary, .queued, false, 0⟩]
      order := [2] } }

/-- A record of the kind stands at the head of the link. -/
def ready (link : Link) (kind : Nat) (s : State) : State :=
  s.mapLink link fun l =>
    { l with inbound := [⟨1, kind, List.replicate ((statedBodyLength kind).getD 0) 0⟩] }

/-- The state after a command (every command answers a next state). -/
def after (c : Instr) (s : State) : State :=
  match exec c s with
  | .next t => t
  | _ => s

/-- The last reply of a link after a command taken there. -/
def answer (link : Link) (c : Instr) (s : State) : Option (Status × Result) :=
  (((after c s).link link).replies.getLast?).map fun r => (r.status, r.result)

/-- The status of a production record taken on the arena, and of a table record. -/
def statusP (kind : Nat) (c : Instr) : Option Status := (answer .production c (ready .production kind arena)).map (·.1)
def statusT (kind : Nat) (c : Instr) : Option Status := (answer .table c (ready .table kind arena)).map (·.1)

/-- The latest detail of a condition kind. -/
def latest (c : Cond) (s : State) : Detail := (s.production.entry c).latest

theorem arena_tablesWf : arena.tablesWf where
  inputs := rfl
  rings := rfl
  programs := rfl
  ids := rfl
  counters := by unfold Exposed.wf; decide +kernel

theorem ready_tablesWf (link : Link) (kind : Nat) (s : State) (h : s.tablesWf) : (ready link kind s).tablesWf := by
  cases link <;> exact ⟨h.inputs, h.rings, h.programs, h.ids, h.counters⟩

theorem arena_zonesWf : arena.zonesWf where
  ids := by decide
  small := by decide
  arb := by
    intro z hz
    refine ⟨?_, ?_, ?_, ?_, ?_, ?_, ?_⟩ <;> revert hz <;> revert z <;> decide
  awaiting := by decide

theorem ready_zonesWf (link : Link) (kind : Nat) (s : State) (h : s.zonesWf) : (ready link kind s).zonesWf := by
  cases link <;> exact ⟨h.ids, h.small, h.arb, h.awaiting⟩

/-! ## Worked sequences of the spec -/

/-- R2: the check value of "123456789". -/
theorem test_crc : crc16 [0x31#8, 0x32#8, 0x33#8, 0x34#8, 0x35#8, 0x36#8, 0x37#8, 0x38#8, 0x39#8] = 0x29B1#16 := by
  decide +kernel

/-- The table under R88. -/
theorem test_conversion : framesOf ⟨50, 1⟩ 1500 = 75 ∧ framesOf ⟨60000, 1001⟩ 1500 = 90 ∧ framesOf ⟨60000, 1001⟩ 5000 = 300 ∧
    framesOf ⟨60, 1⟩ 4000 = 240 ∧ framesOf ⟨50, 1⟩ 1 = 1 := by decide

/-- 2.11, "Trim over one minute": a step on which A passes 1,000,000 counts 0 ms. -/
def trimmed : State :=
  { arena with timing := { arena.timing with trim := -250, trimAcc := 999750, v := 60000, run := .running } }

theorem test_trim_step : (after .timeBaseStep trimmed).timing.v = 60000 ∧ (after .timeBaseStep trimmed).timing.trimAcc = 0 := by
  decide

/-- 2.11, "A stop window that catches an expiry": the step t0 + 5 and its confirmation. -/
def stopping : State :=
  { arena with
    due := [.stopConfirm]
    timing := { arena.timing with
      v := 0, run := .running, gate := .stopPending, settled := .run, window := 5, counted := 3, expiryPending := true
      playEnabled := false } }

theorem test_stop_confirmed : let t := after .stopWindowConfirm stopping;
    t.timing.v = 3 ∧ t.timing.run = .stopped ∧ t.timing.expiryPending = false ∧ t.timing.gameHorn = none ∧
      latest .runChanged t = .runChanged .stopped .line 3 3 ∧ t.timing.clockText = [0x30#8, 0x2E#8, 0x31#8] := by decide

/-- The same sequence, the line returning after t0 + 4. -/
theorem test_stop_rejected :
    let t := after (.runLineEdge .high) { stopping with due := [], timing := { stopping.timing with window := 4 } };
    t.timing.v = 0 ∧ t.timing.run = .stopped ∧ t.timing.atLimit = true ∧ t.timing.gameHorn = some 1500 ∧
      latest .runChanged t = .runChanged .stopped .expiry 0 0 := by decide

/-- 2.11, "A backdated start near one minute". -/
theorem test_start_backdated :
    let t := after .startWindowConfirm { arena with
      due := [.startConfirm]
      timing := { arena.timing with v := 60000, gate := .startPending, window := 5 } };
    t.timing.v = 59995 ∧ t.timing.play = 23995 ∧ t.timing.run = .running ∧ t.record.game.session = .inGame ∧
      t.timing.clockText = [0x31#8, 0x3A#8, 0x30#8, 0x30#8] ∧
      ({ t.timing with v := 59895 } : Timing).clockText = [0x35#8, 0x39#8, 0x2E#8, 0x39#8] := by decide

/-- 3.8, "Saturation and revision": 998 and +6, then the revision of that entry. -/
def nearTop : State :=
  { arena with record := { arena.record with game := { arena.record.game with
    home := { arena.record.game.home with score := 998 }, nextSeq := 42 } } }

theorem test_score_saturates : answer .table (.scoreAdd hT .home 6) (ready .table 0x23 nearTop) =
    some (.ok, .score 42 1 999) := by decide

theorem test_score_revised :
    let s := { nearTop with record := { nearTop.record with game := { nearTop.record.game with
      home := ⟨[], 999, 0, 0⟩, nextSeq := 44
      log := [⟨42, .add false, .home, 1, 999, 1, 0⟩, ⟨43, .add false, .home, 0, 999, 1, 0⟩] } } }
    answer .table (.scoreRevise hT 42) (ready .table 0x24 s) = some (.ok, .score 44 (-1) 998) := by decide

/-- 4.7, "First resolution": 4,100 decides master, 3,900 follower. -/
theorem test_first_resolution :
    decide72 .autoPreferMaster 4100 .none ⟨.autoPreferMaster, 3900, .none, .setup, .solo⟩ = .master ∧
      decide72 .autoPreferMaster 3900 .none ⟨.autoPreferMaster, 4100, .none, .setup, .solo⟩ = .follower := by decide

/-- 4.7 and R76, a master that comes back: last role NONE against the orphan's, which step 3 makes master. -/
theorem test_orphan_stays_master :
    decide72 .autoPreferFollower 7 .follower ⟨.autoPreferMaster, 9, .none, .setup, .resolving⟩ = .master ∧
      decide72 .autoPreferMaster 9 .none ⟨.autoPreferFollower, 7, .follower, .setup, .orphan⟩ = .follower := by decide

/-- 4.7, "Keeping the follower's clock": the first row. -/
def following : State :=
  { arena with
    timing := { arena.timing with v := 45303, run := .running }
    twin := { arena.twin with
      role := .autoPreferFollower, compensation := 12, state := .follower, heartbeatTimer := some 250, lossTimer := some 9
      eventNo := 30 } }

theorem test_follower_compensates :
    (after (.twinClockReceived ⟨.periodic, { following.clockFields with v := 45300 }⟩) following).timing.v = 45288 := by
  decide

/-- 4.7, "A lost EVENT": 32 arrives where 31 is expected. -/
theorem test_lost_event : let t := after (.twinEventReceived ⟨32, .gameFinal, 2⟩) following;
    t.twin.resync = true ∧ t.twin.out = [.heartbeat 30 true] ∧ t.record = following.record := by decide

/-- 5.9, "Loading a still": the definition (the store else empty). -/
theorem test_asset_defined : answer .production (.assetDefine hP 7 .still 1 2500) (ready .production 0x3A State.reset) =
    some (.ok, .count 268432956) := by decide

/-- 5.9, "Losing a camera": the hold of 120 counts to 119 at the frame event that follows. -/
theorem test_hold_counts :
    let s := { arena with canvas := { arena.canvas with inputs :=
      [{ Input.reset with enabled := true, loss := .holding, holdFrames := 120, held := some 4 }, .reset, .reset, .reset] } }
    ((after .outputFrameEvent s).input 0).holdFrames = 119 := by decide +kernel

/-- 6.10, "Reading a zone": 5 masked, 6 held, 4 yielded, 7 in service beneath. -/
def reading : Zone :=
  { zone 4 .general .slate false ⟨.free, .free, .free, .free, .free, .hold, .free⟩ with
    arb := ⟨[⟨5, .asset 5, none, none, 1⟩, ⟨6, .card 1, none, none, 2⟩],
      [⟨4, .channel .b, none, 1, 0, none, 0⟩, ⟨7, .asset 5, some 9, 1, 0, none, 0⟩], [5], [4], 3⟩ }

theorem test_zone_read :
    let s := { arena with
      timing := { arena.timing with run := .running }
      canvas := { arena.canvas with zones := [reading] } }
    (match answer .production (.zoneQuery hP 4) (ready .production 0x46 s) with
      | some (.ok, .zoneQuery r) => r.heldLevels == [6] && r.top == .level 7 && r.wouldGrant == none
      | _ => false) = true := by decide +kernel

/-- 7.8, "A partition". -/
theorem test_partition :
    answer .production (.ringPartition hP 36000 36000 12000 0) (ready .production 0x48 State.reset) =
      some (.ok, .count 47072) ∧
    answer .production (.ringPartition hP 120000 12000 0 0) (ready .production 0x48 State.reset) = some (.range, .none) := by
  decide

/-- 7.8, "Filling a ring": frame 11,200 takes the slot of frame 10,000, which clip 5 has not saved. -/
theorem test_overwrite :
    let s := { arena with
      canvas := { arena.canvas with inputs := [{ Input.reset with enabled := true, signal := true, loss := .live }, .reset,
        .reset, .reset] }
      capture := { arena.capture with rings := [⟨1200, 11200, 10000, some ⟨60, 1⟩, .preset120⟩, .reset, .reset, .reset] }
      replay := { arena.replay with clips := [⟨5, 0, 10000, 10599, ⟨60, 1⟩, .ring, none, none⟩] } }
    let t := after (.cameraFrame 0 true) s;
    (t.ring 0).w = 11201 ∧ (t.ring 0).oldest = 10001 ∧ t.replay.clips.map (·.state) = [.lost] := by decide

/-- 8.9, "First-fit in the store": clip 4 finds no run of 24,000 slots, clip 5 takes the run at 12,000. -/
def stored : State :=
  { arena with
    capture := { arena.capture with rings := [⟨36000, 60000, 0, some ⟨60, 1⟩, .preset120⟩, ⟨36000, 0, 0, none, .preset120⟩,
      ⟨12000, 0, 0, none, .preset120⟩, .reset] }
    replay := { arena.replay with clips :=
      [⟨1, 0, 1, 12000, ⟨60, 1⟩, .saved 0, none, none⟩, ⟨3, 0, 1, 10000, ⟨60, 1⟩, .saved 32000, none, none⟩,
        ⟨4, 0, 30001, 54000, ⟨60, 1⟩, .ring, none, none⟩, ⟨5, 0, 30001, 34000, ⟨60, 1⟩, .ring, none, none⟩] } }

theorem test_first_fit : answer .production (.clipSave hP 4) (ready .production 0x51 stored) = some (.noSpace, .none) ∧
    answer .production (.clipSave hP 5) (ready .production 0x51 stored) = some (.ok, .pair 12000 0) ∧
    stored.freeSlots = 25072 := by decide

/-- 8.9, "Cadence at 400 permille, with a loop": frame 8, where pass 1 ends. -/
def cadence : State :=
  { arena with
    canvas := { arena.canvas with visibility :=
      [⟨1, .level 3, .takeover (.channel .a), true, .none, none, 10, none, none⟩] }
    replay := { arena.replay with
      clips := [⟨0, 0, 5000, 5009, ⟨60, 1⟩, .saved 0, none, none⟩]
      chanA := { Chan.reset with state := .playing, cues := [⟨1, 0, 400, 2, 7, 1, none⟩], pos := 5009, acc := 48000 } } }

theorem test_cadence_loops : let c := (cadence.stepChannel .a).chan .a;
    c.pos = 5000 ∧ c.acc = 12000 ∧ c.passes = 1 ∧ c.state = .playing := by decide

/-- 8.9, "Cadence across a 1001 output": frame 1,000 advances 2 and leaves nothing. -/
theorem test_cadence_1001 : cadenceNum 250 ⟨240, 1⟩ ⟨60000, 1001⟩ = 60060000 ∧ cadenceDen ⟨240, 1⟩ ⟨60000, 1001⟩ = 60000000 ∧
    (59940000 + 60060000) / 60000000 = 2 := by decide

/-- 9.8, "Selection in ROTATE": the second selection passes over 11 (fulfilled) and 12 (missing) and takes 13. -/
theorem test_selection :
    let s := { arena with
      exposure := { arena.exposure with ids := arena.exposure.ids.set 7 { Exposed.reset with fulfilled := true } }
      rotation := { arena.rotation with programs := [{ Program.reset with
        mode := .rotate
        entries := [⟨11, some 7, 5, 5000, false⟩, ⟨12, some 9, 99, 5000, false⟩, ⟨13, none, 5, 5000, false⟩,
          ⟨10, some 4, 5, 5000, false⟩] }, .reset, .reset, .reset] } }
    let t := s.select 0;
    ((t.program 0).onAir.bind (·.entry)).map (·.id) = some 13 ∧
      latest .assetState t = .assetState 99 .missing (some 3) 0 := by decide +kernel

/-- 10.9, "One frame, several zones". -/
def frameShown : State :=
  { arena with
    canvas := { arena.canvas with visibility :=
      [⟨0, .level 3, .takeover (.channel .a), true, .none, some 4, 80, none, none⟩,
        ⟨2, .base, .base (.rotation 1), true, .none, none, 30, some 1, none⟩,
        ⟨3, .base, .base (.rotation 1), false, .missingAsset, none, 30, some 1, some 9⟩,
        ⟨5, .level 5, .takeover (.asset 9), true, .none, some 4, 100, none, none⟩,
        ⟨6, .level 7, .takeover (.asset 9), true, .none, none, 50, none, none⟩] }
    rotation := { arena.rotation with programs := [.reset,
      { Program.reset with shown := some ⟨some ⟨10, some 4, 5, 5000, false⟩, 9, 0, 0, 0⟩ }, .reset, .reset] } }

theorem test_frame_credit : let e := frameShown.creditFrame.exposed 4;
    e.delivered = 15000 ∧ e.taggedFrames = 1 ∧ e.visibleFrames = 1 ∧ e.featureFrames = 1 := by decide +kernel

/-- 10.9, "Moving a quota": the first two settings. -/
theorem test_quota_moved :
    let s := arena.mapExposed 3 fun e => { e with delivered := 1900000, quota := some 4000000 }
    let t := s.setQuota 3 (some 1500000)
    let u := t.setQuota 3 (some 3000000);
    ((t.exposed 3).p50, (t.exposed 3).p75, (t.exposed 3).p100, (t.exposed 3).fulfilled) = (true, true, true, true) ∧
      latest .quotaMilestone t = .quotaMilestone 3 .m100 .quota 1500000 1900000 ∧
      ((u.exposed 3).p50, (u.exposed 3).p75, (u.exposed 3).p100, (u.exposed 3).fulfilled) = (true, false, false, false) := by
  decide +kernel

/-- 11.7, "The exact gap": event 253 at v = 5, and a late approval. -/
def crawling (x : Int) (width : Nat) : State :=
  { arena with
    canvas := { arena.canvas with visibility := [⟨2, .base, .base .crawl, true, .none, none, 10, none, none⟩] }
    crawl := { arena.crawl with
      config := { arena.crawl.config with speed := 5 }
      messages := [⟨1, [0x41#8], 1, .ordinary, .onAir, false, 0⟩, ⟨2, [0x41#8], 2, .ordinary, .queued, false, 0⟩]
      strip := [⟨1, x, width⟩], order := [2] } }

theorem test_exact_gap : ((crawling 660 1200).stepCrawl none).crawl.strip.map (·.x) = [655, 1919] ∧
    ((crawling 665 1200).stepCrawl none).crawl.strip.map (·.x) = [660] ∧
    ((crawling 160 1200).stepCrawl none).crawl.strip.map (·.x) = [155, 1920] := by decide +kernel

/-! ## What meets the hypotheses of the obligations

Each theorem is named after its obligation. The records' own ranges are shown at their edges by the status they bring. -/

/-- The hypothesis of the statements about a record, on the arena. -/
def admittedP (kind : Nat) : Bool := (ready .production kind arena).admits hP kind
def admittedT (kind : Nat) : Bool := (ready .table kind arena).admits hT kind

/-- A command in front, an empty queue with nothing to send, and one with two records handed over: the first leaves with its
one frame. -/
theorem witness_StepTakesTheFrontCommand :
    let sending : State := { arena with twin := { arena.twin with out := [.heartbeat 3 false, .heartbeat 4 true] } };
    ({ arena with pending := [.timeBaseStep, .saveCopyFrame] } : State).pending = .timeBaseStep :: [.saveCopyFrame] ∧
      (arena.pending = [] ∧ arena.twin.out = []) ∧
      (sending.pending = [] ∧ sending.twin.out = .heartbeat 3 false :: [.heartbeat 4 true]) ∧
      sending.whenIdle.twin.out = [.heartbeat 4 true] ∧ sending.whenIdle.twin.lastSent = some (.heartbeat 3 false, 1) := by
  decide

theorem witness_DueEventsComeFirst : Instr.timeBaseStep.carriesOut? = none ∧
    (∀ a b l, Instr.timeBaseStep ≠ .powerOn a b l) ∧
    ∃ p, Instr.breakExpiry.carriesOut? = some p ∧ ∀ e ∈ ({ arena with due := [.hornEnd .game] } : State).due, p e = false :=
  ⟨rfl, fun _ _ _ h => (nomatch h), _, rfl, by decide⟩

/-- A good frame at the ends of its tag and kind, its four arrivals, a wrong CHECK, the ends of LEN, silence in and out of
HUNT, and a reply that waits while 15 stand. -/
theorem witness_LinksReceiveAndTransmit :
    let l := State.reset.table
    let full : LinkState := { l with inbound := List.replicate 8 ⟨1, 1, []⟩ }
    let jammed : LinkState := { full with replies := List.replicate 16 ⟨1, 0x81, .ok, .none⟩ }
    let freed : State := { arena with
      due := [.replyPlace .table]
      table := { l with waiting := some ⟨9, 0x81, .ok, .none⟩, replies := List.replicate 15 ⟨1, 0x81, .ok, .none⟩ } };
    (arena.due = [] ∧ (arena.link .table).rx = .hunt) ∧
    (l.receive (onLine (frameBytes 255 255 [0xFF#8]))).inbound = [⟨255, 255, [0xFF#8]⟩] ∧
    (l.receive (onLine (frameBytes 1 0x80 []))).inbound = [⟨1, 0x80, []⟩] ∧
    (l.receive (onLine (frameBytes 0 1 []))).replies = [⟨0, 0xFF, .malformed, .none⟩] ∧
    (full.receive (onLine (frameBytes 1 0x7F []))).replies = [⟨1, 0xFF, .full, .none⟩] ∧
    (jammed.receive (onLine (frameBytes 1 0x7F []))).framingErrors = 1 ∧
    (l.receive (onLine (sync :: checkedBytes 1 1 [] ++ [0#8, 0#8]))).framingErrors = 1 ∧
    (0#8).toNat * 256 + (0#8).toNat ≠ (crc16 (checkedBytes 1 1 [])).toNat ∧
    ((after (.lenOversized .table 1025) arena).table.framingErrors = 1 ∧
      (after (.lenOversized .table 65535) arena).table.framingErrors = 1) ∧
    ({ l with rx := .header [] } : LinkState).silence.framingErrors = 1 ∧
    freed.due = .replyPlace .table :: [] ∧ (freed.link .table).waiting = some ⟨9, 0x81, .ok, .none⟩ ∧
    (freed.link .table).replies.length < 16 := by decide +kernel

/-- R10: a kind outside Table 1-3 on each side of the request kinds, a kind of the other link; R11 on a follower; R7: a body
that does not fit; R6: the sixteenth reply and the seventeenth. -/
theorem witness_RecordsAreTakenAndTested :
    let full : State := (ready .table 0x13 arena).mapLink .table fun l =>
      { l with replies := List.replicate 16 ⟨1, 0x81, .ok, .none⟩ };
    ((ready .production 0 arena).offers hP 0 = true ∧ kindPermit 0 = none ∧ kindPermit 0xFF = none) ∧
    (Instr.clockStart hP).record? = some (hP, 0x13) ∧
    ((ready .production 0x13 arena).offers hP 0x13 = true ∧ (kindPermit 0x13).any (fun p => permitted p .production) = false) ∧
    (following.twin.state = .follower ∧ (ready .table 0x13 following).offers hT 0x13 = true ∧
      (kindPermit 0x13).any (fun p => permitted p .table) = true ∧ changingKinds.contains 0x13 = true) ∧
    ((ready .table 0x13 arena).allows .table 0x13 = true ∧
      (answer .table (.clockStart ⟨.table, 1, false⟩) (ready .table 0x13 arena)).map (·.1) = some .malformed) ∧
    (full.due = [] ∧ (full.link .table).waiting = none ∧ (full.link .table).replies.length = 16 ∧
      (full.link .table).inbound.head?.any (fun r => r.tag == 1 && r.kind == 0x13) = true) ∧
    ((after (.clockStart hT) full).link .table).waiting.isSome = true ∧
    (full.link .table).inbound.head?.any (fun r => r.tag != 2 || r.kind != 0x13) = true ∧
    (arena.link .table).inbound = [] := by decide +kernel

theorem witness_LinkInfoReportsTheLink : (ready .table 0x01 arena).offers hT 0x01 = true ∧
    (ready .table 0x01 arena).bodyEmpty .table = true ∧ statusT 0x01 (.linkInfo hT) = some .ok := by decide

/-- R14: codes 0 and 19, and 20; a count that differs and one above 20. -/
theorem witness_SubscribeAndConditionsActOnTheirLink : admittedP 0x02 = true ∧ admittedT 0x03 = true ∧
    statusP 0x02 (.subscribe hP 2 [0, 19]) = some .ok ∧ statusP 0x02 (.subscribe hP 1 [20]) = some .range ∧
    statusP 0x02 (.subscribe hP 2 [3, 3]) = some .range ∧ statusP 0x02 (.subscribe hP 1 []) = some .malformed ∧
    statusP 0x02 (.subscribe hP 20 (List.range 20)) = some .ok ∧
    statusP 0x02 (.subscribe hP 21 (List.range 21)) = some .malformed ∧ statusT 0x03 (.conditions hT) = some .ok := by
  decide +kernel

/-- R16: 1 and 64 characters, 0 and 65, and 0x1F; a full slot; R17: each slot empty and full. -/
theorem witness_RelaySlotsPassTexts : admittedP 0x04 = true ∧ admittedT 0x05 = true ∧
    statusP 0x04 (.slotPost hP [0x20#8]) = some .ok ∧ statusP 0x04 (.slotPost hP (List.replicate 64 0x7E#8)) = some .ok ∧
    statusP 0x04 (.slotPost hP []) = some .range ∧ statusP 0x04 (.slotPost hP (List.replicate 65 0x7E#8)) = some .range ∧
    statusP 0x04 (.slotPost hP [0x1F#8]) = some .range ∧ statusP 0x04 (.slotPost hP [0x7F#8]) = some .range ∧
    (answer .production (.slotPost hP [0x20#8]) (ready .production 0x04 { arena with slotToTable := some [0x41#8] })) =
      some (.full, .none) ∧
    answer .table (.slotTake hT) (ready .table 0x05 { arena with slotToTable := some [0x41#8] }) =
      some (.ok, .slotText [0x41#8]) ∧
    statusT 0x05 (.slotTake hT) = some .notFound := by decide +kernel

/-- R12: an entry not pending, at 254 and at 255. -/
theorem witness_ConditionsAreRecordedOnBothLinks : (∀ link, (arena.link link).table.length = 20) ∧
    (CondEntry.clear.occur .zero).count = 1 ∧ ((⟨true, 254, .zero, .zero⟩ : CondEntry).occur .zero).count = 255 ∧
    ((⟨true, 255, .zero, .zero⟩ : CondEntry).occur .zero).count = 255 := by
  refine ⟨?_, by decide, by decide, by decide⟩
  intro link
  cases link <;> decide

/-- An active program with an entry, an active one without, an inactive one; level 1 stands in zone 1 above a level 7, and a
channel is on air in zone 2. -/
def restarting : State :=
  { ready .production 0x06 arena with
    canvas := { arena.canvas with zones := [
      { zone 1 .main (.rotation 0) true easy with
        arb := ⟨[], [⟨1, .asset 5, none, 1, 0, none, 0⟩, ⟨7, .asset 5, none, 1, 4, none, 0⟩], [], [], 3⟩ },
      { zone 2 .general (.rotation 1) true easy with arb := ⟨[], [⟨3, .channel .a, none, 1, 0, none, 0⟩], [], [], 2⟩ }] }
    capture := { arena.capture with rings := [⟨1200, 1210, 0, some ⟨60, 1⟩, .preset120⟩, .reset, .reset, .reset] }
    replay := { arena.replay with chanA :=
      { Chan.reset with state := .playing, cues := [⟨1, 0, 1000, 0, 0, 2, none⟩, ⟨2, 1, 500, 0, 0, 2, none⟩], pos := 10 } } }

theorem witness_RestartReachesEveryBlock : restarting.admits hP 0x06 = true ∧
    (restarting.active 0 = true ∧ (restarting.choose (restarting.program 0).entries).isSome = true) ∧
    (restarting.active 1 = true ∧ restarting.choose (restarting.program 1).entries = none) ∧ restarting.active 3 = false ∧
    restarting.rotation.features = [] ∧ restarting.crawl.card = none ∧
    (answer .production (.restart hP) restarting) = some (.ok, .none) := by
  decide +kernel

theorem witness_RestartReachesEveryBlock_wf : restarting.tablesWf ∧ restarting.zonesWf where
  left := ⟨rfl, rfl, rfl, rfl, arena_tablesWf.counters⟩
  right :=
    { ids := by decide
      small := by decide
      arb := by
        intro z hz
        refine ⟨?_, ?_, ?_, ?_, ?_, ?_, ?_⟩ <;> revert hz <;> revert z <;> decide
      awaiting := by decide }

/-- R139: the next entry's ring frame is near its overwriting, so CHANNEL_STOP warns of it; RESTART does not. -/
theorem test_restart_raises_no_warning :
    ((after (.channelStop hP .a) (ready .production 0x57 restarting)).table.entry .nearOvertake).pending = true ∧
    ((after (.restart hP) restarting).table.entry .nearOvertake).pending = false := by decide +kernel

theorem arena_linksWf : arena.linksWf := by
  constructor <;> exact ⟨by decide, by unfold CondEntry.wf; decide, by decide, by decide, by decide, by decide, by decide,
    by decide, by decide⟩

/-- The arena is well formed, and steps. -/
theorem witness_EveryStepKeepsTheLinksAndTables : arena.linksWf ∧ arena.tablesWf ∧ ∃ t, step arena = .next t :=
  ⟨arena_linksWf, arena_tablesWf, _, rfl⟩

theorem witness_EveryStepKeepsTheZones : arena.zonesWf ∧ ∃ t, step arena = .next t := ⟨arena_zonesWf, _, rfl⟩

theorem witness_TimeBaseCounts : arena.due = [] ∧ trimmed.due = [] ∧ trimmed.timing.run = .running := by decide

/-- The clock runs below the countdown value; zone 1 is the countdown zone, where level 1 stands or not. -/
def lastMinute (stands : Bool) (phase : Phase) (outstanding : List Nat) : State :=
  { arena with
    timing := { arena.timing with
      v := 5000, run := .running, phase := phase, outstanding := outstanding
      rules := { defaultRules with
        regulationPeriods := 1, countdownAt := 10000, countdownAsset := some 5, periodEndHold := 3000, periodEndAsset := some 6 } }
    canvas := { arena.canvas with zones := [{ zone 1 .main .slate true easy with
      arb := ⟨[], if stands then [⟨1, .asset 7, none, 1, 4, none, 9⟩] else [], [], [], 3⟩ }] } }

theorem lastMinute_zonesWf (stands : Bool) (phase : Phase) (outstanding : List Nat) :
    (lastMinute stands phase outstanding).zonesWf := by
  have h : (lastMinute stands .idle []).zonesWf := by
    cases stands <;> exact
      { ids := by decide
        small := by decide
        arb := by
          intro z hz
          refine ⟨?_, ?_, ?_, ?_, ?_, ?_, ?_⟩ <;> revert hz <;> revert z <;> decide
        awaiting := by decide }
  exact ⟨h.ids, h.small, h.arb, h.awaiting⟩

/-- The phase, what is outstanding, and the level-1 takeover of zone 1. -/
def levelOne (t : State) : Phase × List Nat × Option (Option InService) :=
  (t.timing.phase, t.timing.outstanding, (t.zone? 1).map (·.arb.serviceAt 1))

def levelKept : Option (Option InService) := some (some ⟨1, .asset 7, none, 1, 4, none, 9⟩)
def levelTaken (asset : Nat) (left : Option Nat) (served : Nat) : Option (Option InService) :=
  some (some ⟨1, .asset asset, left, 1, served, none, 0⟩)

/-- R45: a free countdown zone, one where level 1 stands, none; and in PERIOD_END what is outstanding is asked for anew. -/
theorem witness_TimeBaseCounts_countdown :
    let level (s : State) := levelOne (after .timeBaseStep s)
    let bare : State := { lastMinute false .idle [] with
      canvas := { arena.canvas with zones := [zone 0 .clock .clock false allCut] } };
    (lastMinute false .idle []).due = [] ∧
    level (lastMinute false .idle []) = (.countdown, [1], levelTaken 5 none 0) ∧
    level (lastMinute true .idle []) = (.spent, [], levelKept) ∧ level bare = (.spent, [], none) ∧
    level (lastMinute true .periodEnd [1]) = (.countdown, [1], levelTaken 5 none 0) ∧
    level (lastMinute true .countdown [1]) = (.countdown, [1], levelKept) := by decide

/-- R22: just inside and just outside -500..500. -/
theorem witness_TrimIsClamped : admittedP 0x1A = true ∧
    answer .production (.trim hP (-501)) (ready .production 0x1A arena) = some (.ok, .trim (-500)) ∧
    answer .production (.trim hP 500) (ready .production 0x1A arena) = some (.ok, .trim 500) ∧
    answer .production (.trim hP 501) (ready .production 0x1A arena) = some (.ok, .trim 500) := by decide

/-- The arena under a table partner's clock (gate source LINK). -/
def linked : State :=
  { arena with timing := { arena.timing with rules := { defaultRules with source := .link } } }

theorem ready_linksWf (link : Link) (kind : Nat) (s : State) (h : s.linksWf) : (ready link kind s).linksWf := by
  obtain ⟨hp, ht⟩ := h
  cases link
  · exact ⟨⟨hp.table, hp.entries, Nat.le_of_ble_eq_true rfl, hp.replies, hp.errors, hp.subs, hp.kinds, hp.noticed, fun _ => List.cons_ne_nil _ _⟩, ht⟩
  · exact ⟨hp, ⟨ht.table, ht.entries, Nat.le_of_ble_eq_true rfl, ht.replies, ht.errors, ht.subs, ht.kinds, ht.noticed, fun _ => List.cons_ne_nil _ _⟩⟩

/-- A master: what it hands over stands in `twin.out`. -/
def asMaster (s : State) : State :=
  { s with twin := { s.twin with role := .manualMaster, state := .master } }

/-- R31, R77: a master starts and stops its clock by record. -/
theorem witness_TableRunsAndSetsTheClock_handed :
    let s := ready .table 0x13 (asMaster linked)
    let t := after (.clockStart hT) s
    let u := after (.clockStop hT) (ready .table 0x14 t);
    s.admits hT 0x13 = true ∧ (ready .table 0x14 t).admits hT 0x14 = true ∧
    t.twin.out = [.clock ⟨.run, t.clockFields⟩] ∧ latest .runChanged t = .runChanged .running .link 720000 0 ∧
    u.twin.out = [.clock ⟨.run, t.clockFields⟩, .clock ⟨.run, u.clockFields⟩] ∧
    latest .runChanged u = .runChanged .stopped .link 720000 0 := by decide +kernel

theorem witness_TableRunsAndSetsTheClock_wf : (ready .table 0x13 (asMaster linked)).linksWf :=
  ready_linksWf _ _ _ arena_linksWf

/-- R30, R34 and R35 at their edges, and R24's period length. -/
theorem witness_TableRunsAndSetsTheClock :
    let rules (p : Nat) : ClockRules := { defaultRules with periodLength := p }
    let of (kind : Nat) (c : Instr) : Option Status := (answer .table c (ready .table kind linked)).map (·.1);
    (ready .table 0x13 linked).admits hT 0x13 = true ∧ admittedT 0x14 = true ∧ admittedT 0x10 = true ∧
    admittedT 0x11 = true ∧ admittedT 0x12 = true ∧
    of 0x13 (.clockStart hT) = some .ok ∧ statusT 0x13 (.clockStart hT) = some .wrongSource ∧
    (after (.clockStart hT) (ready .table 0x13 linked)).timing.run = .running ∧
    of 0x14 (.clockStop hT) = some .ok ∧
    statusT 0x10 (.clockRules hT (rules 1000)) = some .ok ∧ statusT 0x10 (.clockRules hT (rules 5940000)) = some .ok ∧
    statusT 0x10 (.clockRules hT (rules 0)) = some .range ∧ statusT 0x10 (.clockRules hT (rules 5941000)) = some .range ∧
    statusT 0x11 (.clockSet hT 720000) = some .ok ∧ statusT 0x11 (.clockSet hT 720001) = some .range ∧
    statusT 0x11 (.clockSet hT 0) = some .ok ∧
    answer .table (.clockAdjust hT (-600000)) (ready .table 0x12 arena) = some (.ok, .count 120000) ∧
    answer .table (.clockAdjust hT 600000) (ready .table 0x12 arena) = some (.ok, .count 720000) ∧
    statusT 0x12 (.clockAdjust hT (-600001)) = some .range ∧ statusT 0x12 (.clockAdjust hT 0) = some .range := by
  decide +kernel

theorem witness_RunLineWindowsAreConfirmed :
    let starting : State := { arena with
      due := [.startConfirm], timing := { arena.timing with gate := .startPending, window := 5 } };
    arena.due = [] ∧ (starting.due = .startConfirm :: [] ∧ starting.timing.gate = .startPending ∧
      starting.timing.rules.debounce ≤ starting.timing.window) ∧
    (stopping.due = .stopConfirm :: [] ∧ stopping.timing.gate = .stopPending ∧
      stopping.timing.rules.debounce ≤ stopping.timing.window) ∧
    (after (.runLineEdge .high) arena).timing.gate = .startPending ∧
    (let closed (enabled : Bool) : State := after (.runLineEdge .high) { stopping with
        due := [], timing := { stopping.timing with window := 4, playPending := true, playEnabled := enabled } };
      ((closed true).table.entry .playExpired).pending = true ∧ ((closed false).table.entry .playExpired).pending = false) := by
  decide

/-- A start window and a stop window at their end, on a master. -/
def confirming (v play : Nat) : State :=
  asMaster { arena with
    due := [.startConfirm], timing := { arena.timing with v := v, play := play, gate := .startPending, window := 5 } }

/-- R26, R27, R77: a start backdated to above the limit, one that reaches it, one whose play clock expires, and one at the
limit; a stop; R28: a start glitch raises nothing, be a play expiry noted or not. -/
theorem witness_RunLineWindowsAreConfirmed_handed :
    let causes (t : State) : List ClockCause := t.twin.out.filterMap fun r => match r with
      | .clock c => some c.cause
      | _ => none
    let go (v play : Nat) : State := after .startWindowConfirm (confirming v play)
    let spent := after .startWindowConfirm ((confirming 0 24000).mapTiming fun t => { t with atLimit := true })
    let stopped := after .stopWindowConfirm (asMaster stopping)
    let glitch := after (.runLineEdge .low) { arena with
      timing := { arena.timing with runLine := .high, gate := .startPending, window := 3, playPending := true } };
    (confirming 6 24000).timing.rules.debounce ≤ (confirming 6 24000).timing.window ∧
    (causes (go 6 24000) = [.run] ∧ latest .runChanged (go 6 24000) = .runChanged .running .line 1 5) ∧
    (causes (go 5 24000) = [.run, .expiry] ∧ latest .runChanged (go 5 24000) = .runChanged .stopped .expiry 0 0 ∧
      ((go 5 24000).table.entry .runChanged).count = 2) ∧
    (causes (go 6000 5) = [.run, .play] ∧ causes (go 6000 6) = [.run]) ∧
    (causes spent = [.gate] ∧ (spent.table.entry .runChanged).pending = false ∧ spent.timing.run = .stopped) ∧
    (causes stopped = [.run] ∧ latest .runChanged stopped = .runChanged .stopped .line 3 3) ∧
    (glitch.timing.gate = .steady ∧ glitch.timing.play = arena.timing.play ∧
      (glitch.table.entry .playExpired).pending = false) := by decide +kernel

theorem witness_RunLineWindowsAreConfirmed_wf : (confirming 6 24000).linksWf ∧ (asMaster stopping).linksWf :=
  ⟨arena_linksWf, arena_linksWf⟩

theorem witness_GameClockExpires :
    let s : State := { arena with due := [.gameExpiry], timing := { arena.timing with v := 0, run := .running } };
    s.due = .gameExpiry :: [] ∧ (s.timing.run = .running ∧ s.timing.gate = .steady ∧ s.timing.v = clockLimit s.timing.rules) ∧
    (after .gameClockExpiry s).timing.gameHorn = some 1500 ∧ (after .gameClockExpiry s).timing.atLimit = true := by
  decide

/-- The period end with no hold, and with no zone. -/
def unheldEnd (s : State) : State :=
  State.periodEnd { s with timing := { s.timing with rules := { s.timing.rules with periodEndHold := 0 } } }
def bareEnd : State :=
  State.periodEnd { lastMinute false .idle [] with canvas := { arena.canvas with zones := [] } }

/-- R47: by phase, with a hold and an asset and without, a countdown zone where level 1 stands, a free one, and none. -/
theorem witness_GameClockExpires_periodEnd :
    [(lastMinute true .countdown [1]).periodEnd, (lastMinute true .periodEnd [1]).periodEnd,
        (lastMinute false .idle []).periodEnd, (lastMinute true .spent []).periodEnd, bareEnd,
        unheldEnd (lastMinute true .countdown [1]), unheldEnd (lastMinute true .periodEnd [1])].map levelOne =
      [(.periodEnd, [1], levelTaken 6 (some 180) 4), (.periodEnd, [1], levelTaken 6 (some 180) 4),
        (.periodEnd, [1], levelTaken 6 (some 180) 0), (.spent, [], levelKept), (.idle, [], none), (.spent, [], some none),
        (.periodEnd, [1], levelKept)] := by decide

theorem witness_GameClockExpires_wf : (lastMinute true .countdown [1]).zonesWf := lastMinute_zonesWf _ _ _

/-- R40: 1 and 99 seconds, 0 and 100; and a play expiry that stands. -/
theorem witness_PlayClockFollowsItsRecords :
    let s : State := { arena with due := [.playExpiry false], timing := { arena.timing with play := 0 } };
    admittedT 0x15 = true ∧ admittedT 0x16 = true ∧ statusT 0x15 (.playReset hT (.value 1)) = some .ok ∧
    statusT 0x15 (.playReset hT (.value 99)) = some .ok ∧ statusT 0x15 (.playReset hT (.value 0)) = some .range ∧
    statusT 0x15 (.playReset hT (.value 100)) = some .range ∧ statusT 0x16 (.playEnable hT false) = some .ok ∧
    s.due = .playExpiry false :: [] ∧ (after .playExpiry s).timing.playHorn = some 1500 := by decide

/-- R42: 1 and 900 seconds, 0 and 901; R44: 200 and 5,000 ms, 199 and 5,001. -/
theorem witness_BreakTimerAndHornsRun :
    let ended : State := { arena with
      due := [.breakExpiry], timing := { arena.timing with brkRunning := true, brkValue := 0, brkHorn := true } }
    let silent : State := { arena with due := [.hornEnd .play], timing := { arena.timing with playHorn := some 0 } };
    admittedT 0x17 = true ∧ admittedT 0x18 = true ∧ admittedT 0x19 = true ∧
    statusT 0x17 (.breakStart hT 1 true) = some .ok ∧ statusT 0x17 (.breakStart hT 900 true) = some .ok ∧
    statusT 0x17 (.breakStart hT 0 true) = some .range ∧ statusT 0x17 (.breakStart hT 901 true) = some .range ∧
    statusT 0x18 (.breakCancel hT) = some .notFound ∧
    statusT 0x19 (.horn hT .game 200) = some .ok ∧ statusT 0x19 (.horn hT .play 5000) = some .ok ∧
    statusT 0x19 (.horn hT .game 199) = some .range ∧ statusT 0x19 (.horn hT .play 5001) = some .range ∧
    ended.due = .breakExpiry :: [] ∧ (after .breakExpiry ended).timing.gameHorn = some 1500 ∧
    silent.due = .hornEnd .play :: [] ∧ (after (.hornEnd .play) silent).timing.playHorn = none := by decide

/-- The arena after the game. -/
def finished : State :=
  { arena with record := { arena.record with game := { arena.record.game with session := .final } } }

theorem witness_FinalClosesTheRecord : (Instr.clockStart hT).record? = some (hT, 0x13) ∧ 0x13 ∈ changingKinds ∧
    (ready .table 0x13 finished).admits hT 0x13 = true ∧ finished.record.game.session = .final ∧
    answer .table (.clockStart hT) (ready .table 0x13 finished) = some (.closed, .none) ∧
    answer .table (.teamSet hT .home ⟨none, none, none, none⟩) (ready .table 0x25 finished) = some (.malformed, .none) ∧
    answer .table (.teamSet hT .home ⟨none, some 3, none, none⟩) (ready .table 0x25 finished) = some (.closed, .none) ∧
    (let define (count n : Nat) : Option (Status × Result) := answer .table
        (.fieldDefine hT count (List.replicate n ⟨[0x41#8], 1, false⟩)) (ready .table 0x26 finished);
      define 1 2 = some (.malformed, .none) ∧ define 17 17 = some (.malformed, .none) ∧ define 16 16 = some (.closed, .none)) := by
  decide

/-- R53: a game IN_GAME with the clock stopped; R55: the last period but one, and the last. -/
theorem witness_GamesOpenAdvanceAndEnd :
    let inGame (period : Nat) : State := { arena with record := { arena.record with game :=
      { arena.record.game with session := .inGame, period := period } } };
    admittedT 0x21 = true ∧ admittedT 0x20 = true ∧ admittedT 0x22 = true ∧ statusT 0x21 (.gameFinal hT) = some .busy ∧
    answer .table (.gameFinal hT) (ready .table 0x21 (inGame 1)) = some (.ok, .none) ∧
    answer .table (.gameOpen hT) (ready .table 0x20 finished) = some (.ok, .none) ∧
    answer .table (.nextPeriod hT) (ready .table 0x22 (inGame 8)) = some (.ok, .none) ∧
    answer .table (.nextPeriod hT) (ready .table 0x22 (inGame 9)) = some (.range, .none) := by decide +kernel

/-- R29, R54, R67, R77, R80: the records of a master; out of FINAL the line, high, settles as RUN; GAME_FINAL closes a start
window. -/
theorem witness_GamesOpenAdvanceAndEnd_handed :
    let inGame : State := asMaster { arena with record := { arena.record with game :=
      { arena.record.game with session := .inGame } }, timing := { arena.timing with runLine := .high } }
    let opened := after (.gameOpen hT) (ready .table 0x20 (after (.gameFinal hT) (ready .table 0x21 inGame)))
    let window := after (.gameFinal hT) (ready .table 0x21 { inGame with timing := { inGame.timing with gate := .startPending } })
    let next := after (.nextPeriod hT) (ready .table 0x22 inGame);
    (ready .table 0x21 inGame).admits hT 0x21 = true ∧
    opened.timing.settled = .run ∧ latest .sessionChanged opened = .sessionChanged .final .setup .opened 1 ∧
    opened.twin.out = [.event ⟨1, .gameFinal, 2⟩, .event ⟨2, .gameOpen, 1⟩, .clock ⟨.reset, opened.clockFields⟩] ∧
    window.twin.out = [.event ⟨1, .gameFinal, 2⟩, .clock ⟨.gate, window.clockFields⟩] ∧
    latest .sessionChanged window = .sessionChanged .inGame .final .final 1 ∧
    next.twin.out = [.event ⟨1, .nextPeriod, 2⟩, .clock ⟨.reset, next.clockFields⟩] ∧
    latest .sessionChanged next = .sessionChanged .inGame .inGame .period 2 := by decide +kernel

theorem finished_zonesWf : (asMaster finished).zonesWf :=
  ⟨arena_zonesWf.ids, arena_zonesWf.small, arena_zonesWf.arb, arena_zonesWf.awaiting⟩

theorem witness_GamesOpenAdvanceAndEnd_wf : (ready .table 0x20 (asMaster finished)).linksWf ∧
    (ready .table 0x20 (asMaster finished)).zonesWf := ⟨ready_linksWf _ _ _ arena_linksWf, ready_zonesWf _ _ _ finished_zonesWf⟩

/-- R60: 1 and 9 points, 0 and 10; R61: an ADD entry, an entry already revised, and a seq that is gone. -/
theorem witness_ScoresAreAddedAndRevised :
    let revised : State := { nearTop with record := { nearTop.record with game := { nearTop.record.game with
      log := [⟨42, .add true, .home, 1, 999, 1, 0⟩] } } };
    admittedT 0x23 = true ∧ admittedT 0x24 = true ∧ arena.zonesWf ∧
    statusT 0x23 (.scoreAdd hT .guest 1) = some .ok ∧ statusT 0x23 (.scoreAdd hT .guest 9) = some .ok ∧
    statusT 0x23 (.scoreAdd hT .guest 0) = some .range ∧ statusT 0x23 (.scoreAdd hT .guest 10) = some .range ∧
    statusT 0x24 (.scoreRevise hT 1) = some .ok ∧ statusT 0x24 (.scoreRevise hT 9) = some .notFound ∧
    answer .table (.scoreRevise hT 42) (ready .table 0x24 revised) = some (.range, .none) ∧
    ∃ a, ({ arena with record := { arena.record with game := { arena.record.game with
      config := ⟨some 20, none, 4000, none⟩ } } } : State).record.game.config.homeAsset = some a ∧
      1 ∈ arena.scoreEventZones := by
  refine ⟨by decide, by decide, arena_zonesWf, by decide, by decide, by decide, by decide, by decide, by decide, by decide,
    20, rfl, by decide⟩

/-- R56 to R58 and R62 at their edges. -/
theorem witness_RecordItemsAreSet :
    let named (n : Nat) : TeamFields := ⟨some (List.replicate n 0x41#8), none, none, none⟩
    let field (n m : Nat) : List FieldDef := [⟨List.replicate n 0x41#8, m, false⟩];
    admittedT 0x25 = true ∧ admittedT 0x26 = true ∧ admittedT 0x27 = true ∧ admittedT 0x2A = true ∧
    statusT 0x25 (.teamSet hT .guest (named 12)) = some .ok ∧ statusT 0x25 (.teamSet hT .guest (named 13)) = some .range ∧
    statusT 0x26 (.fieldDefine hT 1 (field 8 999)) = some .ok ∧ statusT 0x26 (.fieldDefine hT 1 (field 9 999)) = some .range ∧
    statusT 0x26 (.fieldDefine hT 1 (field 1 0)) = some .range ∧ statusT 0x26 (.fieldDefine hT 2 (field 1 1)) = some .malformed ∧
    answer .table (.fieldSet hT 0 9) (ready .table 0x27 arena) = some (.ok, .count 5) ∧
    statusT 0x27 (.fieldSet hT 15 9) = some .notFound ∧ statusT 0x27 (.fieldSet hT 16 9) = some .range ∧
    statusT 0x2A (.recordConfig hT ⟨some 1023, none, 500, some 3⟩) = some .ok ∧
    statusT 0x2A (.recordConfig hT ⟨none, none, 499, none⟩) = some .range ∧
    statusT 0x2A (.recordConfig hT ⟨none, none, 15001, none⟩) = some .range ∧
    statusT 0x2A (.recordConfig hT ⟨none, none, 15000, some 63⟩) = some .notFound := by decide +kernel

/-- R70: a compensation of 20 ms and of 21. -/
theorem witness_TwinIsConfiguredAndEntersItsStates : admittedP 0x30 = true ∧
    statusP 0x30 (.twinConfig hP .manualMaster 1 20) = some .ok ∧
    statusP 0x30 (.twinConfig hP .manualMaster 1 21) = some .range ∧
    (following.enterTwin .resolving .hello .none).twin.fromFollower = true := by decide

theorem witness_TwinRecordsOutsideFollowing :
    let on (state : TwinState) : State := { arena with twin := { arena.twin with role := .manualMaster, state := state } };
    (arena.due = [] ∧ arena.twin.role = .off) ∧
    (∀ state, (on state).due = [] ∧ (on state).twin.role ≠ .off ∧ (on state).twin.state = state) ∧
    (on .resolving).twin.decidedFollower = false ∧
    (after (.twinHelloReceived ⟨.autoPreferMaster, 1, .none, .setup, .solo⟩) (on .resolving)).twin.state = .master ∧
    (after (.twinHeartbeatReceived 0 true) (on .master)).twin.out.length = 1 := by
  refine ⟨by decide, ?_, by decide, by decide, by decide⟩
  intro state
  cases state <;> decide

/-- A follower, a part that awaits its STATE, and the parts of a STATE: 0 and one too many, the first, one between, the
last, and one out of order. -/
theorem witness_FollowersMirrorStateAndClock :
    let awaits : State := { arena with twin := { arena.twin with
      role := .manualFollower, state := .resolving, decidedFollower := true, parts := some (1, 3) } }
    let r : StateRecord := ⟨defaultRules, { arena.clockFields with v := 7 }, arena.record.game, 65535⟩
    let at2 : State := { awaits with twin := { awaits.twin with parts := some (2, 3) } };
    (following.due = [] ∧ following.twin.role ≠ .off ∧ following.twin.state = .follower) ∧
    (awaits.due = [] ∧ awaits.twin.state = .resolving ∧ awaits.twin.decidedFollower = true) ∧
    (after (.twinStateReceived 1 1 r) awaits).twin.state = .follower ∧
    (after (.twinStateReceived 0 3 r) awaits).twin.framingErrors = 1 ∧
    (after (.twinStateReceived 4 3 r) awaits).twin.framingErrors = 1 ∧
    (after (.twinStateReceived 1 3 r) awaits).twin.parts = some (1, 3) ∧
    (after (.twinStateReceived 2 3 r) awaits).twin.parts = some (2, 3) ∧
    (at2.twin.parts = some (3 - 1, 3) ∧ (after (.twinStateReceived 3 3 r) at2).timing.v = 7) ∧
    (after (.twinStateReceived 3 3 r) awaits).twin.parts = none := by decide +kernel

/-- The event expected (at the numbering's end too), another one, and one while a STATE is asked for. -/
theorem witness_EventsAreAppliedInOrder :
    let last : State := { following with twin := { following.twin with eventNo := 65535 } };
    (following.due = [] ∧ following.twin.role ≠ .off ∧ following.twin.state = .follower ∧ following.twin.resync = false) ∧
    (31 = (following.twin.eventNo + 1) % 65536 ∧ 0 = (last.twin.eventNo + 1) % 65536) ∧
    (after (.twinEventReceived ⟨0, .gameFinal, 2⟩) last).record.game.session = .final ∧
    32 ≠ (following.twin.eventNo + 1) % 65536 ∧
    ({ following with twin := { following.twin with resync := true } } : State).twin.resync = true := by decide

theorem witness_TwinTimersExpire :
    let s (e : DueEvent) (state : TwinState) : State := { arena with
      due := [e]
      twin := { arena.twin with
        role := .manualMaster, state := state, helloTimer := some 0, heartbeatTimer := some 0, clockTimer := some 0
        lossTimer := some 0, framingErrors := 65534 } };
    ((s .helloTimer .solo).due = [.helloTimer] ∧ (s .helloTimer .solo).twin.helloTimer = some 0) ∧
    ((s .heartbeatTimer .follower).due = [.heartbeatTimer] ∧ (s .heartbeatTimer .follower).twin.heartbeatTimer = some 0) ∧
    ((s .clockTimer .master).due = [.clockTimer] ∧ (s .clockTimer .master).twin.clockTimer = some 0 ∧
      (s .clockTimer .master).twin.state = .master) ∧
    ((s .lossTimer .follower).due = [.lossTimer] ∧ (s .lossTimer .follower).twin.lossTimer = some 0) ∧
    (after .lossTimerExpiry (s .lossTimer .follower)).twin.state = .orphan ∧
    (after .lossTimerExpiry (s .lossTimer .master)).twin.state = .solo ∧
    arena.due = [] ∧ (after (.twinFrameDiscarded .badCheck) (s .helloTimer .solo)).twin.framingErrors = 65535 ∧
    (let silent (chars : List LineChar) (rx : Rx) : Nat :=
        (after (.twinReceiverSilenceExpiry chars) { arena with twin := { arena.twin with rx := rx } }).twin.framingErrors;
      arena.twin.rx = .hunt ∧ silent [] .hunt = 0 ∧ silent [⟨0xC3#8, false⟩] .hunt = 0 ∧
      silent (onLine ((frameBytes 0 5 [1#8]).take 1)) .hunt = 1 ∧ silent (onLine ((frameBytes 0 5 [1#8]).take 7)) .hunt = 1 ∧
      silent [] (.header []) = 1) := by decide +kernel

/-- A frame event with nothing awaiting, and each base rendered as what it shows. -/
theorem witness_FrameEventComposesAndCounts :
    let on (base : Base) (s : State) : Option SlateReason := (s.renderBase (zone 1 .main base true easy)).slate
    let cam (i : Input) : State := { arena with canvas := { arena.canvas with inputs := [i, .reset, .reset, .reset] } }
    let i : Input := { Input.reset with enabled := true, latest := some 4, held := some 4 };
    (arena.due = [] ∧ arena.canvas.awaitingConfig = none ∧ arena.canvas.awaitingLayout = none ∧
      arena.replay.chanA.state = .idle ∧ arena.replay.chanB.state = .idle) ∧
    (on (.camera 3) arena = some .inputDisabled ∧ on (.camera 0) (cam i) = some .signalLost ∧
      on (.camera 0) (cam { i with loss := .live }) = none ∧
      on (.camera 0) (cam { i with loss := .holding, holdFrames := 1 }) = none) ∧
    (on .clock arena = none ∧ on .slate arena = some .slateBase ∧ on (.asset 5) arena = none ∧
      on (.asset 6) arena = some .missingAsset ∧ on (.asset 1023) arena = some .missingAsset) ∧
    (on (.rotation 0) arena = none ∧ on (.rotation 3) arena = some .noEntry ∧ on .crawl arena = none ∧
      on .crawl { arena with crawl := Crawl.reset } = some .slateBase) := by decide +kernel

theorem witness_FrameEventComposesAndCounts_wf : arena.zonesWf ∧ arena.tablesWf ∧
    (after .outputFrameEvent arena).canvas.frame = 1 ∧
    ((after .outputFrameEvent arena).pictureAt 1919 399 = .asset 5 0 ∧ (after .outputFrameEvent arena).pictureAt 1919 400 = .slate) := ⟨arena_zonesWf, arena_tablesWf, by decide +kernel⟩

/-- R85 and R89 at their edges: the narrowest and the lowest canvas, a zone at the canvas's edge and one pixel beyond, an id
of 7 and of 8, nine zones, two zones of one id. -/
theorem witness_CanvasAndLayoutAwaitTheFrame :
    let z (id left : Nat) : ZoneSpec := ⟨id, left, 0, 1, 64, .general, .slate, 101, ⟨false, false, false, false⟩, easy⟩;
    admittedP 0x38 = true ∧ admittedP 0x39 = true ∧ arena.due = [] ∧
    (answer .production (.canvasConfig hP ⟨50, 1⟩ 320 64) (ready .production 0x38 State.reset) = some (.ok, .none) ∧
      answer .production (.canvasConfig hP ⟨50, 1⟩ 7680 2160) (ready .production 0x38 State.reset) = some (.ok, .none) ∧
      answer .production (.canvasConfig hP ⟨50, 1⟩ 319 64) (ready .production 0x38 State.reset) = some (.range, .none) ∧
      answer .production (.canvasConfig hP ⟨50, 1⟩ 320 63) (ready .production 0x38 State.reset) = some (.range, .none) ∧
      statusP 0x38 (.canvasConfig hP ⟨50, 1⟩ 1919 1080) = some .range) ∧
    (statusP 0x39 (.layout hP 1 [z 7 1919]) = some .ok ∧ statusP 0x39 (.layout hP 1 [z 7 1920]) = some .range ∧
      statusP 0x39 (.layout hP 1 [z 8 0]) = some .range ∧ statusP 0x39 (.layout hP 2 [z 0 0]) = some .malformed ∧
      statusP 0x39 (.layout hP 9 ((List.range 9).map fun n => z n n)) = some .range ∧
      statusP 0x39 (.layout hP 2 [z 0 0, z 0 1]) = some .duplicate ∧
      statusP 0x39 (.layout hP 8 ((List.range 8).map fun n => z n n)) = some .ok) := by decide +kernel

theorem witness_CanvasAndLayoutAwaitTheFrame_wf :
    let s : State := { arena with canvas := { arena.canvas with awaitingLayout := some [] } };
    s.zonesWf ∧ s.due = [] ∧ (after .outputFrameEvent s).canvas.zones = [] :=
  ⟨⟨arena_zonesWf.ids, arena_zonesWf.small, arena_zonesWf.arb, by decide⟩, rfl, by decide +kernel⟩

/-- Zone 1 keeps id and role with another base, zone 2 takes another role, zone 3 is new; level 7 stands in zones 1 and 2. -/
def relaid : State :=
  let taken (id : Nat) : Zone :=
    { zone id .main .slate true easy with arb := ⟨[], [⟨7, .asset 5, none, 1, 4, none, 0⟩], [6], [], 2⟩ }
  { arena with canvas := { arena.canvas with
    zones := [taken 1, taken 2]
    awaitingLayout := some [(zone 1 .main (.asset 5) false easy).spec, (zone 2 .general .slate true easy).spec,
      (zone 3 .main .slate true easy).spec] } }

theorem witness_CanvasAndLayoutAwaitTheFrame_kept : relaid.due = [] ∧ relaid.canvas.awaitingLayout.isSome = true ∧
    (after .outputFrameEvent relaid).canvas.zones.map (fun z => (z.arb.service.map (·.level), z.arb.mask, z.arb.nextArrival)) =
      [([7], [6], 2), ([], [], 1), ([], [], 1)] ∧
    latest .takeoverEnded (after .outputFrameEvent relaid) = .takeoverEnded 2 7 .zoneRemoved .inService 4 := by decide +kernel

theorem witness_CanvasAndLayoutAwaitTheFrame_kept_wf : relaid.zonesWf where
  ids := by decide
  small := by decide
  arb := by
    intro z hz
    refine ⟨?_, ?_, ?_, ?_, ?_, ?_, ?_⟩ <;> revert hz <;> revert z <;> decide
  awaiting := by decide

/-- An ASSET_CHUNK at the head, whose stored body is `length` bytes long. -/
def chunk (length id offset count : Nat) (data : List Byte) : Option (Status × Result) :=
  answer .production (.assetChunk hP id offset count data) ((ready .production 0x3B arena).mapLink .production fun l =>
    { l with inbound := [⟨1, 0x3B, List.replicate length 0⟩] })

/-- R96: a size of the whole store and beyond, frame counts; R97: the next expected offset, the last byte and one past, and
bodies of 8 bytes and the data count, one shorter and one longer. -/
theorem witness_AssetsAreDefinedLoadedAndDropped : admittedP 0x3A = true ∧ admittedP 0x3B = true ∧ admittedP 0x3C = true ∧
    (statusP 0x3A (.assetDefine hP 1023 .loop 2 268435451) = some .ok ∧
      statusP 0x3A (.assetDefine hP 1023 .loop 2 268435452) = some .noSpace ∧
      statusP 0x3A (.assetDefine hP 1024 .loop 2 1) = some .range ∧ statusP 0x3A (.assetDefine hP 7 .run 1 1) = some .range ∧
      statusP 0x3A (.assetDefine hP 7 .run 65535 1) = some .ok ∧ statusP 0x3A (.assetDefine hP 7 .still 2 1) = some .range ∧
      statusP 0x3A (.assetDefine hP 7 .still 1 268435457) = some .range ∧
      statusP 0x3A (.assetDefine hP 6 .still 1 1) = some .duplicate) ∧
    (chunk 11 6 1 3 [1#8, 2#8, 3#8] = some (.ok, .count 4) ∧ chunk 10 6 1 3 [1#8, 2#8, 3#8] = some (.malformed, .none) ∧
      chunk 12 6 1 3 [1#8, 2#8, 3#8] = some (.malformed, .none) ∧ chunk 10 6 1 2 [1#8] = some (.malformed, .none) ∧
      chunk 12 6 1 4 [1#8, 2#8, 3#8, 4#8] = some (.range, .none) ∧ chunk 9 6 0 1 [1#8] = some (.range, .none) ∧
      chunk 9 5 1 1 [1#8] = some (.range, .none) ∧ chunk 9 7 0 1 [1#8] = some (.notFound, .none)) ∧
    ((arena.link .production).inbound = [] ∧ answer .production (.assetChunk hP 6 1 3 [1#8, 2#8, 3#8]) arena =
      some (.ok, .count 4)) ∧
    (statusP 0x3C (.assetDrop hP 6) = some .ok ∧ statusP 0x3C (.assetDrop hP 1023) = some .notFound ∧
      statusP 0x3C (.assetDrop hP 1024) = some .range) := by decide +kernel

/-- Inputs 0 and 3, disabled, ABSENT with 6 and 7 valid frames, and PRESENT; a rate that no camera has. -/
theorem witness_CameraSignalsAreDecidedAndHeld :
    let i : Input := { Input.reset with enabled := true }
    let s (n : Nat) (i : Input) : State := { arena with canvas := { arena.canvas with inputs := arena.canvas.inputs.set n i } }
    let on : Input := { i with signal := true, loss := .live, latest := some 6, captured := 7 }
    let c (r : Rate) : InputSetting := ⟨true, r⟩
    let held : State := { s 3 { i with loss := .holding, held := some 6 } with due := [.holdEnd 3] };
    admittedP 0x3D = true ∧ arena.due = [] ∧
    statusP 0x3D (.inputConfig hP (c ⟨240, 1⟩) (c ⟨50, 1⟩) (c ⟨60, 1⟩) (c ⟨60000, 1001⟩)) = some .ok ∧
    statusP 0x3D (.inputConfig hP (c ⟨240, 1⟩) (c ⟨50, 1⟩) (c ⟨60, 1⟩) (c ⟨30, 1⟩)) = some .range ∧
    (arena.input 3).enabled = false ∧
    ((after (.cameraFrame 0 true) (s 0 { i with validRun := 6 })).input 0).signal = false ∧
    ((after (.cameraFrame 0 true) (s 0 { i with validRun := 7 })).input 0).signal = true ∧
    ((after (.cameraFrame 3 true) (s 3 on)).input 3).latest = some 7 ∧
    ((after (.cameraFrame 3 false) (s 3 on)).input 3).holdFrames = 120 ∧
    ((after (.inputSignalTimeout 3) (s 3 on)).input 3).held = some 6 ∧
    (held.due = .holdEnd 3 :: [] ∧ ((after (.signalLossHoldEnd 3) held).input 3).loss = .slated) := by decide +kernel

/-- Input 0 PRESENT, its ring of 200 slots full, frame 50 the next to be written over; clips of each kind hold it or not. -/
def fullRing (signal : Bool) (rate : Rate) : State :=
  { arena with
    canvas := { arena.canvas with inputs :=
      [{ Input.reset with enabled := true, rate := ⟨60, 1⟩, signal := signal, validRun := if signal then 0 else 7 }, .reset,
        .reset, .reset] }
    capture := { arena.capture with rings := [⟨200, 250, 0, some rate, .preset120⟩, .reset, .reset, .reset] }
    replay := { arena.replay with
      clips := [⟨1, 0, 50, 59, rate, .ring, none, none⟩, ⟨2, 0, 40, 50, rate, .saving 9 50, none, none⟩,
        ⟨3, 0, 40, 60, rate, .saving 30 51, none, none⟩, ⟨4, 0, 51, 60, rate, .ring, none, none⟩,
        ⟨5, 0, 50, 60, rate, .saved 60, none, none⟩, ⟨6, 1, 50, 60, rate, .ring, none, none⟩]
      saveQueue := [2, 3] } }

/-- R130, R131, R134, R146: what a write over frame 50 takes, and what a first frame at another rate does. -/
theorem witness_CameraSignalsAreDecidedAndHeld_lost :
    let lost (t : State) : List Nat := (t.replay.clips.filter fun c => c.state == .lost).map (·.id)
    let t := after (.cameraFrame 0 true) (fullRing true ⟨60, 1⟩)
    let u := after (.cameraFrame 0 true) (fullRing false ⟨50, 1⟩);
    ((fullRing true ⟨60, 1⟩).replay.clips.map (·.id)).Nodup ∧
    (lost t = [1, 2] ∧ t.replay.saveQueue = [3] ∧ latest .clipState t = .clipState 2 0 .lost .overtaken (some 50) ∧
      (t.table.entry .clipState).count = 2) ∧
    (lost u = [1, 2, 3, 4] ∧ u.replay.saveQueue = [] ∧ latest .clipState u = .clipState 4 0 .lost .captureRestart none ∧
      (u.ring 0).floor = 250 ∧ (u.ring 0).w = 251 ∧ (u.ring 0).rate = some ⟨60, 1⟩) := by decide +kernel

theorem witness_CameraSignalsAreDecidedAndHeld_wf : (fullRing true ⟨60, 1⟩).linksWf ∧ (fullRing true ⟨60, 1⟩).tablesWf :=
  ⟨arena_linksWf, rfl, rfl, rfl, rfl, arena_tablesWf.counters⟩

/-- What no step breaks holds on the arena, which steps. -/
theorem witness_NothingGrantableIsLeft : arena.zonesWf ∧
    (∀ z ∈ arena.canvas.zones, ∀ r ∈ z.arb.pending, (r.level ≠ 0 ∧ r.level ∈ z.arb.mask) ∨
      (r.level ≠ 0 ∧ arena.timing.run = .running ∧ policyAt z.spec.policy r.level ≠ .free) ∨
      ∃ k ∈ z.arb.service, k.level ≤ r.level ∧ k.level ∉ z.arb.yielded) ∧ ∃ t, step arena = .next t :=
  ⟨arena_zonesWf, by decide, _, rfl⟩

theorem witness_ClockZonesShowTheClock : arena.zonesWf ∧
    (∀ z ∈ arena.canvas.zones, z.spec.role = .clock → z.spec.base = .clock ∧ z.spec.policy = allCut ∧
      (arena.timing.run = .running → ∀ k ∈ z.arb.service, k.level = 0)) ∧
    (∀ specs ∈ arena.canvas.awaitingLayout, ∀ n ∈ specs, n.role = .clock → n.base = .clock ∧ n.policy = allCut) ∧
    ∃ t, step arena = .next t := ⟨arena_zonesWf, by decide, by decide, _, rfl⟩

/-- A zone with a pending request at 0 and one at 7: the lowest number is granted. -/
theorem witness_EvaluationGrantsTheHighest :
    let z : Zone := { zone 1 .main .slate true easy with
      arb := ⟨[⟨0, .asset 5, none, none, 1⟩, ⟨7, .asset 5, some 6, none, 2⟩], [], [], [], 3⟩ }
    let s : State := { arena with canvas := { arena.canvas with zones := [z] } };
    s.zone? 1 = some z ∧ ((s.evaluate 1).zone? 1).map (fun z => (z.arb.service.map (·.level), z.arb.pending.map (·.level))) =
      some ([0], [7]) := by decide

theorem witness_EvaluationGrantsTheHighest_wf : arena.zonesWf ∧ (arena.zone? 1).isSome = true :=
  ⟨arena_zonesWf, by decide⟩

/-- R116 to R118 at their edges: levels 0, 1, 6, 7 and 8, durations of 100, 99, 600,000 and 600,001 ms, zones 7 and 8. -/
theorem witness_ProductionTakesAndReleases :
    let take (level : Nat) (ids : List Nat) (asset duration : Nat) : Option Status :=
      statusP 0x40 (.takeover hP level ⟨ids.length, ids⟩ asset duration);
    admittedP 0x40 = true ∧ admittedP 0x41 = true ∧ admittedP 0x42 = true ∧
    (take 0 [] 1023 0 = some .ok ∧ take 7 [] 5 0 = some .range ∧ take 7 [1, 7] 5 100 = some .ok ∧
      take 7 [8] 5 100 = some .range ∧ take 7 [1] 5 99 = some .range ∧ take 7 [1] 5 600000 = some .ok ∧
      take 7 [1] 5 600001 = some .range ∧ take 1 [1] 5 0 = some .notPermitted ∧ take 6 [1] 5 0 = some .notPermitted ∧
      take 8 [1] 5 0 = some .range ∧ take 7 [1] 1024 0 = some .range ∧ take 7 [1, 1] 5 0 = some .range ∧
      statusP 0x40 (.takeover hP 0 ⟨9, List.range 9⟩ 5 0) = some .malformed) ∧
    (statusP 0x41 (.release hP 7 ⟨1, [7]⟩) = some .ok ∧ statusP 0x41 (.release hP 8 ⟨0, []⟩) = some .range ∧
      statusP 0x41 (.release hP 1 ⟨0, []⟩) = some .notPermitted ∧ statusP 0x41 (.release hP 0 ⟨1, []⟩) = some .malformed) ∧
    statusP 0x42 (.clearTop hP 1) = some .notFound := by decide +kernel

theorem witness_ProductionTakesAndReleases_wf : (ready .production 0x40 arena).zonesWf :=
  ready_zonesWf _ _ _ arena_zonesWf

/-- Level 7 in service with one frame to go and with none. -/
def busy (left : Nat) : State :=
  { arena with
    due := [.takeoverExpiry 1]
    canvas := { arena.canvas with zones := [{ zone 1 .main .slate true easy with
      arb := ⟨[], [⟨7, .asset 5, some left, 1, 4, none, 0⟩], [], [], 2⟩ }] } }

theorem witness_EndsAreReportedToTheirOwners : (busy 1).standsAt 1 7 = some (.inService, 4) ∧ (busy 1).standsAt 1 6 = none ∧
    (busy 0).due = .takeoverExpiry 1 :: [] ∧ (after (.takeoverExpiry 1) (busy 0)).standsAt 1 7 = none ∧
    (after (.takeoverExpiry 1) (busy 1)).standsAt 1 7 = some (.inService, 4) ∧
    latest .takeoverEnded (after (.takeoverExpiry 1) (busy 0)) = .takeoverEnded 1 7 .expired .inService 4 := by decide

theorem witness_EndsAreReportedToTheirOwners_wf : (busy 0).zonesWf where
  ids := by decide
  small := by decide
  arb := by
    intro z hz
    refine ⟨?_, ?_, ?_, ?_, ?_, ?_, ?_⟩ <;> revert hz <;> revert z <;> decide
  awaiting := by decide

/-- R119 to R121: levels 1 and 7, 0 and 8; a zone that is not there; a CLOCK zone. -/
theorem witness_MaskYieldAndPolicy : admittedP 0x43 = true ∧ admittedP 0x44 = true ∧ admittedP 0x45 = true ∧
    statusP 0x43 (.mask hP 1 [1, 7]) = some .ok ∧ statusP 0x43 (.mask hP 1 [0]) = some .range ∧
    statusP 0x43 (.mask hP 1 [8]) = some .range ∧ statusP 0x43 (.mask hP 7 [1]) = some .notFound ∧
    answer .production (.yield hP 1 7 true) (ready .production 0x44 { busy 1 with due := [] }) = some (.ok, .topmost .base) ∧
    statusP 0x44 (.yield hP 1 8 true) = some .range ∧ statusP 0x44 (.yield hP 1 7 true) = some .notFound ∧
    statusP 0x45 (.zonePolicy hP 1 allCut) = some .ok ∧ statusP 0x45 (.zonePolicy hP 0 easy) = some .notPermitted := by
  decide +kernel

/-- R126 at 1,200 and 120,000 frames and beside them; R134 on input 3 and 4; R137 at 1, 65,535 and beside them. -/
theorem witness_RingsArePartitionedAndRestarted :
    let part (r0 r1 : Nat) : Option Status :=
      (answer .production (.ringPartition hP r0 r1 0 0) (ready .production 0x48 State.reset)).map (·.1);
    admittedP 0x48 = true ∧ admittedP 0x49 = true ∧ admittedP 0x4A = true ∧
    part 1200 0 = some .ok ∧ part 1199 0 = some .range ∧ part 120000 11072 = some .ok ∧ part 120000 11073 = some .range ∧
    part 120001 0 = some .range ∧ statusP 0x48 (.ringPartition hP 1200 0 0 0) = some .busy ∧
    statusP 0x49 (.captureRestart hP 3) = some .ok ∧ statusP 0x49 (.captureRestart hP 4) = some .range ∧
    statusP 0x4A (.marginSet hP 3 (.programmed 1)) = some .ok ∧
    statusP 0x4A (.marginSet hP 3 (.programmed 65535)) = some .ok ∧
    statusP 0x4A (.marginSet hP 3 (.programmed 0)) = some .range ∧
    statusP 0x4A (.marginSet hP 3 (.programmed 65536)) = some .range ∧
    answer .production (.marginSet hP 0 .preset1800) (ready .production 0x4A arena) = some (.ok, .count 1800) := by
  decide +kernel

theorem witness_RingsArePartitionedAndRestarted_wf : (ready .production 0x49 arena).tablesWf :=
  ready_tablesWf _ _ _ arena_tablesWf

/-- R141 at the ends of the ring and of the ids; R143 in each clip state; R145 at the last frame and before it. -/
theorem witness_ClipsAreMadeSavedAndDeleted :
    let create (id a b : Nat) : Option Status := statusP 0x50 (.clipCreate hP id 0 a b none (some [0x41#8]))
    let saving (copied : Nat) : State := { arena with replay := { arena.replay with
      clips := [⟨1, 0, 100, 109, ⟨60, 1⟩, .saving 20 copied, none, none⟩], saveQueue := [1] } };
    admittedP 0x50 = true ∧ admittedP 0x51 = true ∧ admittedP 0x52 = true ∧
    (create 127 0 199 = some .ok ∧ create 128 0 0 = some .range ∧ create 127 199 200 = some .range ∧
      create 127 5 4 = some .range ∧ create 1 0 9 = some .duplicate) ∧
    (answer .production (.clipSave hP 1) (ready .production 0x51 arena) = some (.ok, .pair 10 0) ∧
      statusP 0x51 (.clipSave hP 0) = some .duplicate ∧ statusP 0x51 (.clipSave hP 127) = some .notFound ∧
      statusP 0x51 (.clipSave hP 128) = some .range ∧
      answer .production (.clipSave hP 1) (ready .production 0x51 (saving 100)) = some (.busy, .none)) ∧
    (statusP 0x52 (.clipDelete hP 1) = some .ok ∧ statusP 0x52 (.clipDelete hP 2) = some .notFound) ∧
    ((saving 109).due = [] ∧ (saving 109).replay.saveQueue.head?.bind (saving 109).clip? =
      some ⟨1, 0, 100, 109, ⟨60, 1⟩, .saving 20 109, none, none⟩ ∧
      (after .saveCopyFrame (saving 109)).replay.clips.map (·.state) = [.saved 20] ∧
      (after .saveCopyFrame (saving 108)).replay.clips.map (·.state) = [.saving 20 109]) := by decide +kernel

theorem witness_ClipExtentsStayApart : arena.capture.rings.length = 4 ∧ (arena.replay.clips.map (·.id)).Nodup ∧
    (arena.replay.clips.filterMap (·.extent)).Pairwise (fun x y => x.1 + x.2 ≤ y.1 ∨ y.1 + y.2 ≤ x.1) ∧
    (∀ x ∈ arena.replay.clips.filterMap (·.extent), x.1 + x.2 ≤ 131072 - (arena.capture.rings.map (·.size)).sum) ∧
    step arena = .next arena := ⟨by decide, by decide, by decide, by decide, rfl⟩

/-- A channel with two entries on zone 1: CUED, and on air. -/
def cued (state : ChanState) : State :=
  { arena with
    canvas := { arena.canvas with zones := arena.canvas.zones.set 1 { zone 1 .main .slate true easy with
      arb := ⟨[], if state = .cued then [] else [⟨3, .channel .a, none, 1, 0, none, 0⟩], [], [], 2⟩ } }
    replay := { arena.replay with chanA :=
      { Chan.reset with state := state, cues := [⟨1, 0, 1000, 0, 0, 1, none⟩, ⟨2, 0, 500, 0, 0, 1, none⟩], pos := 10 } } }

/-- R148 at the ends of speed, loops and offset; R150 on the head and behind it; R153, R155. -/
theorem witness_CuesAreKeptInOrder :
    let add (clip : Nat) (speed : Int) (loops offset : Nat) : Option Status :=
      statusP 0x54 (.cueAdd hP .a ⟨clip, speed, loops, offset, 1, some 3⟩)
    let on (state : ChanState) (kind : Nat) (c : Instr) : Option Status :=
      (answer .production c (ready .production kind (cued state))).map (·.1);
    admittedP 0x54 = true ∧ admittedP 0x55 = true ∧ admittedP 0x58 = true ∧ admittedP 0x59 = true ∧
    (add 0 25 8 9 = some .ok ∧ add 0 (-4000) 0 0 = some .ok ∧ add 0 0 0 0 = some .ok ∧ add 0 24 0 0 = some .range ∧
      add 0 4001 0 0 = some .range ∧ add 0 (-24) 0 0 = some .range ∧ add 0 25 9 0 = some .range ∧
      add 0 25 8 10 = some .range ∧ add 127 25 0 0 = some .notFound ∧ add 128 25 0 0 = some .range) ∧
    (on .cued 0x55 (.cueRemove hP .a 1) = some .ok ∧ on .playing 0x55 (.cueRemove hP .a 1) = some .busy ∧
      on .playing 0x55 (.cueRemove hP .a 2) = some .ok ∧ on .cued 0x55 (.cueRemove hP .a 3) = some .notFound) ∧
    (on .cued 0x58 (.channelSpeed hP .a 4000) = some .ok ∧ on .cued 0x58 (.channelSpeed hP .a 24) = some .range ∧
      statusP 0x58 (.channelSpeed hP .a 25) = some .notFound) ∧
    statusP 0x59 (.channelChain hP .b true) = some .ok := by decide +kernel

/-- R151 on a CUED, an IDLE and a PLAYING channel; R159 on and off air. -/
theorem witness_ChannelsRollAndStop :
    let on (state : ChanState) (kind : Nat) (c : Instr) : Option (Status × Result) :=
      answer .production c (ready .production kind (cued state));
    (ready .production 0x56 (cued .cued)).admits hP 0x56 = true ∧
    (ready .production 0x57 (cued .playing)).admits hP 0x57 = true ∧
    on .cued 0x56 (.channelRoll hP .a) = some (.ok, .roll 0 (.granted 1)) ∧
    on .playing 0x56 (.channelRoll hP .a) = some (.busy, .none) ∧ on .cued 0x56 (.channelRoll hP .b) = some (.notFound, .none) ∧
    on .playing 0x57 (.channelStop hP .a) = some (.ok, .count 1) ∧
    on .cued 0x57 (.channelStop hP .a) = some (.notFound, .none) ∧
    ((cued .cued).clip? 0).isSome = true ∧ (cued .cued).replayTarget 1 = true ∧ (cued .cued).standsAt 1 3 = none := by
  decide +kernel

/-- The heads of a list: clip 9 is not held, zone 3 takes no replay, and the third can be shown. -/
def dropping (n : Nat) : State :=
  { cued .cued with replay := { (cued .cued).replay with chanA := { (cued .cued).replay.chanA with cues :=
    [⟨1, 9, 1000, 0, 0, 1, none⟩, ⟨2, 0, 1000, 0, 0, 3, none⟩, (⟨3, 0, 1000, 0, 4, 1, none⟩ : Cue)].take n } } }

theorem witness_ChannelsRollAndStop_dropped :
    let roll (n : Nat) : Option (Status × Result) := answer .production (.channelRoll hP .a) (ready .production 0x56 (dropping n));
    (ready .production 0x56 (dropping 3)).admits hP 0x56 = true ∧ (dropping 3).standsAt 1 3 = none ∧
    roll 1 = some (.ok, .roll 1 .empty) ∧ roll 2 = some (.ok, .roll 2 .empty) ∧ roll 3 = some (.ok, .roll 2 (.granted 3)) ∧
    latest .channelState (after (.channelRoll hP .a) (ready .production 0x56 (dropping 2))) =
      .channelState .a 2 0 .zoneGone 10 0 0 .idle := by decide +kernel

theorem witness_ChannelsRollAndStop_links : (ready .production 0x56 (dropping 3)).linksWf := by
  constructor <;> exact ⟨by decide, by unfold CondEntry.wf; decide, by decide, by decide, by decide, by decide, by decide,
    by decide, by decide⟩

theorem witness_ChannelsRollAndStop_wf : ∀ state, (ready .production 0x56 (cued state)).zonesWf := by
  intro state
  apply ready_zonesWf
  cases state <;> exact
    { ids := by decide
      small := by decide
      arb := by
        intro z hz
        refine ⟨?_, ?_, ?_, ?_, ?_, ?_, ?_⟩ <;> revert hz <;> revert z <;> decide
      awaiting := by decide }

/-- Shown inside a pass, at its end with a pass left, at the end of the last pass, and not shown. -/
theorem witness_ShownChannelsAdvance :
    let at_ (pos : Int) (passes : Nat) : State := { cadence with replay := { cadence.replay with
      chanA := { cadence.replay.chanA with pos := pos, passes := passes } } }
    let e : Cue := ⟨1, 0, 400, 2, 7, 1, none⟩;
    ((cadence.chan .a).cues = e :: [] ∧ cadence.clip? e.fields.clip = some ⟨0, 0, 5000, 5009, ⟨60, 1⟩, .saved 0, none, none⟩ ∧
      (cadence.chan .a).state = .playing ∧ cadence.shownTop 1 = some (.level 3)) ∧
    (((at_ 5008 0).stepChannel .a).chan .a).pos = 5009 ∧ (((at_ 5009 0).stepChannel .a).chan .a).pos = 5000 ∧
    (((at_ 5009 1).stepChannel .a).chan .a).cues = [] ∧
    ((({ cadence with canvas := arena.canvas } : State).stepChannel .a).chan .a).state = .covered := by decide +kernel

/-- With chain on, the entry behind the complete one cannot be shown and the next can; none can. -/
def chained (n : Nat) : State :=
  { cadence with replay := { cadence.replay with chanA := { cadence.replay.chanA with
    passes := 1, chain := true
    cues := [⟨1, 0, 400, 2, 7, 1, none⟩, ⟨2, 9, 400, 2, 7, 1, none⟩, (⟨3, 0, 400, 2, 7, 1, none⟩ : Cue)].take n } } }

theorem witness_ShownChannelsAdvance_chained : (chained 3).zonesWf ∧ (chained 3).linksWf ∧
    (∀ zone, zone ≠ 1 → (chained 3).standsAt zone 3 = none) ∧
    (((chained 3).stepChannel .a).chan .a).cues.map (·.number) = [3] ∧
    (((chained 2).stepChannel .a).chan .a).state = .idle := by
  refine ⟨⟨arena_zonesWf.ids, arena_zonesWf.small, arena_zonesWf.arb, arena_zonesWf.awaiting⟩, arena_linksWf, ?_,
    by decide +kernel, by decide +kernel⟩
  intro zone _
  match zone with
  | 0 | 1 | 2 | 3 => decide
  | _ + 4 => rfl

/-- Channel A on air in zone 1 with its head in the store, and with its head overwritten in the ring (the oldest frame is
150). -/
def overrun : State :=
  { cued .playing with
    capture := { arena.capture with rings := [⟨1200, 200, 150, some ⟨60, 1⟩, .preset120⟩, .reset, .reset, .reset] }
    replay := { (cued .playing).replay with chanA := { (cued .playing).replay.chanA with
      cues := [⟨1, 1, 1000, 0, 0, 1, none⟩], pos := 100 } } }

theorem witness_ShownChannelsAdvance_frame :
    let top (s : State) : List (Option Nat) := s.canvas.zones.map fun z =>
      (z.arb.service.find? fun k => !z.arb.yielded.contains k.level && decide (k.grantFrame ≤ s.canvas.frame + 1)).map (·.level);
    (overrun.due = [] ∧ overrun.canvas.awaitingConfig = none ∧ overrun.canvas.awaitingLayout = none ∧
      top overrun = [none, some 3, none, none] ∧ (overrun.chan .b).state = .idle ∧
      (overrun.clip? 1).map (·.inStore 100) = some false ∧ (overrun.ring 0).floor = 150) ∧
    latest .channelState (after .outputFrameEvent overrun) = .channelState .a 1 1 .overrun 100 0 0 .idle ∧
    ((cued .playing).due = [] ∧ top (cued .playing) = [none, some 3, none, none] ∧
      ((cued .playing).clip? 0).map (·.inStore 10) = some true) ∧
    ((after .outputFrameEvent (cued .playing)).chan .a).pos = 11 := by decide +kernel

theorem witness_ShownChannelsAdvance_frame_wf : (cued .playing).zonesWf ∧ overrun.zonesWf ∧ overrun.linksWf := by
  have h : (cued .playing).zonesWf :=
    { ids := by decide
      small := by decide
      arb := by
        intro z hz
        refine ⟨?_, ?_, ?_, ?_, ?_, ?_, ?_⟩ <;> revert hz <;> revert z <;> decide
      awaiting := by decide }
  exact ⟨h, ⟨h.ids, h.small, h.arb, h.awaiting⟩, arena_linksWf⟩

/-- R164, R165, R177, R183 and R185 at their edges. -/
theorem witness_SponsorsAndQuotasAreSet :
    let mask : CounterMask := ⟨true, false, false, false, false, false⟩;
    admittedP 0x60 = true ∧ admittedP 0x6A = true ∧ admittedP 0x6B = true ∧ admittedP 0x67 = true ∧
    (statusP 0x60 (.sponsorDefine hP 63 (List.replicate 16 0x41#8) (some (2 ^ 48 - 1))) = some .ok ∧
      statusP 0x60 (.sponsorDefine hP 64 [0x41#8] none) = some .range ∧
      statusP 0x60 (.sponsorDefine hP 63 (List.replicate 17 0x41#8) none) = some .range ∧
      statusP 0x60 (.sponsorDefine hP 63 [0x41#8] (some (2 ^ 48))) = some .range ∧
      statusP 0x60 (.sponsorDefine hP 63 [0x41#8] (some 0)) = some .range ∧
      statusP 0x60 (.sponsorDefine hP 3 [] none) = some .duplicate) ∧
    (statusP 0x60 (.sponsorRemove hP 3) = some .busy ∧ statusP 0x60 (.sponsorRemove hP 4) = some .notFound ∧
      (answer .production (.sponsorRemove hP 3) (ready .production 0x60 { arena with rotation :=
        { arena.rotation with programs := State.reset.rotation.programs } })).map (·.1) = some .ok) ∧
    (answer .production (.quotaSet hP 3 (some 999)) (ready .production 0x6A arena) =
        some (.ok, .quota 999 true true true true) ∧
      answer .production (.quotaSet hP 3 (some 1000)) (ready .production 0x6A arena) =
        some (.ok, .quota 1000 true true false false) ∧ statusP 0x6A (.quotaSet hP 3 (some 0)) = some .range ∧
      statusP 0x6A (.quotaSet hP 4 none) = some .notFound) ∧
    (statusP 0x6B (.counterMask hP mask 100) = some .ok ∧ statusP 0x6B (.counterMask hP mask 101) = some .range ∧
      statusP 0x6B (.counterMask hP { mask with delivered := false } 0) = some .range) ∧
    (statusP 0x67 (.breakFeature hP (some (3, 1023))) = some .ok ∧
      statusP 0x67 (.breakFeature hP (some (3, 1024))) = some .range ∧
      statusP 0x67 (.breakFeature hP (some (63, 0))) = some .notFound ∧
      statusP 0x67 (.breakFeature hP none) = some .ok) := by decide +kernel

theorem witness_SponsorsAndQuotasAreSet_wf : (ready .production 0x6A arena).tablesWf := ready_tablesWf _ _ _ arena_tablesWf

theorem witness_SelectionsChooseTheNextEntry : (0 ≤ 3 ∧ 3 ≤ 3) ∧ arena.tablesWf ∧
    (((arena.select 0).program 0).onAir.map (·.remaining)) = some 300 ∧ ((arena.select 3).program 3).slates = 1 :=
  ⟨by decide, arena_tablesWf, by decide +kernel, by decide +kernel⟩

/-- R167 and R172 to R174 on programs 0, 3 and 4, and at the ends of a dwell. -/
theorem witness_ProgramsRunTheirEntries :
    let load (p dwell asset : Nat) : Option Status :=
      statusP 0x61 (.rotationLoad hP p 1 [⟨1, some 3, asset, dwell, false⟩])
    let due : State := { arena with
      due := [.dwellEnd 0]
      rotation := { arena.rotation with programs := [{ Program.reset with
        entries := [entry0], onAir := some ⟨some entry0, 0, 9, 4, 0⟩ }, .reset, .reset, .reset] } };
    admittedP 0x61 = true ∧ admittedP 0x62 = true ∧ admittedP 0x63 = true ∧ admittedP 0x64 = true ∧ admittedP 0x65 = true ∧
    (load 3 2000 1023 = some .ok ∧ load 3 60000 0 = some .ok ∧ load 3 1999 0 = some .range ∧ load 3 60001 0 = some .range ∧
      load 3 2000 1024 = some .range ∧ load 4 2000 0 = some .range ∧
      statusP 0x61 (.rotationLoad hP 0 2 [entry0, entry0]) = some .duplicate ∧
      statusP 0x61 (.rotationLoad hP 0 1 []) = some .malformed) ∧
    (statusP 0x63 (.rotationSuspend hP 0 10) = some .ok ∧ statusP 0x63 (.rotationSuspend hP 3 10) = some .notFound ∧
      statusP 0x63 (.rotationSuspend hP 4 10) = some .range ∧ statusP 0x64 (.rotationResume hP 0 10) = some .ok ∧
      statusP 0x65 (.rotationFront hP 0 10) = some .ok ∧ statusP 0x65 (.rotationFront hP 0 11) = some .notFound ∧
      statusP 0x62 (.rotationMode hP 3 .rotate .run) = some .ok ∧ statusP 0x62 (.rotationMode hP 4 .rotate .run) = some .range) ∧
    (due.due = .dwellEnd 0 :: [] ∧ ((after (.appearanceDwellEnd 0) due).exposed 3).shortAppearances = 1) := by
  decide +kernel

theorem witness_ProgramsRunTheirEntries_wf : (ready .production 0x61 arena).tablesWf ∧ arena.tablesWf :=
  ⟨ready_tablesWf _ _ _ arena_tablesWf, arena_tablesWf⟩

theorem witness_NoSuspendedEntryIsOnAir : arena.tablesWf ∧
    (∀ g ∈ arena.rotation.programs, (g.entries.map (·.id)).Nodup ∧ ∀ a ∈ g.onAir, ∀ e ∈ a.entry, ∀ f ∈ g.entries,
      f.id = e.id → f.suspended = false) ∧ step arena = .next arena := ⟨arena_tablesWf, by decide, rfl⟩

/-- A feature list with a break feature waiting behind the head, and one whose head is the break feature. -/
def featured (n : Nat) : State :=
  { arena with rotation := { arena.rotation with
    features := [⟨41, 3, 5, 1000, [1], false, [1]⟩, ⟨42, 3, 5, 1000, [], true, []⟩], breakConfig := some (3, 5)
    breakRecorded := some n } }

/-- R175 at the ends of the duration; R177 with a list empty and not, a feature recorded and none. -/
theorem witness_FeaturesFollowTheirList :
    let add (duration : Nat) (ids : List Nat) : Option Status :=
      statusP 0x66 (.featureAdd hP 3 5 duration ⟨ids.length, ids⟩);
    admittedP 0x66 = true ∧ arena.zonesWf ∧ arena.rotation.featuresDropped ≤ 65535 ∧
    (add 1000 [] = some .ok ∧ add 120000 [7] = some .ok ∧ add 999 [] = some .range ∧ add 120001 [] = some .range ∧
      add 1000 [8] = some .range ∧ add 1000 (List.range 9) = some .malformed) ∧
    (arena.rotation.features = [] ∧ arena.rotation.breakConfig = none ∧ arena.rotation.breakRecorded = none) ∧
    ((featured 42).rotation.features ≠ [] ∧ (featured 42).rotation.breakConfig = some (3, 5) ∧
      (featured 42).rotation.breakRecorded = some 42 ∧ (featured 41).rotation.breakRecorded = some 41) ∧
    (featured 42).featureBreakCancel.rotation.features.map (·.number) = [41] := by
  refine ⟨by decide, arena_zonesWf, by decide, by decide +kernel, by decide, by decide, by decide +kernel⟩

theorem witness_FramesAreCredited : arena.tablesWf ∧ frameShown.canvas.visibility.length = 5 :=
  ⟨arena_tablesWf, by decide⟩

theorem witness_CountersNeverFall : arena.tablesWf ∧ (∃ t, exec .outputFrameEvent arena = .next t) ∧
    (∀ h, Instr.outputFrameEvent ≠ .gameOpen h) ∧ (∀ r, Instr.outputFrameEvent ≠ .twinEventReceived r) ∧
    ∀ a b l, Instr.outputFrameEvent ≠ .powerOn a b l :=
  ⟨arena_tablesWf, ⟨_, rfl⟩, fun _ h => (nomatch h), fun _ h => (nomatch h), fun _ _ _ h => (nomatch h)⟩

/-- R190 at the edges of Table 11-1, and R191 to R193 and R199 on a message held, queued, and not there. -/
theorem witness_TheCrawlTakesItsRecords :
    let config (c : CrawlConfig) : Option (Status × Result) :=
      answer .production (.crawlConfig hP c) (ready .production 0x70 arena)
    let c := Crawl.reset.config
    let submit (id n repeats : Nat) : Option Status :=
      statusP 0x71 (.msgSubmit hP id (List.replicate n 0x41#8) repeats .ordinary);
    admittedP 0x70 = true ∧ admittedP 0x71 = true ∧ admittedP 0x72 = true ∧ admittedP 0x73 = true ∧ admittedP 0x74 = true ∧
    (config { c with speed := 17, gap := 512 } = some (.ok, .count 16) ∧ config { c with speed := 0 } = some (.range, .none) ∧
      config { c with gap := 15 } = some (.range, .none) ∧ config { c with gap := 513 } = some (.range, .none) ∧
      config { c with duration := 1999 } = some (.range, .none) ∧ config { c with duration := 30000 } = some (.ok, .count 4) ∧
      config { c with backlog := 65 } = some (.range, .none) ∧ config { c with widths := [] } = some (.malformed, .none) ∧
      config { c with sponsor := some 63 } = some (.notFound, .none) ∧ config { c with idle := some 4 } = some (.range, .none)) ∧
    (submit 65535 200 5 = some .ok ∧ submit 0 1 1 = some .range ∧ submit 9 201 1 = some .range ∧ submit 9 1 6 = some .range ∧
      submit 1 1 1 = some .duplicate) ∧
    (statusP 0x72 (.msgApprove hP 1) = some .ok ∧ statusP 0x72 (.msgApprove hP 2) = some .busy ∧
      statusP 0x72 (.msgApprove hP 3) = some .notFound ∧ statusP 0x72 (.msgApprove hP 0) = some .range) ∧
    (statusP 0x73 (.msgReject hP 1) = some .ok ∧ statusP 0x73 (.msgReject hP 2) = some .busy) ∧
    (statusP 0x74 (.msgWithdraw hP 2) = some .ok ∧ statusP 0x74 (.msgWithdraw hP 3) = some .notFound) := by decide +kernel

theorem witness_TheCrawlTakesItsRecords_wf : (ready .production 0x70 arena).tablesWf := ready_tablesWf _ _ _ arena_tablesWf

/-- A feature order that a zone takes and one that none takes; a card standing, ended, and ended with its last pass. -/
theorem witness_CardsFollowTheFeatureOrder :
    let none_ : State := { arena with canvas := { arena.canvas with zones := [] } }
    let card (zones : List Nat) (repeats : Nat) : State := { arena with crawl := { arena.crawl with
      messages := [⟨1, [0x41#8], repeats, .featured, .queued, false, 0⟩], featureOrder := [1], card := some ⟨1, zones⟩ } };
    arena.zonesWf ∧ arena.crawl.cardsDropped ≤ 65535 ∧
    ((arena.startCards [1]).crawl.card = some ⟨1, [1]⟩ ∧ (none_.startCards [1]).crawl.cardsDropped = 1) ∧
    ((card [1] 1).cardFollow.crawl.card = some ⟨1, [1]⟩ ∧ (card [] 1).cardFollow.crawl.card = none ∧
      (card [] 1).cardFollow.crawl.messages.map (·.featuredDone) = [true] ∧
      (card [] 0).cardFollow.crawl.messages = []) := by
  refine ⟨arena_zonesWf, by decide, by decide +kernel, by decide +kernel⟩

theorem witness_EveryStepKeepsTheCrawl :
    let s := { crawling 660 1200 with crawl := { (crawling 660 1200).crawl with
      messages := (crawling 660 1200).crawl.messages ++ [⟨3, [0x41#8], 1, .featured, .queued, false, 0⟩], featureOrder := [3] } }
    let c := s.crawl;
    (c.messages.length ≤ 64 ∧ (c.messages.map (·.id)).Nodup ∧ c.strip.length ≤ 8 ∧ (c.strip.map (·.id)).Nodup ∧
      c.order.Nodup ∧ c.featureOrder.Nodup ∧ (c.strip.Pairwise fun a b => a.x + (a.width : Int) + (c.config.gap : Int) ≤ b.x) ∧
      (∀ i ∈ c.strip, ∃ m ∈ c.messages, m.id = i.id) ∧
      (∀ id ∈ c.order, ∃ m ∈ c.messages, m.id = id ∧ m.state = .queued) ∧
      (∀ id ∈ c.featureOrder, ∃ m ∈ c.messages, m.id = id ∧ m.state ≠ .held ∧ m.cls = .featured) ∧
      ∀ m ∈ c.messages, m.state = .onAir ↔ ∃ i ∈ c.strip, i.id = m.id) ∧ step s = .next s := ⟨by decide, rfl⟩

/-- The crawl shown with a message on the strip, and not shown. -/
theorem witness_TheStripMovesAndFills : let s := crawling 660 1200;
    (s.crawlZone?.map (·.spec.id)) = some 2 ∧
    (s.canvas.visibility.any fun e => e.zone == 2 && e.top == .base) = true ∧
    ((s.crawl.messages.map (·.id)).Nodup ∧ (s.crawl.strip.map (·.id)).Nodup) ∧
    (∀ i ∈ s.crawl.strip, i.id ∉ s.crawl.order ∧ ∃ m ∈ s.crawl.messages, m.id = i.id) ∧
    (∀ id ∈ s.crawl.order, ∃ m ∈ s.crawl.messages, m.id = id) ∧
    (∀ z ∈ arena.crawlZone?, (arena.canvas.visibility.any fun e => e.zone == z.spec.id && e.top == .base) = false) := by
  decide

/-- R66 on the log's head, on its one entry and on a seq that is gone. -/
theorem witness_GameReadsReportWhatStands : admittedT 0x1B = true ∧ admittedP 0x1B = true ∧ admittedT 0x28 = true ∧
    admittedT 0x29 = true ∧ admittedP 0x31 = true ∧ statusT 0x29 (.logRead hT 0) = some .ok ∧
    statusT 0x29 (.logRead hT 1) = some .ok ∧ statusT 0x29 (.logRead hT 2) = some .notFound ∧
    (∃ e ∈ arena.record.game.log, e.seq = 1) := by decide

/-- Each read at the last id it knows and one past it. -/
theorem witness_CanvasReadsReportWhatStands :
    admittedP 0x46 = true ∧ admittedP 0x4B = true ∧ admittedP 0x53 = true ∧ admittedP 0x5A = true ∧ admittedP 0x68 = true ∧
    admittedP 0x6C = true ∧ admittedP 0x75 = true ∧
    (statusP 0x46 (.zoneQuery hP 3) = some .ok ∧ statusP 0x46 (.zoneQuery hP 4) = some .notFound) ∧
    (statusP 0x4B (.ringStatus hP 3) = some .ok ∧ statusP 0x4B (.ringStatus hP 4) = some .range) ∧
    (statusP 0x53 (.clipRead hP 1) = some .ok ∧ statusP 0x53 (.clipRead hP 127) = some .notFound ∧
      statusP 0x53 (.clipRead hP 128) = some .range) ∧
    statusP 0x5A (.channelStatus hP .b) = some .ok ∧
    (statusP 0x68 (.rotationStatus hP 3) = some .ok ∧ statusP 0x68 (.rotationStatus hP 4) = some .range) ∧
    (statusP 0x6C (.exposureRead hP 63) = some .ok ∧ statusP 0x6C (.exposureRead hP 64) = some .range) ∧
    (statusP 0x75 (.msgList hP 63 .text) = some .ok ∧ statusP 0x75 (.msgList hP 64 .short) = some .range) := by
  decide +kernel

/-! ## What meets the further clauses -/

/-- The causes of the CLOCK records handed over. -/
def clockCauses (t : State) : List ClockCause := t.twin.out.filterMap fun r => match r with
  | .clock c => some c.cause
  | _ => none

/-- Whether a kind of condition is pending, and its count, on the table link. -/
def counted (c : Cond) (t : State) : Nat := (t.table.entry c).count

/-- A master's clock stopped in COUNTDOWN, level 1 standing in zone 1; and its CLOCK_SET. -/
def halted : State :=
  asMaster ((lastMinute true .countdown [1]).mapTiming fun t => { t with run := .stopped })
def setTo (v : Nat) : State := after (.clockSet hT v) (ready .table 0x11 halted)

/-- R34, R46, R77: a CLOCK_SET at the threshold and one above it. -/
theorem witness_TableRunsAndSetsTheClock_set : (ready .table 0x11 halted).admits hT 0x11 = true ∧
    [setTo 10000, setTo 10001].map levelOne = [(.countdown, [1], levelKept), (.idle, [], some none)] ∧
    clockCauses (setTo 10000) = [.set] ∧ clockCauses (setTo 10001) = [.set] ∧ (setTo 0).timing.atLimit = true := by
  decide +kernel

theorem witness_TableRunsAndSetsTheClock_set_wf : (ready .table 0x11 halted).linksWf ∧ (ready .table 0x11 halted).zonesWf :=
  ⟨ready_linksWf _ _ _ arena_linksWf, ready_zonesWf _ _ _
    ⟨(lastMinute_zonesWf true .countdown [1]).ids, (lastMinute_zonesWf true .countdown [1]).small,
      (lastMinute_zonesWf true .countdown [1]).arb, (lastMinute_zonesWf true .countdown [1]).awaiting⟩⟩

/-- A master's running clock in a phase, adjusted; and an UP clock with run-on one second below the regulation end. -/
def adjusted (stands : Bool) (phase : Phase) (outstanding : List Nat) (x : Int) : State :=
  after (.clockAdjust hT x) (ready .table 0x12 (asMaster (lastMinute stands phase outstanding)))
def upClock : State :=
  asMaster { arena with timing := { arena.timing with
    v := 719000, run := .running, rules := { defaultRules with direction := .up, runOn := true } } }
def upAdjusted (x : Int) : State := after (.clockAdjust hT x) (ready .table 0x12 upClock)

/-- R33, R35, R45 to R47, R77: an adjustment above the threshold releases, one below it in IDLE and SPENT asks, one to the
limit expires; an UP clock crosses P, or does not reach it. -/
theorem witness_TableRunsAndSetsTheClock_adjusted :
    (ready .table 0x12 (asMaster (lastMinute true .countdown [1]))).admits hT 0x12 = true ∧
    (ready .table 0x12 upClock).admits hT 0x12 = true ∧
    [adjusted true .countdown [1] 5001, adjusted true .countdown [1] 5000, adjusted false .idle [] 5000,
        adjusted false .idle [] 5001, adjusted false .spent [] 1, adjusted true .countdown [1] (-5000)].map levelOne =
      [(.idle, [], some none), (.countdown, [1], levelKept), (.countdown, [1], levelTaken 5 none 0), (.idle, [], some none),
        (.countdown, [1], levelTaken 5 none 0), (.periodEnd, [1], levelTaken 6 (some 180) 4)] ∧
    [adjusted true .countdown [1] (-4999), adjusted true .countdown [1] (-5000), upAdjusted 1000].map clockCauses =
      [[.adjust], [.expiry, .adjust], [.adjust]] ∧
    latest .runChanged (adjusted true .countdown [1] (-5000)) = .runChanged .stopped .expiry 0 0 ∧
    [upAdjusted 999, upAdjusted 1000].map (fun t => (t.timing.regulation, counted .clockExpired t, t.timing.gameHorn)) =
      [(false, 0, none), (true, 1, some 1500)] ∧
    latest .clockExpired (upAdjusted 1000) = .clockExpired .regulation 1 .up 720000 := by decide +kernel

/-- R31, R77: an ordinary expiry on a master. -/
def expired : State :=
  after .gameClockExpiry (asMaster { arena with due := [.gameExpiry], timing := { arena.timing with v := 0, run := .running } })

theorem witness_GameClockExpires_handed : clockCauses expired = [.expiry] ∧
    latest .runChanged expired = .runChanged .stopped .expiry 0 0 ∧ counted .runChanged expired = 1 ∧
    counted .clockExpired expired = 1 := by decide +kernel

/-- R72, one row for each step, each side of it: both manual to one role; manual on this side and on the other; a last role
MASTER on one side and on both; preference; token; equal tokens. -/
theorem test_decision_steps :
    let p (role : TwinRole) (token : Nat) (last : LastRole) : Hello := ⟨role, token, last, .setup, .solo⟩;
    [decide72 .manualMaster 1 .none (p .manualMaster 2 .none), decide72 .manualFollower 1 .master (p .manualFollower 2 .none),
        decide72 .manualMaster 1 .none (p .autoPreferMaster 2 .master),
        decide72 .autoPreferFollower 1 .master (p .manualMaster 2 .none),
        decide72 .manualFollower 9 .master (p .autoPreferFollower 2 .none),
        decide72 .autoPreferFollower 1 .none (p .manualFollower 2 .master),
        decide72 .autoPreferFollower 1 .master (p .autoPreferMaster 2 .follower),
        decide72 .autoPreferMaster 9 .none (p .autoPreferFollower 2 .master),
        decide72 .autoPreferMaster 1 .master (p .autoPreferFollower 2 .master),
        decide72 .autoPreferFollower 9 .none (p .autoPreferMaster 2 .none),
        decide72 .autoPreferMaster 2 .none (p .autoPreferMaster 1 .none),
        decide72 .autoPreferMaster 1 .none (p .autoPreferMaster 2 .none),
        decide72 .autoPreferFollower 2 .none (p .autoPreferFollower 2 .none)] =
      [.fault .bothManual, .fault .bothManual, .master, .follower, .follower, .master, .master, .follower, .master, .follower,
        .master, .follower, .fault .equalTokens] := by decide +kernel

/-- A part that awaits its STATE with a stop window open on an expiry, and the STATE it is given. -/
def awaiting (gate : Gate) : State :=
  { arena with
    timing := { arena.timing with v := 0, run := .running, gate := gate, window := 3, counted := 3, expiryPending := true }
    twin := { arena.twin with role := .manualFollower, state := .resolving, decidedFollower := true } }
def given (run : RunState) : StateRecord :=
  ⟨defaultRules, { arena.clockFields with v := 700, run := run }, arena.record.game, 9⟩

/-- R73, R78, R79: the first adoption declares what the stop window held; a clock RUNNING in SETUP starts the game. -/
theorem witness_FollowersMirrorStateAndClock_adopted :
    let t := after (.twinStateReceived 1 1 (given .running)) (awaiting .stopPending)
    let u := after (.twinStateReceived 1 1 (given .running)) following;
    (awaiting .stopPending).due = [] ∧ (awaiting .stopPending).twin.state = .resolving ∧
    latest .twinState t = .twinState .resolving .follower .stateAdopted .follower .none ∧
    t.table.entry .runChanged = ⟨true, 2, .runChanged .stopped .expiry 0 0, .runChanged .running .mirror t.timing.v 0⟩ ∧
    t.record.game.session = .inGame ∧
    t.table.entry .sessionChanged =
      ⟨true, 2, .sessionChanged .setup .inGame .start 1, .sessionChanged .setup .inGame .mirror 1⟩ ∧
    counted .clockExpired t = 1 ∧
    following.due = [] ∧ counted .twinState u = 0 ∧ counted .runChanged u = 0 ∧ u.record.game.session = .setup ∧
    latest .sessionChanged u = .sessionChanged .setup .setup .mirror 1 := by decide +kernel

/-- A follower's clock, and a CLOCK of its master. -/
def mirrored (cause : ClockCause) (run : RunState) (atLimit : Bool) (v : Nat) (s : State) : State :=
  after (.twinClockReceived ⟨cause, { s.clockFields with v := v, run := run, atLimit := atLimit }⟩) s

/-- R31, R42, R78, R79: a start and a stop mirrored, a stop at the limit, a BREAK_END with the timer running and idle. -/
theorem witness_FollowersMirrorStateAndClock_clock :
    let idle : State := following.mapTiming fun t => { t with run := .stopped }
    let broken : State := following.mapTiming fun t => { t with brkRunning := true, brkLength := 30000, brkHorn := true }
    let start := mirrored .run .running false 45303 idle
    let stop := mirrored .run .stopped false 45300 following
    let limit := mirrored .expiry .stopped true 0 following
    let ended := mirrored .breakEnd .running false 45303 broken;
    (idle.due = [] ∧ idle.twin.state = .follower ∧ broken.due = []) ∧
    (latest .runChanged start = .runChanged .running .mirror start.timing.v 0 ∧
      latest .sessionChanged start = .sessionChanged .setup .inGame .start 1 ∧ start.record.game.session = .inGame) ∧
    (latest .runChanged stop = .runChanged .stopped .mirror 45300 0 ∧ counted .clockExpired stop = 0) ∧
    (latest .runChanged limit = .runChanged .stopped .expiry 0 0 ∧
      latest .clockExpired limit = .clockExpired .limit 1 .down 0) ∧
    latest .breakExpired ended = .breakExpired 30 true ∧
    counted .breakExpired (mirrored .breakEnd .running false 45303 following) = 0 := by decide +kernel

/-- R12, R67, R80: the scores and periods a follower mirrors, with a revision found and one that is not. -/
theorem witness_EventsAreAppliedInOrder_raised :
    let on (k : Change) : State := after (.twinEventReceived ⟨31, k, 9⟩) following;
    latest .scoreChanged (on (.scoreAdd .home 3)) = .scoreChanged 9 .home 3 5 1 ∧
    latest .scoreCorrected (on (.scoreRevise 1)) = .scoreCorrected 9 1 .home (-2) 0 ∧
    ((on (.scoreRevise 2)).record.game.log = following.record.game.log ∧ (on (.scoreRevise 2)).record.game.nextSeq = 10) ∧
    latest .sessionChanged (on .gameOpen) = .sessionChanged .setup .setup .mirror 1 ∧
    latest .sessionChanged (on .gameFinal) = .sessionChanged .setup .final .mirror 1 ∧
    latest .sessionChanged (on .nextPeriod) = .sessionChanged .setup .setup .mirror 2 := by decide +kernel

theorem witness_FollowersMirror_wf : following.linksWf ∧ following.zonesWf ∧ (awaiting .stopPending).linksWf :=
  ⟨arena_linksWf, ⟨arena_zonesWf.ids, arena_zonesWf.small, arena_zonesWf.arb, arena_zonesWf.awaiting⟩, arena_linksWf⟩

/-- Zone 1 with a takeover of the content at level 2, zone 2 with the same. -/
def covering (content : Content) : State :=
  let z (id : Nat) : Zone :=
    { zone id .main .slate true easy with arb := ⟨[], [⟨2, content, none, 1, 4, none, 3⟩], [], [], 2⟩ }
  { arena with
    canvas := { arena.canvas with zones := [z 1, z 2] }
    replay := { arena.replay with chanA :=
      { Chan.reset with state := .cued, cues := [⟨1, 0, 1000, 0, 0, 2, none⟩], pos := 12 } } }

/-- R92, R97, R99, R157, R197: a takeover rendered; the missing asset reported once, with the lower zone. -/
theorem witness_FrameEventComposesAndCounts_takeovers :
    let shown (c : Content) : List Picture := (after .outputFrameEvent (covering c)).canvas.frameOut.map (·.picture)
    let t := after .outputFrameEvent (covering (.asset 6));
    ((covering (.asset 6)).due = [] ∧ (covering (.asset 6)).canvas.awaitingConfig = none) ∧
    shown (.asset 5) = [.asset 5 0, .asset 5 0] ∧ shown (.channel .a) = [.clipFrame 0 12, .clipFrame 0 12] ∧
    shown (.card 1) = [.card [0x41#8], .card [0x41#8]] ∧ shown (.asset 6) = [.slate, .slate] ∧
    t.canvas.visibility.map (fun e => (e.rendered, e.reason, e.missing)) =
      [(false, .missingAsset, some 6), (false, .missingAsset, some 6)] ∧
    (latest .assetState t = .assetState 6 .missing (some 1) 4 ∧ counted .assetState t = 1 ∧
      counted .assetState (after .outputFrameEvent t) = 1) := by decide +kernel

theorem witness_FrameEventComposesAndCounts_takeovers_wf : (covering (.asset 6)).zonesWf ∧ (covering (.asset 6)).linksWf :=
  ⟨⟨by decide, by decide, by
      intro z hz
      refine ⟨?_, ?_, ?_, ?_, ?_, ?_, ?_⟩ <;> revert hz <;> revert z <;> decide, by decide⟩, arena_linksWf⟩

/-- Zone 1 with the countdown outstanding, zone 2 a score event, zone 3 the channel on air; a layout takes their attributes
away and gives zone 4 the countdown. -/
def owned (attrs : Bool) (id level : Nat) (content : Content) : Zone :=
  { zone id .main .slate attrs easy with
    arb := ⟨[], if level = 0 then [] else [⟨level, content, none, 1, 4, none, 3⟩], [], [], 2⟩ }
def losing : State :=
  { arena with
    timing := { arena.timing with
      phase := .countdown, outstanding := [1], rules := { defaultRules with countdownAsset := some 5 } }
    record := { arena.record with outstanding := [2] }
    replay := { arena.replay with chanA :=
      { Chan.reset with state := .playing, cues := [⟨7, 0, 1000, 0, 0, 3, none⟩], pos := 12 } }
    canvas := { arena.canvas with
      zones := [owned true 1 1 (.asset 5), owned true 2 2 (.asset 5), owned true 3 3 (.channel .a),
        owned false 4 0 (.asset 5)]
      awaitingLayout := some ([1, 2, 3].map (fun n => (zone n .main .slate false easy).spec) ++
        [(zone 4 .main .slate true easy).spec]) } }

/-- The same, laid out as it awaits, before the owners act. -/
def laidOut : State :=
  { losing with canvas := { losing.canvas with
    zones := [owned false 1 1 (.asset 5), owned false 2 2 (.asset 5), owned false 3 3 (.channel .a),
      owned true 4 0 (.asset 5)]
    awaitingLayout := none } }

/-- R46, R64, R160: what the owners do, in the frame event and alone. -/
theorem witness_CanvasAndLayoutAwaitTheFrame_owners :
    let specs := losing.canvas.awaitingLayout.getD []
    let seen (t : State) : List (Option Bool) :=
      [(1, 1), (2, 2), (3, 3), (4, 1)].map fun x => some (t.standsAt x.1 x.2).isSome
    let held (t : State) := (t.timing.phase, t.timing.outstanding, t.record.outstanding, (t.chan .a).state)
    let t := after .outputFrameEvent losing
    let u := laidOut.layoutOwners losing.canvas.zones specs;
    losing.due = [] ∧ laidOut.canvas.zones.map (·.spec) = specs ∧
    (∀ zone ∈ laidOut.timing.outstanding, (laidOut.standsAt zone 1).isSome = true) ∧
    (∀ zone ∈ laidOut.record.outstanding, (laidOut.standsAt zone 2).isSome = true) ∧
    [t, u].map seen = List.replicate 2 [some false, some false, some false, some true] ∧
    [t, u].map held = List.replicate 2 (.countdown, [4], [], .idle) ∧
    [t, u].map (latest .channelState) = List.replicate 2 (.channelState .a 7 0 .zoneGone 12 0 0 .idle) := by decide +kernel

theorem witness_CanvasAndLayoutAwaitTheFrame_owners_wf : losing.zonesWf ∧ laidOut.zonesWf ∧ laidOut.linksWf := by
  refine ⟨⟨by decide, by decide, ?_, by decide⟩, ⟨by decide, by decide, ?_, by decide⟩, arena_linksWf⟩ <;>
    (intro z hz; refine ⟨?_, ?_, ?_, ?_, ?_, ?_, ?_⟩ <;> revert hz <;> revert z <;> decide)

/-- R166, R170: program 0 loses its carrying zone, after fewer and after just half of its frames visible; program 1 gains
one. -/
def recarried (visible : Nat) : State :=
  { arena with
    canvas := { arena.canvas with
      zones := [zone 3 .sponsor (.rotation 0) false easy]
      awaitingLayout := some [(zone 3 .sponsor (.rotation 1) false easy).spec] }
    rotation := { arena.rotation with programs := [{ Program.reset with
      entries := [entry0], onAir := some ⟨some entry0, 300, 9, visible, 0⟩ }, .reset, .reset, .reset] } }

theorem witness_CanvasAndLayoutAwaitTheFrame_carried :
    let shorts (t : State) : Nat := (t.exposed 3).shortAppearances;
    (recarried 4).due = [] ∧
    [recarried 4, recarried 5].map (fun s => let t := after .outputFrameEvent s;
      ((t.program 0).onAir.isSome, (t.program 1).slates, shorts t)) = [(false, 1, 1), (false, 1, 0)] ∧
    shorts ((recarried 4).activityChanged [0, 1]) = 0 ∧ ((recarried 4).activityChanged []).program 1 = Program.reset := by
  decide +kernel

/-- An INPUT_CONFIG of input 0 alone. -/
def inputs (enable : Bool) (rate : Rate) (s : State) : State :=
  after (.inputConfig hP ⟨enable, rate⟩ ⟨false, ⟨60, 1⟩⟩ ⟨false, ⟨60, 1⟩⟩ ⟨false, ⟨60, 1⟩⟩) (ready .production 0x3D s)

/-- R93, R94, R134 to R136: the four causes of INPUT_SIGNAL; a rate restarts the ring, a disable does not; a write moves
the save on to clip 3 and warns of it. -/
theorem witness_CameraSignalsAreDecidedAndHeld_raised :
    let s := fullRing true ⟨60, 1⟩
    let off := inputs false ⟨60, 1⟩ s
    let other := inputs true ⟨50, 1⟩ s
    let same := inputs true ⟨60, 1⟩ s
    let found := after (.cameraFrame 0 true) (fullRing false ⟨60, 1⟩)
    let broken := after (.cameraFrame 0 false) s
    let written := after (.cameraFrame 0 true) s;
    (ready .production 0x3D s).admits hP 0x3D = true ∧
    [latest .inputSignal off, latest .inputSignal other, latest .inputSignal found, latest .inputSignal broken] =
      [.inputSignal 0 false .disabled 250, .inputSignal 0 false .rate 250, .inputSignal 0 true .detected 250,
        .inputSignal 0 false .lost 250] ∧
    [off, other, same].map (fun t => (counted .inputSignal t, counted .clipState t, (t.ring 0).floor)) =
      [(1, 0, 0), (1, 4, 250), (0, 0, 0)] ∧
    latest .clipState other = .clipState 4 0 .lost .captureRestart none ∧
    written.reader .save = some ⟨0, 51, 3, 0, false⟩ ∧
    latest .nearOvertake written = .nearOvertake 0 .save 3 0 120 := by decide +kernel

/-- R152: a channel REQUESTED on a masked level, which the evaluation after the mask grants. -/
def unmasked : State :=
  { cued .requested with canvas := { arena.canvas with zones := arena.canvas.zones.set 1 { zone 1 .main .slate true easy with
      arb := ⟨[⟨3, .channel .a, none, none, 1⟩], [], [], [], 2⟩ } } }

theorem witness_EvaluationGrantsTheHighest_channel : (unmasked.zone? 1).isSome = true ∧
    (unmasked.chan .a).state = .requested ∧ (unmasked.chan .a).cues.head?.map (·.fields.zone) = some 1 ∧
    ((unmasked.evaluate 1).chan .a).state = .covered ∧ ((unmasked.evaluate 0).chan .a).state = .requested := by
  decide +kernel

/-- R107, R114, R158: a channel on air loses its level by each outcome; R46, R176, R199: what the other owners lose. -/
theorem witness_EndsAreReportedToTheirOwners_told :
    let ended (o : Outcome) : State := (cued .playing).endOne o 1 3
    let cue (t : State) := ((t.chan .a).cues.map (·.number), (t.chan .a).state)
    let down := (lastMinute true .countdown [1]).endOne .cleared 1 1;
    (cued .playing).standsAt 1 3 = some (.inService, 0) ∧
    [Outcome.cleared, .cut, .zoneRemoved, .restart, .released].map (fun o => cue (ended o)) =
      [([2], .cued), ([2], .cued), ([2], .cued), ([2], .cued), ([1, 2], .playing)] ∧
    [Outcome.cleared, .cut, .zoneRemoved, .restart].map (fun o => latest .channelState (ended o)) =
      [.channelState .a 1 0 .cleared 10 0 0 .cued, .channelState .a 1 0 .cut 10 0 0 .cued,
        .channelState .a 1 0 .zoneRemoved 10 0 0 .cued, .channelState .a 1 0 .restart 10 0 0 .cued] ∧
    counted .channelState (ended .released) = 0 ∧ (lastMinute true .countdown [1]).standsAt 1 1 = some (.inService, 4) ∧
    (down.timing.phase, down.timing.outstanding) = (.spent, []) := by decide +kernel

/-- R113, R114: two ends in one event, the second of a level that does not stand. -/
theorem witness_EndsAreReportedToTheirOwners_all : (cued .playing).linksWf ∧ [(1, 3), (1, 7)].Nodup ∧
    latest .takeoverEnded ((cued .playing).endAll .cleared [(1, 3), (1, 7)]) = .takeoverEnded 1 3 .cleared .inService 0 ∧
    counted .takeoverEnded ((cued .playing).endAll .cleared [(1, 3), (1, 7)]) = 1 :=
  ⟨arena_linksWf, by decide, by decide +kernel, by decide +kernel⟩

/-- The arena with an empty clip store, which may be partitioned. -/
def bare : State :=
  { arena with replay := { arena.replay with clips := [⟨1, 0, 100, 109, ⟨60, 1⟩, .ring, none, none⟩] } }

/-- Channel A with its head in the ring, 100 frames above the oldest. -/
def reading1 (armed : Bool) : State :=
  { arena with
    capture := { arena.capture with readA := some ⟨0, 100, 1, 1, armed⟩ }
    replay := { arena.replay with chanA := { Chan.reset with state := .cued, cues := [⟨1, 1, 1000, 0, 0, 1, none⟩], pos := 100 } } }

/-- R127, R134 to R137, R140: a partition and a restart tell of the clips they lose; a threshold at the margin and one
above it, with the reader armed and not. -/
theorem witness_RingsArePartitionedAndRestarted_raised :
    let margin (n : Nat) (armed : Bool) : State :=
      after (.marginSet hP 0 (.programmed n)) (ready .production 0x4A (reading1 armed))
    let parted := after (.ringPartition hP 1200 0 0 0) (ready .production 0x48 bare)
    let restart := after (.captureRestart hP 0) (ready .production 0x49 (reading1 true));
    (ready .production 0x48 bare).admits hP 0x48 = true ∧ (ready .production 0x49 (reading1 true)).admits hP 0x49 = true ∧
    latest .clipState parted = .clipState 1 0 .lost .partition none ∧
    latest .clipState restart = .clipState 1 0 .lost .captureRestart none ∧
    restart.reader .channelA = some ⟨0, 100, 1, 1, false⟩ ∧ counted .nearOvertake restart = 0 ∧
    [margin 100 true, margin 101 true, margin 101 false, margin 100 false].map (fun t =>
        ((t.reader .channelA).map (·.armed), counted .nearOvertake t)) =
      [(some true, 0), (some false, 1), (some false, 0), (some true, 0)] ∧
    latest .nearOvertake (margin 101 true) = .nearOvertake 0 .channelA 1 100 101 := by decide +kernel

/-- Clip 1 being saved, its next frame to copy given. -/
def copying (copied : Nat) : State :=
  { arena with replay := { arena.replay with
    clips := [⟨1, 0, 100, 109, ⟨60, 1⟩, .saving 20 copied, none, none⟩], saveQueue := [1] } }

/-- R135, R136, R140, R145: a save attaches below its threshold, a copy moves on, the last completes and detaches, a
deletion detaches. -/
theorem witness_ClipsAreMadeSavedAndDeleted_read :
    let saved := after (.clipSave hP 1) (ready .production 0x51 arena)
    let deleted := after (.clipDelete hP 1) (ready .production 0x52 saved)
    let last := after .saveCopyFrame (copying 109);
    saved.reader .save = some ⟨0, 100, 1, 0, false⟩ ∧ latest .nearOvertake saved = .nearOvertake 0 .save 1 100 120 ∧
    (after .saveCopyFrame (copying 100)).reader .save = some ⟨0, 101, 1, 0, false⟩ ∧
    deleted.reader .save = none ∧ (last.reader .save = none ∧
      latest .clipState last = .clipState 1 0 .saved .complete none) := by decide +kernel

/-- R135, R136, R148: an entry added to an idle channel attaches its reader; a second one does not; one in the store reads no
ring. -/
theorem witness_CuesAreKeptInOrder_read :
    let add (clip : Nat) (s : State) : State :=
      after (.cueAdd hP .a ⟨clip, 1000, 0, 0, 1, none⟩) (ready .production 0x54 s)
    let one := add 1 arena;
    one.reader .channelA = some ⟨0, 100, 1, 1, false⟩ ∧ latest .nearOvertake one = .nearOvertake 0 .channelA 1 100 120 ∧
    ((add 1 one).reader .channelA = one.reader .channelA ∧ counted .nearOvertake (add 1 one) = 1) ∧
    (add 0 arena).reader .channelA = none ∧
    (after (.cueRemove hP .a 1) (ready .production 0x55 one)).reader .channelA = none := by decide +kernel

/-- R12, R135, R158: no, one and two heads that cannot be shown, the readers of which follow; a stop loads the next entry. -/
theorem witness_ChannelsRollAndStop_read :
    let heads (n : Nat) : State := { dropping 0 with replay := { (dropping 0).replay with chanA :=
      { (dropping 0).replay.chanA with cues := ((dropping 2).chan .a).cues.drop (2 - n) ++ [⟨3, 1, 1000, 0, 4, 1, none⟩] } } }
    let roll (n : Nat) : State := after (.channelRoll hP .a) (ready .production 0x56 (heads n))
    let stopped := after (.channelStop hP .a) (ready .production 0x57 { cued .playing with replay :=
      { (cued .playing).replay with chanA := { (cued .playing).replay.chanA with
        cues := [⟨1, 0, 1000, 0, 0, 1, none⟩, ⟨2, 1, 500, 0, 0, 1, none⟩] } } });
    [0, 1, 2].map (fun n => ((roll n).reader .channelA, counted .nearOvertake (roll n), counted .channelState (roll n))) =
      [(none, 0, 0), (some ⟨0, 104, 1, 3, false⟩, 1, 1), (some ⟨0, 104, 1, 3, false⟩, 1, 2)] ∧
    ([0, 1, 2].all fun n => ((heads n).chan .a).cues ≠ [] && decide ((((heads n).chan .a).cues.map (·.number)).Nodup)) = true ∧
    ((cued .playing).chan .a).state = .playing ∧ stopped.reader .channelA = some ⟨0, 100, 1, 2, false⟩ ∧
    latest .channelState stopped = .channelState .a 1 0 .stopped 10 0 0 .cued := by decide +kernel

/-- Channel A shown with its head in the ring of input 0, 119 or 120 frames above the oldest. -/
def near (pos : Int) (armed : Bool) : State :=
  { cadence with
    capture := { arena.capture with
      rings := [⟨1200, 6080, 0, some ⟨60, 1⟩, .preset120⟩, .reset, .reset, .reset], readA := some ⟨0, pos, 0, 1, armed⟩ }
    replay := { cadence.replay with
      clips := [⟨0, 0, 4995, 5009, ⟨60, 1⟩, .ring, none, none⟩]
      chanA := { cadence.replay.chanA with cues := [⟨1, 0, -1000, 2, 7, 1, none⟩], pos := pos, acc := 0 } } }

/-- R135, R136, R154: a reverse step to the threshold and one below it, armed and not; a pass back to the last frame arms
again. -/
theorem witness_ShownChannelsAdvance_read :
    [near 5001 true, near 5000 true, near 5000 false, near 4995 false].map (fun s =>
        let t := s.stepChannel .a; (t.reader .channelA, counted .nearOvertake t)) =
      [(some ⟨0, 5000, 0, 1, true⟩, 0), (some ⟨0, 4999, 0, 1, false⟩, 1), (some ⟨0, 4999, 0, 1, false⟩, 0),
        (some ⟨0, 5009, 0, 1, true⟩, 0)] ∧
    latest .nearOvertake ((near 5000 true).stepChannel .a) = .nearOvertake 0 .channelA 0 119 120 := by decide +kernel

/-- R176: a head that still shows stays; one without an outstanding zone leaves, and the next is requested. -/
theorem witness_FeaturesFollowTheirList_followed :
    let list (outstanding : List Nat) : State := { arena with rotation := { arena.rotation with
      features := [⟨41, 3, 5, 1000, [1], false, outstanding⟩, ⟨42, 3, 5, 1000, [1], false, []⟩] } }
    let seen (s : State) := s.featureFollow.rotation.features.map fun f => (f.number, f.outstanding);
    arena.rotation.features = [] ∧ arena.featureFollow = arena ∧ seen (list [1]) = [(41, [1]), (42, [])] ∧
    seen (list []) = [(42, [1])] ∧ ((list []).featureFollow.standsAt 1 5).isSome = true := by decide +kernel

/-- R70: a master that waits to send goes to OFF, and one that changes its token does not stop. -/
def sending : State :=
  (asMaster (ready .production 0x30 arena)).mapTwin fun t => { t with
    token := 7, out := [.heartbeat 3 false, .hello ⟨.manualMaster, 7, .none, .setup, .master⟩], outSent := 0 }

theorem witness_TwinIsConfigured_stops : sending.admits hP 0x30 = true ∧
    (after (.twinConfig hP .off 7 0) sending).twin.out = [] ∧ (after (.twinConfig hP .off 7 0) sending).twin.state = .solo ∧
    (after (.twinConfig hP .manualMaster 7 1) sending).twin.out.length = 2 ∧
    (after (.twinConfig hP .manualMaster 8 0) sending).twin.out.length = 3 := by decide +kernel

/-- The program of zone 3 with a dwell left, shown (HOLD), and covered by level 7 (HOLD, RUN, and a slate). -/
def aired (covered : Bool) (cover : Cover) (entry : Option RotEntry) : State :=
  { arena with
    canvas := { arena.canvas with zones := [{ zone 3 .sponsor (.rotation 0) false easy with
      arb := ⟨[], if covered then [⟨7, .asset 5, none, 1, 0, none, 0⟩] else [], [], [], 2⟩ }] }
    rotation := { arena.rotation with programs :=
      [{ Program.reset with cover := cover, entries := [entry0], onAir := some ⟨entry, 9, 4, 2, 4⟩ }, .reset, .reset, .reset] } }

/-- R169, R170, R180, R184: each of the four counts the frame; the first, of weight 10, passes 1,000 units and with them the
quota of sponsor 3. -/
theorem witness_FrameEventComposesAndCounts_programs :
    let t (s : State) : State := after .outputFrameEvent s;
    (aired false .hold (some entry0)).due = [] ∧ (aired false .hold (some entry0)).canvas.awaitingLayout = none ∧
    [aired false .hold (some entry0), aired true .hold (some entry0), aired true .run (some entry0),
        aired true .hold none].map (fun s => ((t s).program 0).onAir) =
      [some ⟨some entry0, 8, 5, 3, 5⟩, some ⟨some entry0, 9, 5, 2, 4⟩, some ⟨some entry0, 8, 5, 2, 4⟩,
        some ⟨none, 8, 5, 2, 4⟩] ∧
    [aired false .hold (some entry0), aired true .hold (some entry0)].map (fun s =>
        (((t s).exposed 3).delivered, ((t s).exposed 3).visibleFrames)) = [(1999, 1), (999, 0)] ∧
    latest .quotaMilestone (t (aired false .hold (some entry0))) = .quotaMilestone 3 .m100 .credit 1000 1999 := by
  decide +kernel

theorem witness_FrameEventComposesAndCounts_programs_wf : (aired true .run none).zonesWf where
  ids := by decide
  small := by decide
  arb := by
    intro z hz
    refine ⟨?_, ?_, ?_, ?_, ?_, ?_, ?_⟩ <;> revert hz <;> revert z <;> decide
  awaiting := by decide

/-- The ribbon with an empty strip and a message waiting; a layout gives it 1,000 pixels, under its id or another. -/
def ribbon (id : Nat) : State :=
  { arena with
    canvas := { arena.canvas with
      zones := [zone 2 .ribbon .crawl false easy]
      awaitingLayout := some [{ (zone 2 .ribbon .crawl false easy).spec with id := id, width := 1000 }] } }

/-- R196: an entry in the event that changes the width uses the old W, one in the next event and in a zone that has just
appeared the new one. -/
theorem witness_CanvasAndLayoutAwaitTheFrame_width :
    let strip (s : State) : List Int := s.crawl.strip.map (·.x)
    let clear (s : State) : State := { s with crawl := { s.crawl with strip := [], order := [2] } };
    (ribbon 2).due = [] ∧ (ribbon 2).crawl.order = [2] ∧ strip (after .outputFrameEvent (ribbon 2)) = [1920] ∧
    strip (after .outputFrameEvent (clear (after .outputFrameEvent (ribbon 2)))) = [1000] ∧
    strip (after .outputFrameEvent (ribbon 4)) = [1000] := by decide +kernel

/-- The card of message 1 in service in zone 1 and pending in zone 2; a message whose card does not stand. -/
def carded : State :=
  let z (id : Nat) (arb : ZoneArb) : Zone := { zone id .main .slate true easy with arb := arb }
  { ready .production 0x74 arena with
    canvas := { arena.canvas with zones :=
      [z 1 ⟨[], [⟨6, .card 1, some 50, 1, 4, none, 0⟩], [], [], 2⟩, z 2 ⟨[⟨6, .card 1, some 50, none, 1⟩], [], [6], [], 2⟩] }
    crawl := { arena.crawl with
      messages := [⟨1, [0x41#8], 1, .featured, .queued, false, 0⟩, ⟨2, [0x41#8], 2, .ordinary, .queued, false, 0⟩]
      order := [2, 1], featureOrder := [1], card := some ⟨1, [1, 2]⟩ } }

/-- R193, R199: a withdrawal of the card's message ends both levels RELEASED and reports the message once; of another it ends
none. -/
theorem witness_TheCrawlTakesItsRecords_card :
    let t := after (.msgWithdraw hP 1) carded
    let u := after (.msgWithdraw hP 2) carded;
    carded.admits hP 0x74 = true ∧ carded.crawl.featureOrder = [1] ∧
    (∀ k ∈ carded.crawl.card, k.zones ≠ [] ∧ carded.crawl.featureOrder.head? = some k.message) ∧
    t.table.entry .takeoverEnded =
      ⟨true, 2, .takeoverEnded 1 6 .released .inService 4, .takeoverEnded 2 6 .released .pending 0⟩ ∧
    t.table.entry .messageDone = ⟨true, 1, .messageDone 1 .withdrawn .featured 0 false,
      .messageDone 1 .withdrawn .featured 0 false⟩ ∧
    ((t.standsAt 1 6).isNone && (t.standsAt 2 6).isNone && t.crawl.card.isNone) = true ∧ t.crawl.order = [2] ∧
    counted .takeoverEnded u = 0 ∧ latest .messageDone u = .messageDone 2 .withdrawn .ordinary 0 false := by decide +kernel

/-- The invariant of the crawl with a card standing, over a step. -/
theorem witness_EveryStepKeepsTheCrawl_card :
    let c := carded.crawl;
    (c.messages.length ≤ 64 ∧ (c.messages.map (·.id)).Nodup ∧ c.strip = [] ∧ c.order.Nodup ∧ c.featureOrder.Nodup ∧
      (∀ id ∈ c.order, ∃ m ∈ c.messages, m.id = id ∧ m.state = .queued) ∧
      (∀ id ∈ c.featureOrder, ∃ m ∈ c.messages, m.id = id ∧ m.state ≠ .held ∧ m.cls = .featured) ∧
      ∀ m ∈ c.messages, m.state ≠ .onAir) ∧
    (∀ k ∈ c.card, k.zones ≠ [] ∧ c.featureOrder.head? = some k.message ∧ ∀ z ∈ k.zones, (carded.standsAt z 6).isSome = true) ∧
    (∀ m ∈ c.messages, m.state = .held ∨ m.id ∈ c.featureOrder → m.featuredDone = false) ∧
    ∃ t, step { carded with pending := [.msgWithdraw hP 1] } = .next t :=
  ⟨by decide, by decide, by decide, _, rfl⟩

theorem witness_TheCrawlTakesItsRecords_card_wf : carded.linksWf ∧ carded.zonesWf := by
  refine ⟨ready_linksWf _ _ _ arena_linksWf, ⟨by decide, by decide, ?_, by decide⟩⟩
  intro z hz
  refine ⟨?_, ?_, ?_, ?_, ?_, ?_, ?_⟩ <;> revert hz <;> revert z <;> decide

/-- A channel whose reader is disarmed, its next entry of the head's number and clip (R148: numbers wrap). -/
def twice (state : ChanState) (zones : List Nat) : State :=
  let s := reading1 false
  { s with
    canvas := (cued state).canvas
    replay := { s.replay with chanA :=
      { s.replay.chanA with state := state, cues := zones.map fun zone => ⟨1, 1, 1000, 0, 0, zone, none⟩ } } }

/-- R136, R150, R158: the head's reader detaches, so the next entry's attaches armed and warns afresh. -/
theorem witness_CuesAreKeptInOrder_same :
    let removed := after (.cueRemove hP .a 1) (ready .production 0x55 (twice .cued [1, 1]))
    let stopped := after (.channelStop hP .a) (ready .production 0x57 (twice .playing [1, 1]))
    let cut := (twice .playing [1, 1]).endOne .cut 1 3;
    (ready .production 0x55 (twice .cued [1, 1])).admits hP 0x55 = true ∧
    (ready .production 0x57 (twice .playing [1, 1])).admits hP 0x57 = true ∧
    [twice .cued [1, 1], removed, stopped, cut].map (fun t => (t.reader .channelA, counted .nearOvertake t)) =
      [(some ⟨0, 100, 1, 1, false⟩, 0), (some ⟨0, 100, 1, 1, false⟩, 1), (some ⟨0, 100, 1, 1, false⟩, 1),
        (some ⟨0, 100, 1, 1, false⟩, 1)] := by decide +kernel

/-- R151: a roll that drops two heads for their zone reports both, in order, before the next is loaded, and each head loaded
behind one warns. -/
theorem witness_ChannelsRollAndStop_twice :
    let s := ready .production 0x56 (twice .cued [3, 3, 1])
    let t := after (.channelRoll hP .a) s
    let heard := after (.channelRoll hP .a)
      { s with table := { s.table with subs := [Cond.nearOvertake.code, Cond.channelState.code] } };
    heard.table.notices.map (·.cond) = [.channelState, .nearOvertake] ∧
    s.admits hP 0x56 = true ∧ (s.dropWarnings .a 2).length = 2 ∧ counted .nearOvertake t = 2 ∧
    t.table.entry .channelState = ⟨true, 2, .channelState .a 1 1 .zoneGone 100 0 0 .cued,
      .channelState .a 1 1 .zoneGone 100 0 0 .cued⟩ := by decide +kernel

/-- A follower in COUNTDOWN, level 1 standing in zone 1, with a score, fouls, two fields and counters. -/
def mirroring : State :=
  { lastMinute true .countdown [1] with
    twin := following.twin
    record := { arena.record with game := { arena.record.game with
      session := .inGame, home := ⟨[0x41#8], 7, 2, 5⟩
      fields := [⟨⟨[0x42#8], 9, true⟩, 4⟩, ⟨⟨[0x43#8], 9, false⟩, 5⟩] } }
    exposure := { arena.exposure with
      ids := arena.exposure.ids.set 3 ⟨2000, 5, 1, 0, 0, 0, some 1, true, true, true, true⟩ } }

/-- R36, R54, R55, R80, R187: what a mirrored GAME_OPEN and a mirrored NEXT_PERIOD clear, and what they keep. -/
theorem witness_EventsAreAppliedInOrder_cleared :
    let opened := after (.twinEventReceived ⟨31, .gameOpen, 1⟩) mirroring
    let next := after (.twinEventReceived ⟨31, .nextPeriod, 9⟩) mirroring;
    mirroring.due = [] ∧ mirroring.twin.state = .follower ∧ mirroring.twin.resync = false ∧
    (opened.record.game.home, opened.record.game.fields.map (·.value)) = (⟨[0x41#8], 0, 0, 0⟩, [0, 0]) ∧
    (next.record.game.home, next.record.game.fields.map (·.value)) = (⟨[0x41#8], 7, 2, 0⟩, [0, 5]) ∧
    [opened, next].map levelOne = [(.idle, [], some none), (.idle, [], some none)] ∧
    [opened, next].map (fun t => (t.exposed 3).delivered) = [0, 2000] ∧
    [opened, next].map (·.timing.v) = [720000, 720000] := by decide +kernel

/-- The break feature 41 in service in zone 1. -/
def onBreak : State :=
  { featured 41 with canvas := { arena.canvas with zones := [{ zone 1 .main .slate true easy with
    arb := ⟨[], [⟨5, .asset 5, some 9, 1, 4, some 3, 0⟩], [], [], 2⟩ }] } }

/-- R177: a cancel of the break feature at the head ends it RELEASED, and the next feature stands in its place. -/
theorem witness_FeaturesFollowTheirList_cancel :
    let t := onBreak.featureBreakCancel;
    onBreak.rotation.breakRecorded = some 41 ∧ onBreak.standsAt 1 5 = some (.inService, 4) ∧
    t.rotation.features.map (fun f => (f.number, f.outstanding)) = [(42, [1])] ∧ t.rotation.breakRecorded = none ∧
    t.table.entry .takeoverEnded = ⟨true, 1, .takeoverEnded 1 5 .released .inService 4, .takeoverEnded 1 5 .released .inService 4⟩ := by
  decide +kernel

/-- A stop window in COUNTDOWN, level 1 standing, that has counted `n` ms off. -/
def restoring (n : Nat) : State :=
  { (lastMinute true .countdown [1]).mapTiming fun t => { t with
      v := 9999, gate := .stopPending, settled := .run, window := 5, counted := n } with due := [.stopConfirm] }

/-- R27, R46: a restoration to the threshold keeps the countdown, one above it releases it. -/
theorem witness_RunLineWindowsAreConfirmed_released :
    let stop (n : Nat) : State := after .stopWindowConfirm (restoring n);
    (restoring 1).timing.rules.debounce ≤ (restoring 1).timing.window ∧
    [stop 1, stop 2].map levelOne = [(.countdown, [1], levelKept), (.idle, [], some none)] ∧
    [stop 1, stop 2].map (counted .takeoverEnded) = [0, 1] ∧
    latest .takeoverEnded (stop 2) = .takeoverEnded 1 1 .released .inService 4 := by decide +kernel

/-- R33: one adjustment that crosses P and reaches the ceiling raises REGULATION, with the horn, and then CEILING. -/
theorem witness_TableRunsAndSetsTheClock_ceiling :
    let s : State := ready .table 0x12 (arena.mapTiming fun t => { t with
      v := 5939999, run := .running, rules := { t.rules with direction := .up, runOn := true, periodLength := 5940000 } })
    let t := after (.clockAdjust hT 600000) s;
    s.admits hT 0x12 = true ∧ t.timing.gameHorn = some 1500 ∧ t.timing.regulation = true ∧ t.timing.run = .stopped ∧
    t.table.entry .clockExpired =
      ⟨true, 2, .clockExpired .regulation 1 .up 5999999, .clockExpired .ceiling 1 .up 5999999⟩ := by decide +kernel

/-- A request at level 7, held while the clock runs, waits in zone 1, free at level 1; the clock stands as given. -/
def waiting7 (f : Timing → Timing) : State :=
  ((lastMinute false .idle []).mapArb 1 fun a => { a with pending := [⟨7, .asset 5, none, none, 2⟩] }).mapTiming f

/-- The levels in service in zone 1. -/
def servedLevels (t : State) : Option (List Nat) := (t.zone? 1).map fun z => z.arb.service.map (·.level)

/-- R31, R112: the stop grants what waited, and the countdown that the same event asks for comes after it and covers it: at a
step of 2 ms that passes threshold and limit, at an adjustment to the limit, and at a start backdated to it. -/
theorem witness_GameClockExpires_asked :
    let stepped := after .timeBaseStep (waiting7 fun t => { t with
      v := 2, trim := 500, trimAcc := 999500, rules := { t.rules with countdownAt := 1 } })
    let ended := [after .gameClockExpiry stepped,
      after (.clockAdjust hT (-5000)) (ready .table 0x12 (waiting7 id)),
      after .startWindowConfirm { waiting7 fun t => { t with v := 5, run := .stopped, gate := .startPending, window := 5 } with
        due := [.startConfirm] }];
    (stepped.due = [.gameExpiry] ∧ levelOne stepped = (.idle, [], some none) ∧ servedLevels stepped = some []) ∧
    ended.map servedLevels = [some [1, 7], some [1, 7], some [1, 7]] ∧
    ended.map levelOne = List.replicate 3 (.periodEnd, [1], levelTaken 6 (some 180) 0) := by decide +kernel

/-- R31, R46: a step that passes the threshold and confirms a stop asks after the stop, and the restored V releases at once. -/
theorem witness_RunLineWindowsAreConfirmed_asked :
    let stepped := after .timeBaseStep (waiting7 fun t => { t with
      v := 10001, gate := .stopPending, settled := .run, window := 4 })
    let t := after .stopWindowConfirm stepped;
    (stepped.due = [.stopConfirm] ∧ stepped.timing.v = 10000 ∧ levelOne stepped = (.idle, [], some none)) ∧
    t.timing.v = 10001 ∧ levelOne t = (.idle, [], some none) ∧ servedLevels t = some [7] ∧
    latest .takeoverEnded t = .takeoverEnded 1 1 .released .inService 0 := by decide +kernel

end Sys2Proof.Tests
end

section
namespace Sys2Proof.Machine

set_option Elab.async false

/-! ## Condition entries and occurrences -/

theorem code_lt (c : Cond) : c.code < 20 := by cases c <;> decide

theorem code_injective {c d : Cond} (h : c.code = d.code) : c = d := by
  revert h
  cases c <;> cases d <;> decide

theorem clear_wf : CondEntry.clear.wf := rfl

/-- The table of R12 keeps an entry well formed. -/
theorem occur_wf {e : CondEntry} (h : e.wf) (d : Detail) : (e.occur d).wf := by
  unfold CondEntry.occur
  split
  · next hp =>
    simp only [CondEntry.wf, hp, if_true] at h ⊢
    omega
  · simp [CondEntry.wf]

theorem occur_pending (e : CondEntry) (d : Detail) : (e.occur d).pending = true := by
  unfold CondEntry.occur
  split <;> simp_all

section
variable (l : LinkState) (c : Cond) (d : Detail)

/-- An occurrence is recorded in its own entry (R12). -/
theorem entry_occur_same (h : l.table.length = 20) : (l.occur c d).entry c = (l.entry c).occur d := by
  have hc := code_lt c
  simp [LinkState.occur, LinkState.entry, h, hc]

/-- An occurrence leaves the entries of every other kind (R12). -/
theorem entry_occur_other {k : Cond} (hk : k ≠ c) : (l.occur c d).entry k = l.entry k := by
  have hne : c.code ≠ k.code := fun h => hk (code_injective h).symm
  simp [LinkState.occur, LinkState.entry, hne]

theorem entry_mem_or_clear : l.entry c ∈ l.table ∨ l.entry c = .clear := by
  unfold LinkState.entry
  rcases Nat.lt_or_ge c.code l.table.length with h | h
  · exact .inl (by simp [List.getD_eq_getElem?_getD, h])
  · exact .inr (by simp [List.getD_eq_getElem?_getD, h])

end

theorem LinkState.wf.entry {l : LinkState} (h : l.wf) (c : Cond) : (l.entry c).wf := by
  rcases entry_mem_or_clear l c with hm | hc
  · exact h.entries _ hm
  · exact hc ▸ clear_wf

/-! ## A control link stays well formed -/

theorem LinkState.wf.occur {l : LinkState} (h : l.wf) (c : Cond) (d : Detail) : (l.occur c d).wf where
  table := (occur_length l c d).trans h.table
  entries e he := by
    rcases List.mem_or_eq_of_mem_set he with hm | rfl
    · exact h.entries e hm
    · exact occur_wf (h.entry c) d
  inbound := h.inbound
  replies := h.replies
  errors := h.errors
  subs := h.subs
  kinds := by
    unfold LinkState.occur
    dsimp only
    split
    · next hq =>
      have hq : (l.entry c).pending = false := by simp_all
      have hn : ∀ n ∈ l.notices, n.cond ≠ c := fun n hn hc => by simp [hc ▸ h.noticed n hn] at hq
      rw [List.map_append, List.nodup_append]
      refine ⟨h.kinds, List.nodup_singleton _, ?_⟩
      simpa using hn
    · exact h.kinds
  noticed n hn := by
    by_cases hc : n.cond = c
    · rw [hc, entry_occur_same l c d h.table]
      exact occur_pending _ _
    · rw [entry_occur_other l c d hc]
      refine h.noticed n ?_
      unfold LinkState.occur at hn
      dsimp only at hn
      split at hn
      · rcases List.mem_append.mp hn with hm | hm
        · exact hm
        · exact absurd (by simp_all) hc
      · exact hn
  waiting := h.waiting

theorem LinkState.wf.occurs {l : LinkState} (h : l.wf) (es : List (Cond × Detail)) : (l.occurs es).wf := by
  induction es generalizing l with
  | nil => exact h
  | cons e es ih => exact ih (h.occur e.1 e.2)

theorem LinkState.wf.badFrame {l : LinkState} (h : l.wf) : l.badFrame.wf :=
  { h with errors := Nat.min_le_left _ _ }

theorem LinkState.wf.immediate {l : LinkState} (h : l.wf) (r : Reply) : (l.immediate r).wf := by
  unfold LinkState.immediate
  split
  · exact { h with replies := by simpa using by omega }
  · exact h.badFrame

theorem LinkState.wf.arrive {l : LinkState} (h : l.wf) (tag kind : Nat) (body : List Byte) :
    (l.arrive tag kind body).wf := by
  unfold LinkState.arrive
  split
  · exact h.immediate _
  · split
    · exact h.immediate _
    · exact { h with inbound := by simpa using by omega, waiting := by simp }

theorem LinkState.wf.setRx {l : LinkState} (h : l.wf) (rx : Rx) : ({ l with rx := rx } : LinkState).wf := { h with }

theorem LinkState.wf.receiveByte {l : LinkState} (h : l.wf) (b : Byte) : (l.receiveByte b).wf := by
  unfold LinkState.receiveByte
  dsimp only
  split
  · exact h.setRx _
  · exact (h.setRx _).badFrame
  · unfold LinkState.complete
    split
    · exact (h.setRx _).arrive _ _ _
    · exact (h.setRx _).badFrame

theorem LinkState.wf.receive {l : LinkState} (h : l.wf) (chars : List LineChar) : (l.receive chars).wf := by
  unfold LinkState.receive
  induction keptBytes chars generalizing l with
  | nil => exact h
  | cons b bs ih => exact ih (h.receiveByte b)

theorem LinkState.wf.silence {l : LinkState} (h : l.wf) : l.silence.wf := by
  unfold LinkState.silence
  split
  · exact h
  · exact h.badFrame.setRx _

/-- The reply to a record at the head (R6). -/
theorem LinkState.wf.answer {l : LinkState} (h : l.wf) (hi : l.inbound ≠ []) (hw : l.waiting = none) (r : Reply) :
    (l.answer r).wf := by
  unfold LinkState.answer
  split
  · exact { h with
      inbound := Nat.le_trans (by simp) h.inbound
      replies := by simpa using by omega
      waiting := by simp [hw] }
  · exact { h with waiting := fun _ => hi }

theorem LinkState.wf.placeWaiting {l : LinkState} (h : l.wf) : l.placeWaiting.wf := by
  unfold LinkState.placeWaiting
  split
  · next r hr =>
    split
    · exact LinkState.wf.answer (l := { l with waiting := none }) { h with waiting := by simp }
        (h.waiting (by simp [hr])) rfl _
    · exact h
  · exact h

theorem LinkState.wf.transmit {l : LinkState} (h : l.wf) : l.transmit.wf := by
  unfold LinkState.transmit
  split
  · next r rest hr _ => exact { h with replies := by have := h.replies; simp_all; omega }
  · next n rest _ hn =>
    exact { h with
      kinds := by have := h.kinds; simp_all
      noticed := fun m hm => h.noticed m (by simp [hn, hm]) }
  · exact h

theorem LinkState.wf.present {l m : LinkState} (h : l.wf) {tag kind : Nat} {len : Option Nat}
    (hp : l.present tag kind len = some m) : m.wf ∧ m.inbound ≠ [] ∧ m.waiting = none := by
  unfold LinkState.present at hp
  split at hp
  · cases hp
  · next hw =>
    have hw : l.waiting = none := by simpa using hw
    split at hp
    · cases hp
      exact ⟨{ h with inbound := by simp, waiting := by simp }, by simp, hw⟩
    · next hi =>
      split at hp
      · cases hp
        exact ⟨h, by simp [hi], hw⟩
      · cases hp

theorem LinkState.wf.subscribe {l : LinkState} (h : l.wf) {codes : List Nat} (hc : codes.Nodup ∧ ∀ c ∈ codes, c < 20) :
    ({ l with subs := codes } : LinkState).wf := { h with subs := hc }

/-- A notice is only of a kind that is pending, so clearing the pending entries withdraws every notice (R15). -/
theorem clearConditions_notices {l : LinkState} (h : l.wf) : l.clearConditions.notices = [] := by
  simpa [LinkState.clearConditions] using h.noticed

theorem LinkState.wf.clearConditions {l : LinkState} (h : l.wf) : l.clearConditions.wf :=
  { h with
    table := (List.length_map _).trans h.table
    entries := fun e he => by
      obtain ⟨x, hx, rfl⟩ := List.mem_map.mp he
      split
      · exact clear_wf
      · exact h.entries x hx
    kinds := by rw [clearConditions_notices h]; exact .nil
    noticed := by rw [clearConditions_notices h]; simp }

theorem LinkState.wf.restart {l : LinkState} (h : l.wf) : l.restart.wf :=
  { h with
    table := List.length_replicate
    entries := fun e he => (List.eq_of_mem_replicate he) ▸ clear_wf
    kinds := .nil
    noticed := by simp [LinkState.restart] }

theorem reset_link_wf (strap : Nat) : (LinkState.reset strap).wf where
  table := List.length_replicate
  entries e he := (List.eq_of_mem_replicate he) ▸ clear_wf
  inbound := Nat.zero_le _
  replies := Nat.zero_le _
  errors := Nat.zero_le _
  subs := ⟨.nil, by simp [LinkState.reset]⟩
  kinds := .nil
  noticed := by simp [LinkState.reset]
  waiting := by simp [LinkState.reset]

/-! ## Both links -/

theorem linksWf_iff (s : State) : s.linksWf ↔ ∀ l, (s.link l).wf :=
  ⟨fun h l => by cases l; exacts [h.1, h.2], fun h => ⟨h .production, h .table⟩⟩

theorem mapLink_linksWf {s : State} (h : s.linksWf) (l : Link) {f : LinkState → LinkState}
    (hf : (s.link l).wf → (f (s.link l)).wf) : (s.mapLink l f).linksWf := by
  cases l
  · exact ⟨hf h.1, h.2⟩
  · exact ⟨h.1, hf h.2⟩

/-- Conditions raised keep the links well formed (R12, R13). -/
theorem OnlyRaises.linksWf {s t : State} (h : OnlyRaises s t) (hs : s.linksWf) : t.linksWf := by
  obtain ⟨es, hp, ht⟩ := h
  exact ⟨hp ▸ hs.1.occurs es, ht ▸ hs.2.occurs es⟩

theorem OnlyRaises.of_links {s t : State} (hp : t.production = s.production) (ht : t.table = s.table) : OnlyRaises s t :=
  ⟨[], hp, ht⟩

end Sys2Proof.Machine
end

section
namespace Sys2Proof.Machine

set_option Elab.async false

/-! ## The part's fixed tables -/

/-- From `s` to `t` the part's fixed tables keep their sizes, and counters that fit 48 bits fit still. -/
structure TablesKept (s t : State) : Prop where
  inputs : t.canvas.inputs.length = s.canvas.inputs.length
  rings : t.capture.rings.length = s.capture.rings.length
  programs : t.rotation.programs.length = s.rotation.programs.length
  ids : t.exposure.ids.length = s.exposure.ids.length
  counters : (∀ e ∈ s.exposure.ids, e.wf) → ∀ e ∈ t.exposure.ids, e.wf

theorem TablesKept.tablesWf {s t : State} (h : TablesKept s t) (hs : s.tablesWf) : t.tablesWf :=
  ⟨h.inputs.trans hs.inputs, h.rings.trans hs.rings, h.programs.trans hs.programs, h.ids.trans hs.ids,
    h.counters hs.counters⟩

theorem TablesKept.refl (s : State) : TablesKept s s := ⟨rfl, rfl, rfl, rfl, id⟩

theorem TablesKept.trans {s t u : State} (h : TablesKept s t) (k : TablesKept t u) : TablesKept s u :=
  ⟨k.inputs.trans h.inputs, k.rings.trans h.rings, k.programs.trans h.programs, k.ids.trans h.ids,
    k.counters ∘ h.counters⟩

theorem TablesKept.ite {s t u : State} {c : Prop} [Decidable c] (ht : TablesKept s t) (hu : TablesKept s u) :
    TablesKept s (if c then t else u) := by
  split
  · exact ht
  · exact hu

theorem TablesKept.foldl {α : Type} (f : State → α → State) (hf : ∀ s a, TablesKept s (f s a)) (l : List α)
    (s : State) : TablesKept s (l.foldl f s) := by
  induction l generalizing s with
  | nil => exact .refl s
  | cons a l ih => exact (hf s a).trans (ih _)

/-- An operation that reaches neither inputs, rings, programs nor exposure keeps the tables. -/
theorem Frame.tables {P : List Part} {s t : State} (h : Frame P s t)
    (hP : [Part.inputs, .rings, .programs, .exposure].all (fun p => !P.contains p) = true := by decide) :
    TablesKept s t := by
  have hP : ∀ p ∈ [Part.inputs, .rings, .programs, .exposure], p ∉ P := by simpa using hP
  have hi : t.canvas.inputs = s.canvas.inputs := h.same .inputs (hP _ (by simp))
  have hr : t.capture.rings = s.capture.rings := h.same .rings (hP _ (by simp))
  have hp : t.rotation.programs = s.rotation.programs := h.same .programs (hP _ (by simp))
  have he : t.exposure = s.exposure := h.same .exposure (hP _ (by simp))
  exact ⟨by rw [hi], by rw [hr], by rw [hp], by rw [he], by rw [he]; exact id⟩

theorem TablesKept.frame {P : List Part} {s t u : State} (h : TablesKept s t) (k : Frame P t u)
    (hP : [Part.inputs, .rings, .programs, .exposure].all (fun p => !P.contains p) = true := by decide) :
    TablesKept s u := h.trans (k.tables hP)

section
variable (s : State)

theorem mapLink_tables (l : Link) (f : LinkState → LinkState) : TablesKept s (s.mapLink l f) := by
  cases l <;> exact ⟨rfl, rfl, rfl, rfl, id⟩

theorem mapRing_tables (n : Nat) (f : Ring → Ring) : TablesKept s (s.mapRing n f) :=
  ⟨rfl, by simp [State.mapRing], rfl, rfl, id⟩

theorem mapInput_tables (n : Nat) (f : Input → Input) : TablesKept s (s.mapInput n f) :=
  ⟨by simp [State.mapInput], rfl, rfl, rfl, id⟩

theorem mapProgram_tables (n : Nat) (f : Program → Program) : TablesKept s (s.mapProgram n f) :=
  ⟨rfl, rfl, by simp [State.mapProgram], rfl, id⟩

/-! ### Exposure counters -/

theorem exposed_wf (id : Nat) (h : ∀ e ∈ s.exposure.ids, e.wf) : (s.exposed id).wf := by
  unfold State.exposed
  rw [List.getD_eq_getElem?_getD]
  cases he : s.exposure.ids[id]? with
  | none => simp [Exposed.wf, Exposed.reset]
  | some e => exact h e (List.mem_of_getElem? he)

theorem mapExposed_tables (id : Nat) {f : Exposed → Exposed} (hf : ∀ e, e.wf → (f e).wf) :
    TablesKept s (s.mapExposed id f) where
  inputs := rfl
  rings := rfl
  programs := rfl
  ids := by simp [State.mapExposed]
  counters h e he := by
    rcases List.mem_or_eq_of_mem_set he with hm | rfl
    · exact h e hm
    · exact hf _ (exposed_wf s id h)

/-- A counter saturates at 48 bits (R181). -/
theorem creditTo_le (on : Bool) {n : Nat} (k : Nat) (h : n ≤ max48) : creditTo on n k ≤ max48 := by
  unfold creditTo
  split
  · exact Nat.min_le_left _ _
  · exact h

theorem openGame_wf (e : Exposed) : e.openGame.wf := by simp [Exposed.wf, Exposed.openGame, Exposed.reset]

theorem clearExposure_tables : TablesKept s s.clearExposure where
  inputs := rfl
  rings := rfl
  programs := rfl
  ids := by simp [State.clearExposure]
  counters _ e he := by
    obtain ⟨x, -, rfl⟩ := List.mem_map.mp he
    exact openGame_wf x

theorem tellStart_tables (e : RotEntry) : TablesKept s (s.tellStart e) := by
  unfold State.tellStart
  split
  · exact mapExposed_tables s _ fun x ⟨a, b, c, d⟩ => ⟨a, b, creditTo_le _ _ c, d⟩
  · exact .refl s

theorem tellEnd_tables (e : RotEntry) (short : Bool) : TablesKept s (s.tellEnd e short) := by
  unfold State.tellEnd
  split
  · exact .ite (mapExposed_tables s _ fun x ⟨a, b, c, d, r⟩ => ⟨a, b, c, creditTo_le _ _ d, r⟩) (.refl s)
  · exact .refl s

theorem pass_wf (m : Milestone) {e : Exposed} (h : e.wf) : (e.pass m).wf := by cases m <;> exact h

theorem testMilestone_tables (id : Nat) (m : Milestone) : TablesKept s (s.testMilestone id m) := by
  unfold State.testMilestone
  split
  · exact .ite ((mapExposed_tables s id fun _ => pass_wf m).frame (raise_frame _ _ _)) (.refl s)
  · exact .refl s

theorem testMilestones_tables (id : Nat) : TablesKept s (s.testMilestones id) :=
  ((testMilestone_tables s _ _).trans (testMilestone_tables _ _ _)).trans (testMilestone_tables _ _ _)

theorem setQuota_tables (id : Nat) (q : Option Nat) : TablesKept s (s.setQuota id q) := by
  unfold State.setQuota
  split
  · exact mapExposed_tables s _ fun _ h => h
  · have h (f : Exposed → Exposed) (hf : ∀ e, e.wf → (f e).wf) : TablesKept s (s.mapExposed id f) :=
      mapExposed_tables s id hf
    exact .ite ((h _ fun _ h => by exact h).frame (raise_frame _ _ _)) (h _ fun _ h => by exact h)

theorem applyCredits_tables (id : Nat) (cs : List Credit) : TablesKept s (s.applyCredits id cs) :=
  (mapExposed_tables s id (by
    rintro x ⟨a, b, c, d, f, g⟩
    simp only [Exposed.wf]
    exact ⟨creditTo_le _ _ a, creditTo_le _ _ b, c, d, creditTo_le _ _ f, creditTo_le _ _ g⟩)).trans
    (testMilestones_tables _ _)

theorem creditFrame_tables : TablesKept s s.creditFrame :=
  .foldl _ (fun s _ => .ite (.refl s) (applyCredits_tables s _ _)) _ s

/-! ### Programs -/

theorem startEntry_tables (p : Nat) (e : RotEntry) : TablesKept s (s.startEntry p e) :=
  (mapProgram_tables s p _).trans (tellStart_tables _ e)

theorem startSlate_tables (p : Nat) : TablesKept s (s.startSlate p) :=
  (mapProgram_tables s p _).frame (raise_frame _ _ _)

theorem select_tables (p : Nat) : TablesKept s (s.select p) := by
  have h : TablesKept s ((s.examined (s.program p).candidates).foldl (fun s e => s.raiseSkipped p e) s) :=
    .foldl _ (fun s e => (raiseSkipped_frame s p e).tables) _ s
  unfold State.select
  dsimp only
  split
  · exact h.trans (startEntry_tables _ p _)
  · exact h.trans (startSlate_tables _ p)

theorem closeAppearance_tables (p : Nat) (moves : Bool) (a : Appearance) :
    TablesKept s (s.closeAppearance p moves a) := by
  unfold State.closeAppearance
  dsimp only
  split
  · exact (tellEnd_tables s _ _).trans (mapProgram_tables _ _ _)
  · exact mapProgram_tables s _ _

theorem endAppearance_tables (p : Nat) : TablesKept s (s.endAppearance p) := by
  unfold State.endAppearance
  split
  · exact .refl s
  · exact .ite ((closeAppearance_tables s p _ _).trans (select_tables _ p)) (closeAppearance_tables s p _ _)

theorem dropAppearance_tables (p : Nat) : TablesKept s (s.dropAppearance p) := by
  unfold State.dropAppearance
  split
  · exact .refl s
  · exact closeAppearance_tables s p _ _

theorem activityChanged_tables (before : List Nat) : TablesKept s (s.activityChanged before) :=
  .foldl _ (fun s p => .ite (.ite (.refl s) (endAppearance_tables s p)) (.ite (select_tables s p) (.refl s))) _ s

theorem loadProgram_tables (p : Nat) (es : List RotEntry) : TablesKept s (s.loadProgram p es) := by
  have h (g : Program → Program) : TablesKept s ((s.dropAppearance p).mapProgram p g) :=
    (dropAppearance_tables s p).trans (mapProgram_tables _ _ _)
  exact .ite ((h _).trans (select_tables _ _)) (h _)

theorem restartProgram_tables (p : Nat) : TablesKept s (s.restartProgram p) := by
  have h (g : Program → Program) : TablesKept s ((s.dropAppearance p).mapProgram p g) :=
    (dropAppearance_tables s p).trans (mapProgram_tables _ _ _)
  exact .ite ((h _).trans (select_tables _ _)) (h _)

theorem suspendEntry_tables (p id : Nat) : TablesKept s (s.suspendEntry p id) := by
  have h : TablesKept s (s.flagEntry p id true) := mapProgram_tables s p _
  exact .ite (h.trans (endAppearance_tables _ _)) h

theorem recordShown_tables : TablesKept s s.recordShown := ⟨rfl, rfl, by simp [State.recordShown], rfl, id⟩

theorem addDueIf_tables (c : Bool) (e : DueEvent) : TablesKept s (s.addDueIf c e) := by
  cases c <;> exact ⟨rfl, rfl, rfl, rfl, id⟩

theorem countProgram_tables (p : Nat) : TablesKept s (s.countProgram p) := by
  unfold State.countProgram
  refine .ite ?_ (.refl s)
  split
  · exact (mapProgram_tables s p _).trans (addDueIf_tables _ _ _)
  · exact .refl s

theorem countPrograms_tables : TablesKept s s.countPrograms := .foldl _ (fun s p => countProgram_tables s p) _ s

theorem endDwell_tables (p : Nat) : TablesKept s (s.endDwell p) := by
  unfold State.endDwell
  split
  · exact .ite (endAppearance_tables s p) (.refl s)
  · exact .refl s

/-! ### Inputs and rings -/

theorem captureRestart_tables (n : Nat) : TablesKept s (s.captureRestart n) :=
  ((mapRing_tables s _ _).frame (disarm_frame _ n)).trans
    ((Frame.foldl (P := [.clips]) _ (fun s c => loseClip_frame s _ _ c) _ _).tables.frame (syncReaders_frame _))

theorem partitionRings_tables (a b c d : Nat) : TablesKept s (s.partitionRings a b c d) :=
  ((((mapRing_tables s _ _).trans (mapRing_tables _ _ _)).trans (mapRing_tables _ _ _)).trans
    (mapRing_tables _ _ _)).frame (Frame.foldl (P := [.clips]) _ (fun s c => loseClip_frame s _ _ c) _ _)

theorem writeFrame_tables (n : Nat) : TablesKept s (s.writeFrame n) :=
  .ite (.refl s) (TablesKept.frame (.ite ((mapRing_tables s _ _).frame (overwriteReport_frame _ _ _))
    (mapRing_tables s _ _)) (syncReaders_frame _))

theorem captureFrame_tables (n : Nat) : TablesKept s (s.captureFrame n) :=
  (mapInput_tables s _ _).trans (writeFrame_tables _ _)

theorem detectSignal_tables (n : Nat) : TablesKept s (s.detectSignal n) := by
  have h (f : Input → Input) : TablesKept s ((s.mapInput n f).raiseSignal n .detected) :=
    (mapInput_tables s _ _).frame (raiseSignal_frame _ _ _)
  unfold State.detectSignal
  dsimp only
  split
  · exact .ite (h _) ((h _).trans (captureRestart_tables _ _))
  · exact h _

theorem loseSignal_tables (n : Nat) : TablesKept s (s.loseSignal n) :=
  (mapInput_tables s _ _).frame (raiseSignal_frame _ _ _)

theorem cameraFrame_tables (n : Nat) (valid : Bool) : TablesKept s (s.cameraFrame n valid) := by
  unfold State.cameraFrame
  refine .ite (.refl s) ?_
  split
  · exact captureFrame_tables s n
  · exact loseSignal_tables s n
  · exact .ite ((detectSignal_tables s n).trans (captureFrame_tables _ n)) (mapInput_tables s _ _)
  · exact mapInput_tables s _ _

theorem signalTimeout_tables (n : Nat) : TablesKept s (s.signalTimeout n) :=
  .ite (.refl s) (.ite (loseSignal_tables s n) (mapInput_tables s _ _))

theorem endHold_tables (n : Nat) : TablesKept s (s.endHold n) := .ite (mapInput_tables s _ _) (.refl s)

theorem configureInput_tables (n : Nat) (c : InputSetting) : TablesKept s (s.configureInput n c) := by
  have h (f : Input → Input) : TablesKept s (s.mapInput n f) := mapInput_tables s _ _
  unfold State.configureInput
  dsimp only
  split
  · exact h _
  · exact h _
  · exact .ite ((h _).frame (raiseSignal_frame _ _ _)) (h _)
  · refine .ite (.refl s) (.ite (TablesKept.trans ?_ (captureRestart_tables _ _)) ?_) <;>
      exact .ite ((h _).frame (raiseSignal_frame _ _ _)) (h _)

/-! ### Layout, the frame event and RESTART -/

theorem placeZones_tables (specs : List ZoneSpec) : TablesKept s (s.placeZones specs) := by
  have h (f : Canvas → List Zone) : TablesKept s (s.mapCanvas fun c => { c with zones := f c }) :=
    (zones_frame s f).tables
  unfold State.placeZones
  exact TablesKept.trans (.ite ((h _).frame (clearStrip_frame _)) (h _)) (activityChanged_tables _ _)

theorem applyLayout_tables (specs : List ZoneSpec) : TablesKept s (s.applyLayout specs) :=
  (((endEach_frame s _ _).tables.trans (placeZones_tables _ _)).frame (evaluateAll_frame _ _)).frame
    (layoutOwners_frame _ _ _)

theorem applyAwaiting_tables : TablesKept s s.applyAwaiting := by
  have h : TablesKept s (match s.canvas.awaitingConfig with
      | some size => s.mapCanvas fun c => { c with size := size, awaitingConfig := none }
      | none => s) := by
    split
    · exact (canvas_frame s _ fun _ => by simp).tables
    · exact .refl s
  unfold State.applyAwaiting
  dsimp only
  split
  · exact (h.frame (canvas_frame _ _ fun _ => by simp)).trans (applyLayout_tables _ _)
  · exact h

theorem countHolds_tables : TablesKept s s.countHolds := by
  have h : TablesKept s (s.mapCanvas fun c => { c with inputs := c.inputs.map Input.countHold }) :=
    ⟨by simp, rfl, rfl, rfl, id⟩
  unfold State.countHolds
  exact h.trans (.foldl _ (fun s n => addDueIf_tables s _ (.holdEnd n)) _ _)

theorem countTakeovers_tables : TablesKept s s.countTakeovers := ⟨rfl, rfl, rfl, rfl, id⟩

theorem frameBoundary_tables : TablesKept s s.frameBoundary := by
  have h := (canvas_frame s (fun c => { c with frame := c.frame + 1 }) fun _ => by simp).tables
  unfold State.frameBoundary
  exact ((h.trans (countHolds_tables _)).frame (testOverrun_frame _ .a)).frame (testOverrun_frame _ .b)

theorem frameWork_tables (kept : Option Nat) : TablesKept s (s.frameWork kept) := by
  have h := ((reportMissing_frame s).tables.trans (recordShown_tables _)).trans (creditFrame_tables _)
  unfold State.frameWork
  exact (((((h.trans (countPrograms_tables _)).frame (stepCrawl_frame _ kept)).trans (countTakeovers_tables _)).frame
    (stepChannel_frame _ .a)).frame (stepChannel_frame _ .b))

theorem frameEvent_tables : TablesKept s s.frameEvent := by
  unfold State.frameEvent State.frameAfter
  exact (((applyAwaiting_tables s).trans (frameBoundary_tables _)).frame (compose_frame _)).trans (frameWork_tables _ _)

theorem restart_tables : TablesKept s s.restart :=
  TablesKept.frame (TablesKept.frame (TablesKept.trans
    ((((mapLink_tables s .production LinkState.restart).frame (arbiterRestart_frame _)).frame
      (emptyChannel_frame _ .a)).frame (emptyChannel_frame _ .b))
    (.foldl _ (fun s p => restartProgram_tables s p) [0, 1, 2, 3] _)) (emptyFeatures_frame _)) (clearStrip_frame _)

theorem configureCrawl_tables (config : CrawlConfig) : TablesKept s (s.configureCrawl config) :=
  TablesKept.trans (crawlConfig_frame s (clampSpeed config)).tables (activityChanged_tables _ s.activePrograms)

/-! ### The game record and the twin -/

theorem finalGame_tables (cause : SessionCause) : TablesKept s (s.finalGame cause) := by
  have h : TablesKept s _ := ((session_frame s .final).tables.frame
    (raiseSession_frame _ s.record.game.session cause)).frame (handChange_frame _ .gameFinal)
  exact .ite h (h.frame (closeWindow_frame _))

theorem openGame_tables (cause : SessionCause) : TablesKept s (s.openGame cause) := by
  unfold State.openGame
  dsimp only
  refine TablesKept.frame (TablesKept.frame (.ite (TablesKept.frame ?_ (sampleLine_frame _)) ?_) (handChange_frame _ _))
    (sendClock_frame _ _) <;>
  exact (((((game_frame s _ newGameRecord_session).tables.frame (resetClocks_frame _)).frame
    (endAll_frame _ _ _)).trans (clearExposure_tables _)).frame (session_frame _ _)).frame (raiseSession_frame _ _ _)

theorem advancePeriod_tables (cause : SessionCause) : TablesKept s (s.advancePeriod cause) :=
  (((((game_frame s _ fun _ => by rfl).tables.frame (resetClocks_frame _)).frame
    (game_frame _ _ fun _ => by rfl)).frame (raiseSession_frame _ _ _)).frame (handChange_frame _ _)).frame
      (sendClock_frame _ _)

theorem applyChange_tables (c : Change) (n : Nat) : TablesKept s (s.applyChange c n) := by
  unfold State.applyChange
  split
  · exact (addScore_frame s _ _ _).tables
  · split
    · exact (reviseScore_frame s _ _).tables
    · exact (game_frame s _ fun _ => by rfl).tables
  · exact (openGame_tables s _).frame (game_frame _ _ fun _ => by rfl)
  · exact (finalGame_tables s _).frame (game_frame _ _ fun _ => by rfl)
  · exact (advancePeriod_tables s _).frame (game_frame _ _ fun _ => by rfl)
  · exact (applyTeam_frame s _ _).tables.frame (game_frame _ _ fun _ => by rfl)
  · exact (applyDefs_frame s _).tables.frame (game_frame _ _ fun _ => by rfl)
  · exact (applyField_frame s _ _).tables.frame (game_frame _ _ fun _ => by rfl)
  · exact (applyConfig_frame s _).tables.frame (game_frame _ _ fun _ => by rfl)

theorem applyDecision_tables (d : Decision) : TablesKept s (s.applyDecision d) := by
  unfold State.applyDecision
  split
  · exact (((twin_frame s _ fun _ => by simp).tables.frame (enterTwin_frame _ _ _ _)).frame
      (sendHello_frame _)).frame (sendState_frame _)
  · exact (twin_frame s _ fun _ => by simp).tables
  · exact (enterTwin_frame s _ _ _).tables

theorem resolveAfresh_tables (h : Hello) : TablesKept s (s.resolveAfresh h) :=
  ((enterTwin_frame s _ _ _).tables.frame (sendHello_frame _)).trans (applyDecision_tables _ _)

theorem takeHello_tables (h : Hello) : TablesKept s (s.takeHello h) := by
  have k : TablesKept s (s.mapTwin fun t => { t.heard with peer := some h }) :=
    (twin_frame s _ fun _ => by simp [Twin.heard]).tables
  unfold State.takeHello
  dsimp only
  split
  · exact k.trans (resolveAfresh_tables _ _)
  · exact k.trans (resolveAfresh_tables _ _)
  · exact k.trans (applyDecision_tables _ _)
  · split
    · exact (k.frame (sendHello_frame _)).frame (sendState_frame _)
    · exact (k.frame (enterTwin_frame _ _ _ _)).trans (applyDecision_tables _ _)
  · exact .ite k (k.trans (resolveAfresh_tables _ _))
  · exact .ite k (k.trans (resolveAfresh_tables _ _))

theorem conflict_tables : TablesKept s s.conflict := (enterTwin_frame s _ _ _).tables.frame (sendHello_frame _)

theorem adoptValues_tables (r : StateRecord) : TablesKept s (s.adoptValues r) := by
  have h (m : Timing) (g : GameRecord) (w : Twin) : TablesKept s { s with timing := m, record := g, twin := w } :=
    ⟨rfl, rfl, rfl, rfl, id⟩
  unfold State.adoptValues
  dsimp only
  exact TablesKept.frame (TablesKept.frame (TablesKept.frame (TablesKept.frame (.ite (h _ _ _)
    ((h _ _ _).frame (handOn_frame _ _ _))) (adoptBreak_frame _ _)) (releaseLevelOne_frame _ _))
      (checkCountdown_frame _)) (raiseSession_frame _ _ _)

theorem becomeFollower_tables : TablesKept s s.becomeFollower :=
  ((closeWindow_frame s).tables.frame (twin_frame _ _ fun _ => by simp)).frame (enterTwin_frame _ _ _ _)

theorem takeState_tables (r : StateRecord) : TablesKept s (s.takeState r) := by
  unfold State.takeState
  split
  · exact (sendHello_frame s).tables
  · exact (sendHello_frame s).tables
  · exact .ite ((becomeFollower_tables s).trans (adoptValues_tables _ _)) (.refl s)
  · exact conflict_tables s
  · exact adoptValues_tables s r
  · exact .refl s

theorem takePart_tables (part parts : Nat) (r : StateRecord) : TablesKept s (s.takePart part parts r) := by
  have h (p : Option (Nat × Nat)) : TablesKept s (s.mapTwin fun t => { t with parts := p }) := ⟨rfl, rfl, rfl, rfl, id⟩
  exact .ite ((h _).trans (takeState_tables _ r)) (h _)

theorem applyClock_tables (r : ClockRecord) : TablesKept s (s.applyClock r) := by
  have h (f : Timing → Timing) : TablesKept s (s.mapTiming f) := ⟨rfl, rfl, rfl, rfl, id⟩
  unfold State.applyClock
  dsimp only
  exact TablesKept.frame (TablesKept.frame (.ite (h _) ((h _).frame (mirrorRunChange_frame _ _)))
    (mirrorBreakChange_frame _ _ _)) (mirrorCountdown_frame _ _)

theorem takeClock_tables (r : ClockRecord) : TablesKept s (s.takeClock r) := by
  unfold State.takeClock
  split
  · exact (sendHello_frame s).tables
  · exact (sendHello_frame s).tables
  · exact .refl s
  · exact conflict_tables s
  · exact applyClock_tables s r
  · exact .refl s

theorem followEvent_tables (r : EventRecord) : TablesKept s (s.followEvent r) :=
  .ite (.refl s) (.ite ((applyChange_tables s _ _).frame (twin_frame _ _ fun _ => by simp))
    ((twin_frame s _ fun _ => by simp).tables.frame (sendHeartbeat_frame _)))

theorem takeEvent_tables (r : EventRecord) : TablesKept s (s.takeEvent r) := by
  unfold State.takeEvent
  split
  · exact (sendHello_frame s).tables
  · exact (sendHello_frame s).tables
  · exact .refl s
  · exact conflict_tables s
  · exact followEvent_tables s r
  · exact .refl s

theorem takeHeartbeat_tables (b : Bool) : TablesKept s (s.takeHeartbeat b) := by
  unfold State.takeHeartbeat
  split
  · exact (sendHello_frame s).tables
  · exact (sendHello_frame s).tables
  · exact .refl s
  · exact .ite (sendState_frame s).tables (.refl s)
  · exact conflict_tables s
  · exact .refl s

theorem hearTwin_tables {f : State → State} (hf : ∀ s, TablesKept s (f s)) : TablesKept s (s.hearTwin f) :=
  .ite (.refl s) ((heard_frame s).tables.trans (hf _))

theorem configureTwin_tables (role : TwinRole) (token comp : Nat) :
    TablesKept s (s.configureTwin role token comp) := by
  have h : TablesKept s (s.mapTwin fun t => { t with role := role, token := token, compensation := comp }) :=
    (twin_frame s _ fun _ => by simp).tables
  have enter (u : State) (new : TwinState) (c : TwinCause) : TablesKept u (u.enterTwin new c .none) :=
    (enterTwin_frame u _ _ _).tables
  have re (u : State) (old : TwinRole) : TablesKept u (u.reconfigure old) := by
    unfold State.reconfigure
    refine .ite (.ite (.refl u) ((enter u _ _).frame (stopSending_frame _)))
      (.ite ((enter u _ _).frame (sendHello_frame _)) ?_)
    split
    · exact (sendHello_frame u).tables
    · exact (sendHello_frame u).tables
    · exact (enter u _ _).frame (sendHello_frame _)
  exact .ite h (h.trans (re _ _))

/-! ### The time base and due events -/

theorem timeStep_tables : TablesKept s s.timeStep := by
  have h (m : Timing) (w : Twin) : TablesKept s ({ s with timing := m, twin := w } : State).checkRegulation :=
    TablesKept.trans (t := { s with timing := m, twin := w }) ⟨rfl, rfl, rfl, rfl, id⟩ (checkRegulation_frame _).tables
  have due (u : State) (d : List DueEvent) (hu : TablesKept s u) : TablesKept s { u with due := d } :=
    hu.trans ⟨rfl, rfl, rfl, rfl, id⟩
  exact due _ _ (.ite (h _ _) ((h _ _).frame (checkCountdown_frame _)))

theorem runDue_tables (e : DueEvent) : TablesKept s (s.runDue e) := by
  have on {c : Prop} [Decidable c] {P : List Part} {t : State} (h : Frame P s t)
      (hP : [Part.inputs, .rings, .programs, .exposure].all (fun p => !P.contains p) = true := by decide) :
      TablesKept s (if c then t else s) := .ite (h.tables hP) (.refl s)
  cases e with
  | startConfirm => exact on (confirmStart_frame s)
  | stopConfirm => exact on (confirmStop_frame s _)
  | gameExpiry => exact on (expire_frame s _)
  | playExpiry b => exact on (playExpire_frame s b)
  | breakExpiry => exact on (breakExpire_frame s)
  | hornEnd which => exact ⟨rfl, rfl, rfl, rfl, id⟩
  | helloTimer => exact on (helloExpire_frame s)
  | heartbeatTimer => exact on (heartbeatExpire_frame s)
  | clockTimer => exact on (sendClock_frame s _)
  | lossTimer => exact on (lossExpire_frame s)
  | takeoverExpiry zone => exact .ite (.refl s) (expireTakeovers_frame s zone).tables
  | dwellEnd p => exact endDwell_tables s p
  | holdEnd n => exact endHold_tables s n
  | replyPlace l => exact mapLink_tables s l _

end

end Sys2Proof.Machine
end

section
namespace Sys2Proof.Machine

set_option Elab.async false

/-! ## What every owner leaves of the links -/

/-- An owner answers without touching a queue of records, a waiting reply or a reply list, and keeps the links and the
tables well formed. -/
structure Tame (owner : State → Answered) : Prop where
  inbound : ∀ s l, ((owner s).1.link l).inbound = (s.link l).inbound
  waiting : ∀ s l, ((owner s).1.link l).waiting = (s.link l).waiting
  replies : ∀ s l, ((owner s).1.link l).replies = (s.link l).replies
  links : ∀ s : State, s.linksWf → (owner s).1.linksWf
  tables : ∀ s : State, TablesKept s (owner s).1

/-- An owner that only raises conditions on the links. -/
theorem Tame.of_raises {owner : State → Answered} (h : ∀ s, OnlyRaises s (owner s).1)
    (ht : ∀ s, TablesKept s (owner s).1) : Tame owner :=
  ⟨fun s l => (h s).keeps (·.inbound) (fun _ _ _ => rfl) l, fun s l => (h s).keeps (·.waiting) (fun _ _ _ => rfl) l,
    fun s l => (h s).keeps (·.replies) (fun _ _ _ => rfl) l, fun s => (h s).linksWf, ht⟩

theorem Tame.of_frame {P : List Part} {owner : State → Answered} (h : ∀ s, Frame P s (owner s).1)
    (hP : [Part.inputs, .rings, .programs, .exposure].all (fun p => !P.contains p) = true := by decide) : Tame owner :=
  .of_raises (fun s => (h s).links) fun s => (h s).tables hP

theorem Tame.of_tables {P : List Part} {owner : State → Answered} (h : ∀ s, Frame P s (owner s).1)
    (ht : ∀ s, TablesKept s (owner s).1) : Tame owner := .of_raises (fun s => (h s).links) ht

/-- A refusal changes nothing, so an owner keeps what its acceptance keeps. -/
theorem tests_keeps {I : State → State → Prop} (hr : ∀ s, I s s) {s : State} (checks : List (Bool × Status))
    {accept : State → Answered} (h : I s (accept s).1) : I s (s.tests checks accept).1 := by
  unfold State.tests
  split
  · exact hr s
  · exact h

theorem tests_tables {s : State} (checks : List (Bool × Status)) {accept : State → Answered}
    (h : TablesKept s (accept s).1) : TablesKept s (s.tests checks accept).1 := tests_keeps TablesKept.refl checks h

theorem tests_ok_tables {s : State} (checks : List (Bool × Status)) {f : State → State} (h : TablesKept s (f s)) :
    TablesKept s (s.tests checks fun s => (f s).ok).1 := tests_tables checks h

/-! ### The owners of the link interface -/

theorem linkInfoOwner_tame (link : Link) : Tame (linkInfoOwner link) := .of_frame (P := []) fun s => .refl _ s

/-- The set a SUBSCRIBE accepts holds distinct codes below 20 (R14). -/
theorem subscribe_accepts {codes : List Nat} (h : codes.any (20 ≤ ·) = false) (hn : noRepeats codes = true) :
    codes.Nodup ∧ ∀ c ∈ codes, c < 20 := by
  refine ⟨by simpa [noRepeats] using hn, fun c hc => ?_⟩
  simpa using List.any_eq_false.mp h c hc

theorem subscribeOwner_eq (link : Link) (codes : List Nat) (s : State) :
    subscribeOwner link codes s =
      if codes.any (20 ≤ ·) = true ∨ noRepeats codes = false then s.refuse .range
      else (s.mapLink link fun l => { l with subs := codes }).ok := by
  unfold subscribeOwner
  simp only [tests_cons, tests_nil]
  cases codes.any (20 ≤ ·) <;> cases noRepeats codes <;> rfl

theorem subscribeOwner_tame (link : Link) (codes : List Nat) : Tame (subscribeOwner link codes) := by
  have cases (s : State) : (subscribeOwner link codes s).1 = s ∨ (codes.Nodup ∧ ∀ c ∈ codes, c < 20) ∧
      (subscribeOwner link codes s).1 = s.mapLink link fun l => { l with subs := codes } := by
    rw [subscribeOwner_eq]
    split
    · exact .inl rfl
    · next h => exact .inr ⟨subscribe_accepts (by simp_all) (by simp_all), rfl⟩
  constructor
  · intro s l
    rcases cases s with h | ⟨-, h⟩ <;> rw [h]
    cases link <;> cases l <;> rfl
  · intro s l
    rcases cases s with h | ⟨-, h⟩ <;> rw [h]
    cases link <;> cases l <;> rfl
  · exact fun s l => subscribeOwner_replies s link codes l
  · intro s hs
    rcases cases s with h | ⟨hc, h⟩ <;> rw [h]
    · exact hs
    · exact mapLink_linksWf hs link fun hl => hl.subscribe hc
  · intro s
    rcases cases s with h | ⟨-, h⟩ <;> rw [h]
    · exact .refl s
    · exact mapLink_tables s link _

theorem conditionsOwner_tame (link : Link) : Tame (conditionsOwner link) where
  inbound s l := by cases link <;> cases l <;> rfl
  waiting s l := by cases link <;> cases l <;> rfl
  replies s l := by cases link <;> cases l <;> rfl
  links s hs := mapLink_linksWf hs link LinkState.wf.clearConditions
  tables s := mapLink_tables s link _

theorem setSlot_frame (s : State) (k : Slot) (t : Option Text) : Frame [.slots] s (s.setSlot k t) :=
  .update ⟨by simp, by simp⟩ ⟨by simp, by simp⟩ fun p hp => by cases p <;> simp_all [samePart]

theorem slotPostOwner_tame (link : Link) (text : Text) : Tame (slotPostOwner link text) :=
  .of_frame fun s => tests_frame s _ ((setSlot_frame s _ _).next (raise_frame _ _ _))

theorem slotTakeOwner_tame (link : Link) : Tame (slotTakeOwner link) :=
  .of_frame (P := [.slots]) fun s => by
    unfold slotTakeOwner
    split
    · exact .refl _ s
    · exact (setSlot_frame s _ _).next (raise_frame _ _ _)

theorem restart_linksWf {s : State} (hs : s.linksWf) : s.restart.linksWf :=
  (restart_frame s).links.linksWf (mapLink_linksWf hs .production LinkState.wf.restart)

theorem restartOwner_tame : Tame restartOwner where
  inbound s l := ((restart_frame s).links.keeps (·.inbound) (fun _ _ _ => rfl) l).trans (by cases l <;> rfl)
  waiting s l := ((restart_frame s).links.keeps (·.waiting) (fun _ _ _ => rfl) l).trans (by cases l <;> rfl)
  replies s l := restartOwner_replies s l
  links s hs := restart_linksWf hs
  tables s := restart_tables s

/-! ### The owners that reach a fixed table -/

theorem gameFinalOwner_tame : Tame gameFinalOwner :=
  .of_tables gameFinalOwner_frame fun s => tests_tables _ (finalGame_tables s _)

theorem gameOpenOwner_tame : Tame gameOpenOwner :=
  .of_tables gameOpenOwner_frame fun s => tests_tables _ (openGame_tables s _)

theorem nextPeriodOwner_tame : Tame nextPeriodOwner :=
  .of_tables nextPeriodOwner_frame fun s => tests_tables _ (advancePeriod_tables s _)

theorem twinConfigOwner_tame (role : TwinRole) (token comp : Nat) : Tame (twinConfigOwner role token comp) :=
  .of_tables (twinConfigOwner_frame · role token comp) fun s => tests_tables _ (configureTwin_tables s _ _ _)

theorem inputConfigOwner_tame (a b c d : InputSetting) : Tame (inputConfigOwner a b c d) :=
  .of_tables (inputConfigOwner_frame · a b c d) fun s => tests_tables _ ((((configureInput_tables s _ _).trans
    (configureInput_tables _ _ _)).trans (configureInput_tables _ _ _)).trans (configureInput_tables _ _ _))

theorem ringPartitionOwner_tame (a b c d : Nat) : Tame (ringPartitionOwner a b c d) :=
  .of_tables (ringPartitionOwner_frame · a b c d) fun s => tests_tables _ (partitionRings_tables s a b c d)

theorem captureRestartOwner_tame (n : Nat) : Tame (captureRestartOwner n) :=
  .of_tables (captureRestartOwner_frame · n) fun s => tests_tables _ (captureRestart_tables s n)

theorem marginSetOwner_tame (n : Nat) (t : Threshold) : Tame (marginSetOwner n t) :=
  .of_tables (marginSetOwner_frame · n t) fun s => tests_tables _ ((((mapRing_tables s n _).frame
    (testReaderOf_frame _ n .save)).frame (testReaderOf_frame _ n .channelA)).frame (testReaderOf_frame _ n .channelB))

theorem sponsorDefineOwner_tame (id : Nat) (n : Text) (q : Option Nat) : Tame (sponsorDefineOwner id n q) :=
  .of_tables (sponsorDefineOwner_frame · id n q) fun s => tests_tables _ ((sponsors_frame s _ fun _ => by simp).tables.trans
    (setQuota_tables _ id q))

theorem sponsorRemoveOwner_tame (id : Nat) : Tame (sponsorRemoveOwner id) :=
  .of_tables (sponsorRemoveOwner_frame · id) fun s => tests_tables _ ((sponsors_frame s _ fun _ => by simp).tables.trans
    (setQuota_tables _ id none))

theorem rotationLoadOwner_tame (p n : Nat) (es : List RotEntry) : Tame (rotationLoadOwner p n es) :=
  .of_tables (rotationLoadOwner_frame · p n es) fun s => tests_tables _ (loadProgram_tables s p es)

theorem rotationModeOwner_tame (p : Nat) (m : RotMode) (c : Cover) : Tame (rotationModeOwner p m c) :=
  .of_tables (rotationModeOwner_frame · p m c) fun s => tests_ok_tables _ (mapProgram_tables s p _)

theorem rotationSuspendOwner_tame (p id : Nat) : Tame (rotationSuspendOwner p id) :=
  .of_tables (rotationSuspendOwner_frame · p id) fun s => tests_tables _ (suspendEntry_tables s p id)

theorem rotationResumeOwner_tame (p id : Nat) : Tame (rotationResumeOwner p id) :=
  .of_tables (rotationResumeOwner_frame · p id) fun s => tests_ok_tables _ (mapProgram_tables s p _)

theorem rotationFrontOwner_tame (p id : Nat) : Tame (rotationFrontOwner p id) :=
  .of_tables (rotationFrontOwner_frame · p id) fun s => tests_tables _ (mapProgram_tables s p (Program.front id))

theorem quotaSetOwner_tame (id : Nat) (q : Option Nat) : Tame (quotaSetOwner id q) :=
  .of_tables (quotaSetOwner_frame · id q) fun s => tests_tables _ (setQuota_tables s id q)

theorem counterMaskOwner_tame (m : CounterMask) (n : Nat) : Tame (counterMaskOwner m n) :=
  .of_tables (counterMaskOwner_frame · m n) fun _ => tests_tables _ ⟨rfl, rfl, rfl, rfl, id⟩

theorem crawlConfigOwner_tame (c : CrawlConfig) : Tame (crawlConfigOwner c) :=
  .of_tables (crawlConfigOwner_frame · c) fun s => tests_tables _ (configureCrawl_tables s c)

/-! ## Every record command -/

/-- A command is the taking of a record by an owner: what its link does is `takeSized` with the length its rule states, and
its owner leaves the link's queues alone (R5 to R8). -/
def TakenAs (c : Instr) (h : Hdr) (kind : Nat) : Prop :=
  ∃ shape owner, Tame owner ∧ ∀ s, exec c s = .next (s.takeSized h kind c.statedLength? shape owner)

theorem TakenAs.intro {c : Instr} {h : Hdr} {kind : Nat} {shape : Bool} {owner : State → Answered} (ht : Tame owner)
    (he : ∀ s, exec c s = .next (s.takeSized h kind c.statedLength? shape owner)) : TakenAs c h kind :=
  ⟨shape, owner, ht, he⟩

/-- Reads answer with the state as it stands. -/
theorem tame_of_read {owner : State → Answered} (h : ∀ s, (owner s).1 = s) : Tame owner :=
  .of_frame (P := []) fun s => by rw [h s]; exact .refl _ s

theorem record_takenAs {c : Instr} {h : Hdr} {kind : Nat} (hc : c.record? = some (h, kind)) : TakenAs c h kind := by
  cases c <;> first | (cases hc; done) | obtain ⟨rfl, rfl⟩ := Prod.mk.inj (Option.some.inj hc)
  case linkInfo => exact .intro (linkInfoOwner_tame _) fun _ => rfl
  case subscribe => exact .intro (subscribeOwner_tame _ _) fun _ => rfl
  case conditions => exact .intro (conditionsOwner_tame _) fun _ => rfl
  case slotPost => exact .intro (slotPostOwner_tame _ _) fun _ => rfl
  case slotTake => exact .intro (slotTakeOwner_tame _) fun _ => rfl
  case restart => exact .intro restartOwner_tame fun _ => rfl
  case trim t => exact .intro (.of_frame (trimOwner_frame · t)) fun _ => rfl
  case clockRules r => exact .intro (.of_frame (clockRulesOwner_frame · r)) fun _ => rfl
  case clockStart => exact .intro (.of_frame clockStartOwner_frame) fun _ => rfl
  case clockStop => exact .intro (.of_frame clockStopOwner_frame) fun _ => rfl
  case clockSet v => exact .intro (.of_frame (clockSetOwner_frame · v)) fun _ => rfl
  case clockAdjust d => exact .intro (.of_frame (clockAdjustOwner_frame · d)) fun _ => rfl
  case playReset x => exact .intro (.of_frame (playResetOwner_frame · x)) fun _ => rfl
  case playEnable on => exact .intro (.of_frame (playEnableOwner_frame · on)) fun _ => rfl
  case breakStart n b => exact .intro (.of_frame (breakStartOwner_frame · n b)) fun _ => rfl
  case breakCancel => exact .intro (.of_frame breakCancelOwner_frame) fun _ => rfl
  case horn w d => exact .intro (.of_frame (hornOwner_frame · w d)) fun _ => rfl
  case clockRead => exact .intro (tame_of_read fun _ => rfl) fun _ => rfl
  case gameFinal => exact .intro gameFinalOwner_tame fun _ => rfl
  case gameOpen => exact .intro gameOpenOwner_tame fun _ => rfl
  case nextPeriod => exact .intro nextPeriodOwner_tame fun _ => rfl
  case scoreAdd t n => exact .intro (.of_frame (scoreAddOwner_frame · t n)) fun _ => rfl
  case scoreRevise n => exact .intro (.of_frame (scoreReviseOwner_frame · n)) fun _ => rfl
  case teamSet t f => exact .intro (.of_frame (teamSetOwner_frame · t f)) fun _ => rfl
  case fieldDefine n d => exact .intro (.of_frame (fieldDefineOwner_frame · d)) fun _ => rfl
  case fieldSet i v => exact .intro (.of_frame (fieldSetOwner_frame · i v)) fun _ => rfl
  case recordRead => exact .intro (tame_of_read fun _ => rfl) fun _ => rfl
  case logRead n => exact .intro (.of_frame (logReadOwner_frame · n)) fun _ => rfl
  case recordConfig x => exact .intro (.of_frame (recordConfigOwner_frame · x)) fun _ => rfl
  case twinConfig r t x => exact .intro (twinConfigOwner_tame r t x) fun _ => rfl
  case twinStatus => exact .intro (tame_of_read fun _ => rfl) fun _ => rfl
  case canvasConfig r w x => exact .intro (.of_frame (canvasConfigOwner_frame · r w x)) fun _ => rfl
  case layout n z => exact .intro (.of_frame (layoutOwner_frame · n z)) fun _ => rfl
  case assetDefine a b x d => exact .intro (.of_frame (assetDefineOwner_frame · a b x d)) fun _ => rfl
  case assetChunk a b x d => exact .intro (.of_frame (assetChunkOwner_frame · a b x d)) fun _ => rfl
  case assetDrop a => exact .intro (.of_frame (assetDropOwner_frame · a)) fun _ => rfl
  case inputConfig a b x d => exact .intro (inputConfigOwner_tame a b x d) fun _ => rfl
  case takeover l z a d => exact .intro (.of_frame (takeoverOwner_frame · l z a d)) fun _ => rfl
  case release l z => exact .intro (.of_frame (releaseOwner_frame · l z)) fun _ => rfl
  case clearTop z => exact .intro (.of_frame (clearTopOwner_frame · z)) fun _ => rfl
  case mask z l => exact .intro (.of_frame (maskOwner_frame · z l)) fun _ => rfl
  case yield z l b => exact .intro (.of_frame (yieldOwner_frame · z l b)) fun _ => rfl
  case zonePolicy z p => exact .intro (.of_frame (zonePolicyOwner_frame · z p)) fun _ => rfl
  case zoneQuery z => exact .intro (.of_frame (zoneQueryOwner_frame · z)) fun _ => rfl
  case ringPartition a b x d => exact .intro (ringPartitionOwner_tame a b x d) fun _ => rfl
  case captureRestart n => exact .intro (captureRestartOwner_tame n) fun _ => rfl
  case marginSet n t => exact .intro (marginSetOwner_tame n t) fun _ => rfl
  case ringStatus n => exact .intro (.of_frame (ringStatusOwner_frame · n)) fun _ => rfl
  case clipCreate a b x d e f => exact .intro (.of_frame (clipCreateOwner_frame · a b x d e f)) fun _ => rfl
  case clipSave n => exact .intro (.of_frame (clipSaveOwner_frame · n)) fun _ => rfl
  case clipDelete n => exact .intro (.of_frame (clipDeleteOwner_frame · n)) fun _ => rfl
  case clipRead n => exact .intro (.of_frame (clipReadOwner_frame · n)) fun _ => rfl
  case cueAdd x f => exact .intro (.of_frame (cueAddOwner_frame · x f)) fun _ => rfl
  case cueRemove x n => exact .intro (.of_frame (cueRemoveOwner_frame · x n)) fun _ => rfl
  case channelRoll x => exact .intro (.of_frame (channelRollOwner_frame · x)) fun _ => rfl
  case channelStop x => exact .intro (.of_frame (channelStopOwner_frame · x)) fun _ => rfl
  case channelSpeed x v => exact .intro (.of_frame (channelSpeedOwner_frame · x v)) fun _ => rfl
  case channelChain x b => exact .intro (.of_frame (channelChainOwner_frame · x b)) fun _ => rfl
  case channelStatus x => exact .intro (tame_of_read fun _ => rfl) fun _ => rfl
  case sponsorDefine a n q => exact .intro (sponsorDefineOwner_tame a n q) fun _ => rfl
  case sponsorRemove a => exact .intro (sponsorRemoveOwner_tame a) fun _ => rfl
  case rotationLoad p n es => exact .intro (rotationLoadOwner_tame p n es) fun _ => rfl
  case rotationMode p m x => exact .intro (rotationModeOwner_tame p m x) fun _ => rfl
  case rotationSuspend p n => exact .intro (rotationSuspendOwner_tame p n) fun _ => rfl
  case rotationResume p n => exact .intro (rotationResumeOwner_tame p n) fun _ => rfl
  case rotationFront p n => exact .intro (rotationFrontOwner_tame p n) fun _ => rfl
  case rotationStatus p => exact .intro (.of_frame (rotationStatusOwner_frame · p)) fun _ => rfl
  case featureAdd a b x z => exact .intro (.of_frame (featureAddOwner_frame · a b x z)) fun _ => rfl
  case breakFeature x => exact .intro (.of_frame (breakFeatureOwner_frame · x)) fun _ => rfl
  case quotaSet n q => exact .intro (quotaSetOwner_tame n q) fun _ => rfl
  case counterMask m n => exact .intro (counterMaskOwner_tame m n) fun _ => rfl
  case exposureRead n => exact .intro (.of_frame (exposureReadOwner_frame · n)) fun _ => rfl
  case crawlConfig x => exact .intro (crawlConfigOwner_tame x) fun _ => rfl
  case msgSubmit n t m x => exact .intro (.of_frame (msgSubmitOwner_frame · n t m x)) fun _ => rfl
  case msgApprove n => exact .intro (.of_frame (msgApproveOwner_frame · n)) fun _ => rfl
  case msgReject n => exact .intro (.of_frame (msgRejectOwner_frame · n)) fun _ => rfl
  case msgWithdraw n => exact .intro (.of_frame (msgWithdrawOwner_frame · n)) fun _ => rfl
  case msgList n f => exact .intro (.of_frame (msgListOwner_frame · n f)) fun _ => rfl

end Sys2Proof.Machine
end

section
namespace Sys2Proof.Machine

set_option Elab.async false

/-! ## Every step keeps links and tables -/

/-- From `s` to `t` links and fixed tables stay well formed. -/
structure Keeps (s t : State) : Prop where
  links : s.linksWf → t.linksWf
  tables : s.tablesWf → t.tablesWf

theorem Keeps.refl (s : State) : Keeps s s := ⟨id, id⟩

theorem Keeps.trans {s t u : State} (h : Keeps s t) (k : Keeps t u) : Keeps s u :=
  ⟨k.links ∘ h.links, k.tables ∘ h.tables⟩

theorem Keeps.ite {s t u : State} {c : Prop} [Decidable c] (ht : Keeps s t) (hu : Keeps s u) :
    Keeps s (if c then t else u) := by
  split
  · exact ht
  · exact hu

theorem Keeps.of {s t : State} (h : OnlyRaises s t) (k : TablesKept s t) : Keeps s t := ⟨h.linksWf, k.tablesWf⟩

theorem Keeps.of_frame {P : List Part} {s t : State} (h : Frame P s t)
    (hP : [Part.inputs, .rings, .programs, .exposure].all (fun p => !P.contains p) = true := by decide) : Keeps s t :=
  .of h.links (h.tables hP)

section
variable (s : State)

theorem mapLink_keeps (l : Link) {f : LinkState → LinkState} (hf : (s.link l).wf → (f (s.link l)).wf) :
    Keeps s (s.mapLink l f) := ⟨fun h => mapLink_linksWf h l hf, (mapLink_tables s l f).tablesWf⟩

theorem runDue_keeps (e : DueEvent) : Keeps s (s.runDue e) := by
  refine ⟨?_, (runDue_tables s e).tablesWf⟩
  have on {c : Prop} [Decidable c] {P : List Part} {t : State} (h : Frame P s t) :
      s.linksWf → (if c then t else s).linksWf := (Frame.ite h (.refl P s)).links.linksWf
  cases e with
  | startConfirm => exact on (confirmStart_frame s)
  | stopConfirm => exact on (confirmStop_frame s _)
  | gameExpiry => exact on (expire_frame s _)
  | playExpiry b => exact on (playExpire_frame s b)
  | breakExpiry => exact on (breakExpire_frame s)
  | hornEnd which => exact id
  | helloTimer => exact on (helloExpire_frame s)
  | heartbeatTimer => exact on (heartbeatExpire_frame s)
  | clockTimer => exact on (sendClock_frame s _)
  | lossTimer => exact on (lossExpire_frame s)
  | takeoverExpiry zone => exact (Frame.ite (.refl _ s) (expireTakeovers_frame s zone)).links.linksWf
  | dwellEnd p =>
    show s.linksWf → (s.endDwell p).linksWf
    unfold State.endDwell
    split
    · exact on (endAppearance_frame s p)
    · exact id
  | holdEnd n => exact (endHold_frame s n).links.linksWf
  | replyPlace l => exact fun h => mapLink_linksWf h l LinkState.wf.placeWaiting

/-- Neither links nor tables lie in the due list. -/
theorem setDue_keeps (d : List DueEvent) : Keeps s { s with due := d } := ⟨id, fun h => { h with }⟩

theorem settle_keeps : Keeps s s.settle := by
  have run : ∀ (es : List DueEvent) (u : State), Keeps u (es.foldl (fun s e => s.runDue e) u) := by
    intro es
    induction es with
    | nil => exact .refl
    | cons e es ih => exact fun u => (runDue_keeps u e).trans (ih _)
  exact (setDue_keeps s []).trans (run _ _)

theorem perform_keeps (p : DueEvent → Bool) : Keeps s (s.perform p) := by
  unfold State.perform
  split
  · exact (setDue_keeps s _).trans (runDue_keeps _ _)
  · exact .refl s

theorem transmitOn_keeps (l : Link) : Keeps s (s.transmitOn l) := by
  have due (u : State) (c : Bool) (e : DueEvent) : Keeps u (u.addDueIf c e) := by
    cases c
    · exact .refl u
    · exact setDue_keeps u _
  exact (mapLink_keeps s l LinkState.wf.transmit).trans (due _ _ _)

/-- The state in which a tame owner has answered: links and tables stay well formed, and the link's queues stand. -/
theorem serve_keeps {owner : State → Answered} (h : Tame owner) (link : Link) (kind : Nat) (len : Option Nat)
    (fits : Bool) :
    let t := (s.serve link kind len fits owner).1
    Keeps s t ∧ ∀ l, (t.link l).inbound = (s.link l).inbound ∧ (t.link l).waiting = (s.link l).waiting ∧
      (t.link l).replies = (s.link l).replies := by
  unfold State.serve
  split
  · exact ⟨.refl s, fun l => ⟨rfl, rfl, rfl⟩⟩
  · exact ⟨⟨h.links s, (h.tables s).tablesWf⟩, fun l => ⟨h.inbound s l, h.waiting s l, h.replies s l⟩⟩

theorem takeSized_keeps {owner : State → Answered} (ho : Tame owner) (h : Hdr) (kind : Nat) (len : Option Nat)
    (shape : Bool) : Keeps s (s.takeSized h kind len shape owner) := by
  refine (settle_keeps s).trans ?_
  unfold State.takeSized
  generalize s.settle = u
  dsimp only
  refine .ite (mapLink_keeps u _ fun hl => hl.immediate _) ?_
  split
  · exact .refl u
  · next l hp =>
    have present (hu : u.linksWf) := ((linksWf_iff u).mp hu h.link).present hp
    obtain ⟨hk, hq⟩ := serve_keeps (u.mapLink h.link fun _ => l) ho h.link kind len (h.fits && shape)
    obtain ⟨hi, hw, -⟩ := hq h.link
    generalize (u.mapLink h.link fun _ => l).serve h.link kind len (h.fits && shape) owner = a at hk hi hw
    obtain ⟨v, status, result⟩ := a
    constructor
    · intro hu
      have hv := hk.links (mapLink_linksWf hu h.link fun _ => (present hu).1)
      refine mapLink_linksWf hv h.link fun hl => hl.answer ?_ ?_ _
      · rw [hi, mapLink_link]
        exact (present hu).2.1
      · rw [hw, mapLink_link]
        exact (present hu).2.2
    · exact fun hu => (mapLink_tables v _ _).tablesWf (hk.tables ((mapLink_tables u _ _).tablesWf hu))

theorem whenIdle_keeps : Keeps s s.whenIdle := .of_frame (whenIdle_frame s)

/-! ### The commands that are no records -/

theorem runLineTo_keeps (level : LineLevel) : Keeps s (s.runLineTo level) := by
  have h : Keeps s (s.mapTiming fun t => { t with runLine := level }) := .of_frame (clock_frame s _ fun _ => by simp)
  exact .ite (.refl s) (.ite h (h.trans (.of_frame (lineEdge_frame _ _))))

theorem timeStep_keeps : Keeps s s.timeStep := by
  refine ⟨?_, (timeStep_tables s).tablesWf⟩
  have h (m : Timing) (w : Twin) : OnlyRaises s ({ s with timing := m, twin := w } : State).checkRegulation :=
    OnlyRaises.trans (t := { s with timing := m, twin := w }) ⟨[], rfl, rfl⟩ (checkRegulation_frame _).links
  unfold State.timeStep
  dsimp only
  intro hs
  split
  · exact (h _ _).linksWf hs
  · exact ((h _ _).trans (checkCountdown_frame _).links).linksWf hs

theorem OnlyRaises.foldl {α : Type} (f : State → α → State) (hf : ∀ s a, OnlyRaises s (f s a)) (l : List α) (s : State) :
    OnlyRaises s (l.foldl f s) := by
  induction l generalizing s with
  | nil => exact .refl s
  | cons a l ih => exact (hf s a).trans (ih _)

theorem addDueIf_raises (c : Bool) (e : DueEvent) : OnlyRaises s (s.addDueIf c e) := by
  cases c <;> exact ⟨[], rfl, rfl⟩

theorem countHolds_raises : OnlyRaises s s.countHolds := by
  have h : OnlyRaises s (s.mapCanvas fun c => { c with inputs := c.inputs.map Input.countHold }) := ⟨[], rfl, rfl⟩
  unfold State.countHolds
  exact h.trans (.foldl _ (fun s n => addDueIf_raises s _ (.holdEnd n)) _ _)

theorem countPrograms_raises : OnlyRaises s s.countPrograms := by
  unfold State.countPrograms
  refine .foldl _ (fun u p => ?_) _ s
  unfold State.countProgram
  split
  · split
    · exact (mapProgram_frame u p _).links.trans (addDueIf_raises _ _ (.dwellEnd p))
    · exact .refl u
  · exact .refl u

theorem frameBoundary_raises : OnlyRaises s s.frameBoundary := by
  have h : OnlyRaises s (s.mapCanvas fun c => { c with frame := c.frame + 1 }) := ⟨[], rfl, rfl⟩
  unfold State.frameBoundary
  exact ((h.trans (countHolds_raises _)).trans (testOverrun_frame _ .a).links).trans (testOverrun_frame _ .b).links

theorem countTakeovers_raises : OnlyRaises s s.countTakeovers := ⟨[], rfl, rfl⟩

theorem frameWork_raises (kept : Option Nat) : OnlyRaises s (s.frameWork kept) := by
  have h := ((reportMissing_frame s).links.trans (recordShown_frame _).links).trans (creditFrame_frame _).links
  unfold State.frameWork
  exact ((((h.trans (countPrograms_raises _)).trans (stepCrawl_frame _ kept).links).trans (countTakeovers_raises _)).trans
    (stepChannel_frame _ .a).links).trans (stepChannel_frame _ .b).links

theorem frameEvent_raises : OnlyRaises s s.frameEvent := by
  unfold State.frameEvent State.frameAfter
  exact (((applyAwaiting_frame s).links.trans (frameBoundary_raises _)).trans (compose_frame _).links).trans
    (frameWork_raises _ _)

theorem frameEvent_keeps : Keeps s s.frameEvent := .of (frameEvent_raises s) (frameEvent_tables s)

theorem hearTwin_keeps {f : State → State} (hf : ∀ s, Frame twinParts s (f s)) (ht : ∀ s, TablesKept s (f s)) :
    Keeps s (s.hearTwin f) := .of (hearTwin_frame s f hf).links (hearTwin_tables s ht)

theorem takePart_frame (part parts : Nat) (r : StateRecord) : Frame twinParts s (s.takePart part parts r) := by
  have h (p : Option (Nat × Nat)) : Frame twinParts s (s.mapTwin fun t => { t with parts := p }) :=
    .mono (twin_frame s _ fun _ => by simp)
  exact .ite ((h _).next (takeState_frame _ r)) (h _)

theorem cameraFrame_keeps (n : Nat) (valid : Bool) : Keeps s (s.cameraFrame n valid) :=
  .of (cameraFrame_frame s n valid).links (cameraFrame_tables s n valid)

theorem signalTimeout_keeps (n : Nat) : Keeps s (s.signalTimeout n) :=
  .of (signalTimeout_frame s n).links (signalTimeout_tables s n)

end

theorem atPowerOn_links (a b : Nat) (level : LineLevel) (q : List Instr) : (State.atPowerOn a b level q).linksWf :=
  ⟨reset_link_wf a, reset_link_wf b⟩

theorem atPowerOn_tables (a b : Nat) (level : LineLevel) (q : List Instr) : (State.atPowerOn a b level q).tablesWf where
  inputs := rfl
  rings := rfl
  programs := rfl
  ids := rfl
  counters e he := by
    rw [List.eq_of_mem_replicate (show e ∈ List.replicate 64 Exposed.reset from he)]
    simp [Exposed.wf, Exposed.reset]

theorem exec_keeps {c : Instr} {s t : State} (h : exec c s = .next t) : Keeps s t := by
  have of {u : State} (hu : Keeps s u) (he : exec c s = .next u) : Keeps s t := by
    cases h.symm.trans he
    exact hu
  cases hr : c.record? with
  | some p =>
    obtain ⟨h, kind⟩ := p
    obtain ⟨shape, owner, ht, he⟩ := record_takenAs hr
    exact of (takeSized_keeps s ht _ _ _ _) (he s)
  | none =>
    have settled {u : State} (hu : Keeps s.settle u) : Keeps s u := (settle_keeps s).trans hu
    cases c <;> first | (cases hr; done) | clear hr
    case powerOn a b l =>
      exact of ⟨fun _ => atPowerOn_links a b l s.pending, fun _ => atPowerOn_tables a b l s.pending⟩ rfl
    case frameReceived l cs => exact of (settled (mapLink_keeps _ l fun hl => hl.receive cs)) rfl
    case receiverSilenceExpiry l => exact of (settled (mapLink_keeps _ l fun hl => hl.silence)) rfl
    case lenOversized l n => exact of (settled (mapLink_keeps _ l fun hl => hl.receive (headerStart n))) rfl
    case replyPlaceFreed l => exact of (perform_keeps s _) rfl
    case frameTransmit l => exact of (settled (transmitOn_keeps _ l)) rfl
    case unknownKindRecord l tag kind =>
      exact of (.ite (settle_keeps s) (takeSized_keeps s (tame_of_read fun _ => rfl) ⟨l, tag, true⟩ kind _ true)) rfl
    case timeBaseStep => exact of (settled (timeStep_keeps _)) rfl
    case runLineEdge l => exact of (settled (runLineTo_keeps _ l)) rfl
    case twinHelloReceived x =>
      exact of (settled (hearTwin_keeps _ (takeHello_frame · x) (takeHello_tables · x))) rfl
    case twinStateReceived a b r =>
      exact of (settled (.ite (hearTwin_keeps _ (takePart_frame · a b r) (takePart_tables · a b r))
        (.of_frame (twinBadFrame_frame _)))) (by simp only [exec, execTwinStateReceived]; rfl)
    case twinClockReceived r => exact of (settled (hearTwin_keeps _ (takeClock_frame · r) (takeClock_tables · r))) rfl
    case twinEventReceived r => exact of (settled (hearTwin_keeps _ (takeEvent_frame · r) (takeEvent_tables · r))) rfl
    case twinHeartbeatReceived n b =>
      exact of (settled (hearTwin_keeps _ (takeHeartbeat_frame · b) (takeHeartbeat_tables · b))) rfl
    case twinReceiverSilenceExpiry cs =>
      exact of (settled ⟨id, fun h => { h with }⟩ : Keeps s (s.settle.mapTwin fun t => (t.receive cs).silence)) rfl
    case twinFrameDiscarded w => exact of (settled (.of_frame (twinBadFrame_frame _))) rfl
    case outputFrameEvent => exact of (settled (frameEvent_keeps _)) rfl
    case cameraFrame n v => exact of (settled (cameraFrame_keeps _ n v)) rfl
    case inputSignalTimeout n => exact of (settled (signalTimeout_keeps _ n)) rfl
    case saveCopyFrame => exact of (settled (.of_frame (copyFrame_frame _))) rfl
    all_goals exact of (perform_keeps s _) rfl

theorem step_keeps {s t : State} (h : step s = .next t) : Keeps s t := by
  unfold step at h
  split at h
  · next c rest _ =>
    exact Keeps.trans (t := { s with pending := rest }) ⟨id, fun h => { h with }⟩ (exec_keeps h)
  · cases h
    exact whenIdle_keeps s

end Sys2Proof.Machine

namespace Sys2Proof

open Machine

/-- Settles O12: each link operation keeps a link well formed, every other operation only raises conditions, and no
operation changes the size of a fixed table or lets a counter pass its 48 bits. -/
theorem everyStepKeepsTheLinksAndTables : Obligations.EveryStepKeepsTheLinksAndTables :=
  ⟨fun _ _ hs h => (step_keeps h).links hs, fun _ _ hs h => (step_keeps h).tables hs⟩

end Sys2Proof
end

section
namespace Sys2Proof.Machine

set_option Elab.async false

/-! ## The reset state -/

theorem reset_zonesWf : State.reset.zonesWf where
  ids := .nil
  small := by simp [State.reset, State.atPowerOn, Canvas.reset]
  arb := by simp [State.reset, State.atPowerOn, Canvas.reset]
  awaiting := by simp [State.reset, State.atPowerOn, Canvas.reset]

/-! ## Occurrences, case by case -/

/-- The table of R12 with the saturation of its count written as a case. -/
theorem occur_eq (e : CondEntry) (d : Detail) : e.occur d =
    if e.pending = false then ⟨true, 1, d, d⟩
    else if e.count < 255 then ⟨true, e.count + 1, e.first, d⟩
    else { e with count := min e.count 255, latest := d } := by
  unfold CondEntry.occur
  cases hp : e.pending
  · rfl
  · simp only [if_true, Bool.true_eq_false, if_false]
    split
    · next hc => rw [Nat.min_eq_right hc]
    · next hc => rw [Nat.min_eq_left (by omega), Nat.min_eq_right (by omega)]

/-- A notice joins exactly where the kind was not pending and is subscribed (R13). -/
theorem notices_occur (l : LinkState) (c : Cond) (d : Detail) : (l.occur c d).notices =
    if (l.entry c).pending = false ∧ c.code ∈ l.subs then l.notices ++ [⟨c, d⟩] else l.notices := by
  unfold LinkState.occur
  cases (l.entry c).pending <;> simp

/-! ## Owners as they answer -/

/-- An offered record of a kind that any link may carry and no follower refuses: its owner answers where the body fits, and
MALFORMED stands where it does not (tests 1 to 4 of R7). -/
theorem linkRefusal_linkInfo (h : Hdr) (s : State) :
    s.linkRefusal h.link 0x01 (some 0) (h.fits && true) =
      if h.fits = true ∧ s.bodyEmpty h.link = true then none else some .malformed := by
  have hp : kindPermit 0x01 = some .either := by decide
  have hc : changingKinds.contains 0x01 = false := by decide
  have hb : (s.link h.link).lengthFits (some 0) = s.bodyEmpty h.link := by
    unfold LinkState.lengthFits State.bodyEmpty
    cases (s.link h.link).inbound with
    | nil => rfl
    | cons r rest => cases hr : r.body <;> simp [hr]
  unfold State.linkRefusal
  rw [hp, hc, hb]
  cases h.fits <;> cases s.bodyEmpty h.link <;> simp [permitted]

theorem slotPostOwner_eq (link : Link) (text : Text) (s : State) :
    slotPostOwner link text s =
      if textOk 1 64 text = false then s.refuse .range
      else if (s.slot (slotFrom link)).isSome then s.refuse .full
      else ((s.setSlot (slotFrom link) (some text)).raise .slotPosted (.slot (slotFrom link) text.length)).ok := by
  unfold slotPostOwner
  simp only [tests_cons, tests_nil]
  cases textOk 1 64 text <;> rfl

/-- A text outside 1..64 characters of 0x20..0x7E (00_scope.md 5.2). -/
theorem textOk_eq_false (lo hi : Nat) (t : Text) : textOk lo hi t = false ↔
    t.length < lo ∨ hi < t.length ∨ t.any (fun c => c.toNat < 0x20 || 0x7E < c.toNat) = true := by
  have hc : charsOk t = !t.any (fun c => c.toNat < 0x20 || 0x7E < c.toNat) := by
    unfold charsOk
    rw [List.not_any_eq_all_not]
    congr 1
    funext c
    rw [Bool.eq_iff_iff]
    simp
  unfold textOk
  rw [hc]
  cases t.any (fun c => c.toNat < 0x20 || 0x7E < c.toNat) <;> simp
  omega

/-! ## In FINAL -/

/-- An owner whose first test finds the session FINAL refuses an admitted record, unless its counts are outside their sets
(R7, R52). -/
theorem take_closed {h : Hdr} {kind : Nat} {s : State} (ha : s.admits h kind = true) {shape : Bool}
    {owner : State → Answered} (ho : owner s = s.refuse .closed) :
    s.take h kind shape owner = s.replied h kind (if !shape then .malformed else .closed) .none := by
  have hk : ((owner s).1.link h.link).replies = (s.link h.link).replies := by rw [ho]; rfl
  cases shape
  · exact take_malformed ha owner hk
  · rw [take_admitted ha owner hk, ho]
    rfl

/-- Tests that begin with the test of R52 refuse in FINAL. -/
theorem tests_closed {s : State} {c : Bool} (hc : c = true) (checks : List (Bool × Status)) (accept : State → Answered) :
    s.tests ((c, .closed) :: checks) accept = s.refuse .closed := by rw [tests_cons, hc, if_pos rfl]

theorem not_teamFieldsAny (f : TeamFields) :
    (!teamFieldsAny f) = (f.name.isNone && f.timeouts.isNone && f.fouls.isNone && f.possession.isNone) := by
  simp [teamFieldsAny]

/-- The count of a list is not its length, or above the greatest (test 4 of R7). -/
theorem not_counted (count length top : Nat) :
    (!(count == length && decide (count ≤ top))) = decide (count ≠ length ∨ top < count) := by
  rw [Bool.eq_iff_iff]
  simp only [Bool.not_eq_true', Bool.and_eq_false_iff, beq_eq_false_iff_ne, decide_eq_false_iff_not, decide_eq_true_eq]
  omega

/-- A record that its owner refuses CLOSED, but for a shape that is not its kind's. -/
theorem closed_of_take {c : Instr} {h : Hdr} {kind : Nat} {s : State} {shape unfit : Bool} {owner : State → Answered}
    (ha : s.admits h kind = true) (he : exec c s = .next (s.take h kind shape owner)) (ho : owner s = s.refuse .closed)
    (hs : (!shape) = unfit) : exec c s = .next (s.replied h kind (if unfit then .malformed else .closed) .none) := by
  rw [he, take_closed ha ho, hs]

end Sys2Proof.Machine

namespace Sys2Proof

open Machine

/-- Settles O14. -/
theorem resetMeetsTheInvariants : Obligations.ResetMeetsTheInvariants :=
  ⟨atPowerOn_links _ _ _ _, reset_zonesWf, atPowerOn_tables _ _ _ _⟩

/-- Settles O10: power-on builds the state afresh, and every value listed is a field of the reset state. -/
theorem powerOnStartsAfresh : Obligations.PowerOnStartsAfresh := by
  refine ⟨fun a b level s => ?_, fun link => ?_, by decide, by decide, by decide, by decide, ?_, by decide, ?_, ?_, by decide⟩
  · cases level <;> rfl
  · cases link <;> exact ⟨rfl, rfl, rfl, rfl, rfl, rfl, rfl⟩
  · refine ⟨rfl, rfl, rfl, rfl, rfl, rfl, rfl, fun x y => rfl, rfl, rfl, rfl, ?_⟩
    intro i hi
    rw [List.eq_of_mem_replicate (show i ∈ List.replicate 4 Input.reset from hi)]
    exact ⟨rfl, rfl, rfl, rfl⟩
  · refine ⟨rfl, rfl, fun ch => ?_⟩
    cases ch <;> exact ⟨rfl, rfl, rfl, rfl⟩
  · exact ⟨rfl, rfl⟩

/-- Settles O6. -/
theorem linkInfoReportsTheLink : Obligations.LinkInfoReportsTheLink := by
  intro h s ho
  have he : exec (.linkInfo h) s = .next (s.takeSized h 0x01 (some 0) true (linkInfoOwner h.link)) := rfl
  rw [he, takeSized_offered ho _ _ _ rfl, State.serve, linkRefusal_linkInfo h s]
  by_cases hf : h.fits = true ∧ s.bodyEmpty h.link = true
  · rw [if_pos hf, if_pos hf]
    rfl
  · rw [if_neg hf, if_neg hf]
    rfl

/-- Settles O7. -/
theorem subscribeAndConditionsActOnTheirLink : Obligations.SubscribeAndConditionsActOnTheirLink := by
  constructor
  · intro h count codes s ha
    have he : exec (.subscribe h count codes) s =
      .next (s.take h 0x02 (count == codes.length && count ≤ 20) (subscribeOwner h.link codes)) := rfl
    have hk := subscribeOwner_replies s h.link codes h.link
    rw [he]
    split
    · next hc =>
      have hshape : (count == codes.length && decide (count ≤ 20)) = false := by
        rw [← Bool.not_eq_true', not_counted, decide_eq_true hc]
      rw [hshape, take_malformed ha _ hk]
    · next hc =>
      have hshape : (count == codes.length && decide (count ≤ 20)) = true := by
        rw [← Bool.not_eq_false', not_counted, decide_eq_false hc]
      rw [hshape, take_admitted ha _ hk, subscribeOwner_eq]
      have hn : noRepeats codes = false ↔ ¬codes.Nodup := by simp [noRepeats]
      simp only [hn]
      split <;> rfl
  · intro h s ha
    have he : exec (.conditions h) s = .next (s.take h 0x03 true (conditionsOwner h.link)) := rfl
    rw [he, take_admitted ha _ (conditionsOwner_replies s h.link h.link)]
    rfl

/-- Settles O8. -/
theorem relaySlotsPassTexts : Obligations.RelaySlotsPassTexts := by
  constructor
  · intro h text s ha
    have he : exec (.slotPost h text) s = .next (s.take h 0x04 true (slotPostOwner h.link text)) := rfl
    have ht := textOk_eq_false 1 64 text
    rw [Nat.lt_one_iff] at ht
    rw [he, take_admitted ha _ (slotPostOwner_replies s h.link text h.link), slotPostOwner_eq]
    simp only [ht]
    split
    · rfl
    · cases h.link
      · cases hs : s.slotToTable <;> simp [State.slot, slotFrom, hs] <;> rfl
      · cases hs : s.slotToProduction <;> simp [State.slot, slotFrom, hs] <;> rfl
  · intro h s ha
    have he : exec (.slotTake h) s = .next (s.take h 0x05 true (slotTakeOwner h.link)) := rfl
    rw [he, take_admitted ha _ (slotTakeOwner_replies s h.link h.link)]
    unfold slotTakeOwner
    cases h.link
    · cases hs : s.slotToProduction <;> simp [State.slot, slotToward, hs] <;> rfl
    · cases hs : s.slotToTable <;> simp [State.slot, slotToward, hs] <;> rfl

/-- Settles O9. -/
theorem conditionsAreRecordedOnBothLinks : Obligations.ConditionsAreRecordedOnBothLinks := by
  intro c d s hl
  refine ⟨fun link => ⟨?_, ?_, ?_⟩, raise_frame s c d⟩
  · rw [raise_link, ← occur_eq]
    rfl
  · rw [raise_link, occur_length, hl link]
  · rw [raise_link]
    exact congrArg (fun ns => { s.link link with table := ((s.link link).occur c d).table, notices := ns })
      (notices_occur (s.link link) c d)

/-- Settles O22. -/
theorem finalClosesTheRecord : Obligations.FinalClosesTheRecord := by
  intro c h kind s hc hk ho ha hf
  have final : (s.record.game.session == .final) = true := by rw [hf]; rfl
  cases c <;> first | (cases hc; done) | obtain ⟨rfl, rfl⟩ := Prod.mk.inj (Option.some.inj hc)
  case clockRules => exact closed_of_take ha rfl (tests_closed final _ _) rfl
  case clockStart => exact closed_of_take ha rfl (tests_closed final _ _) rfl
  case clockStop => exact closed_of_take ha rfl (tests_closed final _ _) rfl
  case clockSet => exact closed_of_take ha rfl (tests_closed final _ _) rfl
  case clockAdjust => exact closed_of_take ha rfl (tests_closed final _ _) rfl
  case playReset => exact closed_of_take ha rfl (tests_closed final _ _) rfl
  case playEnable => exact closed_of_take ha rfl (tests_closed final _ _) rfl
  case breakStart => exact closed_of_take ha rfl (tests_closed final _ _) rfl
  case breakCancel => exact closed_of_take ha rfl (tests_closed final _ _) rfl
  case gameFinal => exact closed_of_take ha rfl (tests_closed final _ _) rfl
  case nextPeriod => exact closed_of_take ha rfl (tests_closed final _ _) rfl
  case scoreAdd => exact closed_of_take ha rfl (tests_closed final _ _) rfl
  case scoreRevise => exact closed_of_take ha rfl (if_pos final) rfl
  case teamSet => exact closed_of_take ha rfl (tests_closed final _ _) (not_teamFieldsAny _)
  case fieldDefine => exact closed_of_take ha rfl (tests_closed final _ _) (not_counted _ _ 16)
  case fieldSet => exact closed_of_take ha rfl (tests_closed final _ _) rfl
  case recordConfig => exact closed_of_take ha rfl (tests_closed final _ _) rfl
  case gameOpen => exact absurd rfl ho
  all_goals exact absurd hk (by decide)

end Sys2Proof
end

section
namespace Sys2Proof.Machine

set_option Elab.async false

/-! ## The taking of a record, step by step -/

/-- The kind of a record command is a kind of Table 1-3. -/
theorem record_permit {c : Instr} {h : Hdr} {kind : Nat} (hc : c.record? = some (h, kind)) :
    ∃ p, kindPermit kind = some p := by
  have of {k : Nat} (hk : (kindPermit k).isSome = true) : ∃ p, kindPermit k = some p := Option.isSome_iff_exists.mp hk
  cases c <;> first | (cases hc; done) | (obtain ⟨rfl, rfl⟩ := Prod.mk.inj (Option.some.inj hc); exact of (by decide))

/-- The link's tests in their order (R7, R10, R11). -/
theorem linkRefusal_eq {kind : Nat} {p : Permit} (hp : kindPermit kind = some p) (link : Link) (len : Option Nat)
    (fits : Bool) (s : State) : s.linkRefusal link kind len fits =
      if permitted p link = false then some .notPermitted
      else if link = .table ∧ s.twin.state = .follower ∧ changingKinds.contains kind = true then some .notAuthority
      else if fits = false ∨ (s.link link).lengthFits len = false then some .malformed
      else none := by
  have hb : (!(fits && (s.link link).lengthFits len)) = true ↔ fits = false ∨ (s.link link).lengthFits len = false := by
    cases fits <;> simp
  have hn : (link == .table && s.twin.state == .follower && changingKinds.contains kind) = true ↔
      link = .table ∧ s.twin.state = .follower ∧ changingKinds.contains kind = true := by
    simp [and_assoc]
  unfold State.linkRefusal
  rw [hp]
  simp only [hb, hn, Bool.not_eq_true']

/-- An offered record that a test of its link refuses is answered with that status, and nothing else changes (R7, R8). -/
theorem takeSized_refused {h : Hdr} {kind : Nat} {s : State} (ho : s.offers h kind = true) {len : Option Nat}
    {shape : Bool} {owner : State → Answered} (hk : ((owner s).1.link h.link).replies = (s.link h.link).replies)
    {status : Status} (hr : s.linkRefusal h.link kind len (h.fits && shape) = some status) :
    s.takeSized h kind len shape owner = s.mapLink h.link fun l =>
      { l with
        inbound := l.inbound.tail
        replies := l.replies ++ [⟨h.tag, replyKind kind, status, .none⟩] } := by
  rw [takeSized_offered ho len shape owner hk]
  unfold State.serve
  rw [hr]
  rfl

/-- A record command whose record a test of its link refuses (R7, R8). -/
theorem exec_refused {c : Instr} {h : Hdr} {kind : Nat} {s : State} (hc : c.record? = some (h, kind))
    (ho : s.offers h kind = true) {status : Status}
    (hr : ∀ shape, s.linkRefusal h.link kind c.statedLength? (h.fits && shape) = some status) :
    exec c s = .next (s.replied h kind status .none) := by
  obtain ⟨shape, owner, ht, he⟩ := record_takenAs hc
  obtain ⟨p, hp⟩ := record_permit hc
  rw [he, takeSized_refused ho (ht.replies s _) (hr shape), replyKind_of_permit (by rw [hp]; rfl)]
  rfl

/-- With nothing due, a record that its link does not take leaves the state as it is (R6, R7). -/
theorem takeSized_none {h : Hdr} {kind : Nat} {s : State} (hd : s.due = []) (ht : 1 ≤ h.tag) {len : Option Nat}
    (hp : (s.link h.link).present h.tag kind len = none) (shape : Bool) (owner : State → Answered) :
    s.takeSized h kind len shape owner = s := by
  unfold State.takeSized
  dsimp only
  rw [settle_of_due_nil s hd, if_neg (by omega), hp]

/-- With nothing due, a record that its link takes is served and answered (R5, R7). -/
theorem takeSized_some {h : Hdr} {kind : Nat} {s : State} (hd : s.due = []) (ht : 1 ≤ h.tag) {len : Option Nat}
    {l : LinkState} (hp : (s.link h.link).present h.tag kind len = some l) (shape : Bool) (owner : State → Answered) :
    let a := (s.mapLink h.link fun _ => l).serve h.link kind len (h.fits && shape) owner
    s.takeSized h kind len shape owner =
      a.1.mapLink h.link (LinkState.answer ⟨h.tag, replyKind kind, a.2.1, a.2.2⟩) := by
  unfold State.takeSized
  dsimp only
  rw [settle_of_due_nil s hd, if_neg (by omega), hp]

/-- No record is taken while a reply waits, or while another record is the head (R6, R7). -/
theorem present_eq_none {l : LinkState} {tag kind : Nat} (len : Option Nat)
    (h : l.waiting.isSome = true ∨ l.inbound.head?.any (fun r => r.tag != tag || r.kind != kind) = true) :
    l.present tag kind len = none := by
  unfold LinkState.present
  split
  · rfl
  · next hw =>
    have h := h.resolve_left hw
    cases hi : l.inbound with
    | nil => simp [hi] at h
    | cons r rest =>
      refine if_neg fun heq => ?_
      simp [hi, heq.1, heq.2] at h

/-- A record that arrives at an empty queue is its head (R5). -/
theorem present_empty {l : LinkState} (hw : l.waiting = none) (hi : l.inbound = []) (tag kind : Nat) (len : Option Nat) :
    let m : LinkState := { l with inbound := [⟨tag, kind, List.replicate (len.getD 0) 0⟩] }
    l.present tag kind len = some m ∧ m.present tag kind len = some m := by
  constructor
  · simp [LinkState.present, hw, hi]
  · simp [LinkState.present, hw]

/-- A reply that finds the reply list full waits, and its record stays at the head (R6). -/
theorem takeSized_waits {h : Hdr} {kind : Nat} {s : State} (hd : s.due = []) (ht : 1 ≤ h.tag)
    (hw : (s.link h.link).waiting = none) (hr : (s.link h.link).replies.length = 16)
    (hh : (s.link h.link).inbound.head?.any (fun r => r.tag == h.tag && r.kind == kind) = true) (len : Option Nat)
    (shape : Bool) {owner : State → Answered} (ho : Tame owner) :
    ∃ r : Reply, r.tag = h.tag ∧ r.kind = replyKind kind ∧
      ((s.takeSized h kind len shape owner).link h.link).waiting = some r ∧
      ((s.takeSized h kind len shape owner).link h.link).inbound = (s.link h.link).inbound ∧
      ((s.takeSized h kind len shape owner).link h.link).replies = (s.link h.link).replies := by
  have hm : (s.mapLink h.link fun _ => s.link h.link) = s := mapLink_id _ _ _ rfl
  rw [takeSized_some hd ht (present_of_head len hw hh), hm]
  obtain ⟨-, hq⟩ := serve_keeps s ho h.link kind len (h.fits && shape)
  obtain ⟨hi, -, hp⟩ := hq h.link
  rw [mapLink_link, LinkState.answer, if_neg (by rw [hp]; omega)]
  exact ⟨_, rfl, rfl, rfl, hi, hp⟩

end Sys2Proof.Machine

namespace Sys2Proof

open Machine

/-- Settles O5: the link's tests decide before any owner, and the owners leave the link's queues alone. -/
theorem recordsAreTakenAndTested : Obligations.RecordsAreTakenAndTested := by
  refine ⟨⟨fun link tag kind s ho hk => ?_, fun c h kind s hc ho => ?_⟩, fun c h kind s hc hd ht _ => ?_⟩
  · have he : exec (.unknownKindRecord link tag kind) s =
        .next (s.take ⟨link, tag, true⟩ kind true fun s => s.refuse .unknownKind) := by
      simp only [exec, execUnknownKindRecord, hk]
      rfl
    rw [he, State.take, takeSized_refused ho rfl (by unfold State.linkRefusal; rw [hk])]
    rfl
  · obtain ⟨p, hp⟩ := record_permit hc
    refine ⟨fun hn => ?_, fun hy hl hf hch => ?_, fun ha hm => ?_⟩
    · refine exec_refused hc ho fun shape => ?_
      rw [hp, Option.any_some] at hn
      rw [linkRefusal_eq hp, if_pos hn]
    · refine exec_refused hc ho fun shape => ?_
      rw [hp, Option.any_some] at hy
      rw [linkRefusal_eq hp, if_neg (by simp [hy]), if_pos ⟨hl, hf, hch⟩]
    · refine exec_refused hc ho fun shape => ?_
      simp only [State.allows, hp, Option.any_some, Bool.and_eq_true, Bool.not_eq_true'] at ha
      obtain ⟨hy, hn⟩ := ha
      rw [linkRefusal_eq hp, if_neg (by simp [hy]), if_neg (by simpa [and_assoc] using hn), if_pos]
      exact hm.imp_left fun hf => by rw [hf]; rfl
  · obtain ⟨shape, owner, tame, he⟩ := record_takenAs hc
    obtain ⟨p, hp⟩ := record_permit hc
    refine ⟨fun hw hr hh => ?_, fun hw => ?_, fun hh => ?_, fun hw hi => ?_⟩
    · obtain ⟨r, h1, h2, h3⟩ := takeSized_waits hd ht hw hr hh c.statedLength? shape tame
      exact ⟨_, r, he s, h1, h2.trans (replyKind_of_permit (by rw [hp]; rfl)), h3⟩
    · rw [he, takeSized_none hd ht (present_eq_none _ (.inl hw))]
    · rw [he, takeSized_none hd ht (present_eq_none _ (.inr hh))]
    · obtain ⟨h1, h2⟩ := present_empty hw hi h.tag kind c.statedLength?
      rw [he, he, takeSized_some hd ht h1, takeSized_some (by rw [mapLink_due, hd]) ht (by rw [mapLink_link]; exact h2),
        mapLink_mapLink]
      rfl

end Sys2Proof
end

section
namespace Sys2Proof.Machine

set_option Elab.async false

/-! ## Numbers in bytes -/

theorem toNat_ofNat_byte {n : Nat} (h : n ≤ 255) : (BitVec.ofNat 8 n).toNat = n := by
  rw [BitVec.toNat_ofNat]
  exact Nat.mod_eq_of_lt (by omega)

theorem bytesBE_one (n : Nat) : bytesBE 1 n = [BitVec.ofNat 8 n] := by simp [bytesBE]

theorem bytesBE_two (n : Nat) : bytesBE 2 n = [BitVec.ofNat 8 (n / 256), BitVec.ofNat 8 n] := by simp [bytesBE]

theorem natBE_one (a : Byte) : natBE [a] = a.toNat := by simp [natBE]

theorem natBE_two (a b : Byte) : natBE [a, b] = a.toNat * 256 + b.toNat := by simp [natBE]

theorem natBE_bytesBE_two {n : Nat} (h : n < 65536) :
    (BitVec.ofNat 8 (n / 256)).toNat * 256 + (BitVec.ofNat 8 n).toNat = n := by
  simp only [BitVec.toNat_ofNat]
  omega

/-! ## The receiver over a run of bytes (R3) -/

theorem keptBytes_onLine (bytes : List Byte) : keptBytes (onLine bytes) = bytes := by
  simp [keptBytes, onLine, List.filter_map, Function.comp_def]

theorem keptBytes_append (a b : List LineChar) : keptBytes (a ++ b) = keptBytes a ++ keptBytes b := by
  simp [keptBytes]

theorem keptBytes_filter (cs : List LineChar) : keptBytes (cs.filter (·.stopBit)) = keptBytes cs := by
  simp [keptBytes]

/-- The bytes of runs that arrive one after another are taken as one run. -/
theorem receive_append (a b : List LineChar) (l : LinkState) : l.receive (a ++ b) = (l.receive a).receive b := by
  simp [LinkState.receive, keptBytes_append]

/-- A byte that completes nothing moves the receiver on. -/
theorem receiveByte_of_quiet {l : LinkState} {b : Byte} {rx : Rx} (h : l.rx.take b = (rx, .quiet)) :
    l.receiveByte b = { l with rx := rx } := by
  unfold LinkState.receiveByte
  rw [h]

/-- In HUNT a byte that is not SYNC is discarded. -/
theorem receiveByte_hunt {l : LinkState} (h : l.rx = .hunt) {b : Byte} (hb : b ≠ sync) : l.receiveByte b = l := by
  rw [receiveByte_of_quiet (rx := .hunt) (by rw [h]; simp [Rx.take, hb]), ← h]

theorem receiveByte_sync {l : LinkState} (h : l.rx = .hunt) : l.receiveByte sync = { l with rx := .header [] } :=
  receiveByte_of_quiet (by rw [h]; simp [Rx.take])

theorem receive_hunt {l : LinkState} (h : l.rx = .hunt) {cs : List LineChar} (hc : ∀ c ∈ cs, c.byte ≠ sync) :
    l.receive cs = l := by
  have hb : ∀ b ∈ keptBytes cs, b ≠ sync := by
    intro b hb
    simp only [keptBytes, List.mem_map, List.mem_filter] at hb
    obtain ⟨c, ⟨hm, -⟩, rfl⟩ := hb
    exact hc c hm
  unfold LinkState.receive
  revert hb
  generalize keptBytes cs = bytes
  intro hb
  induction bytes with
  | nil => rfl
  | cons b bs ih =>
    rw [List.foldl_cons, receiveByte_hunt h (hb b (by simp))]
    exact ih fun x hx => hb x (by simp [hx])

/-- The two bytes of a LEN above 1,024 end the frame at once (R3, R4). -/
theorem receive_oversized {l : LinkState} (h : l.rx = .hunt) {a b : Byte} (hn : 1024 < a.toNat * 256 + b.toNat) :
    [sync, a, b].foldl LinkState.receiveByte l = l.badFrame := by
  rw [List.foldl_cons, receiveByte_sync h, List.foldl_cons, receiveByte_of_quiet (rx := .header [a]) (by simp [Rx.take])]
  simp [LinkState.receiveByte, Rx.take, natBE_two, hn, ← h, LinkState.badFrame]

/-- The four bytes after SYNC give LEN, TAG and KIND (R3). -/
theorem receive_header {l : LinkState} (h : l.rx = .hunt) {a b t k : Byte} (hn : a.toNat * 256 + b.toNat ≤ 1024) :
    [sync, a, b, t, k].foldl LinkState.receiveByte l =
      { l with rx := .body (a.toNat * 256 + b.toNat) t.toNat k.toNat [] } := by
  rw [List.foldl_cons, receiveByte_sync h, List.foldl_cons, receiveByte_of_quiet (rx := .header [a]) (by simp [Rx.take]),
    List.foldl_cons, receiveByte_of_quiet (rx := .header [a, b]) (by simp [Rx.take, natBE_two, hn]),
    List.foldl_cons, receiveByte_of_quiet (rx := .header [a, b, t]) (by simp [Rx.take]),
    List.foldl_cons, receiveByte_of_quiet (rx := .body (natBE [a, b]) (natBE [t]) (natBE [k]) []) (by simp [Rx.take]),
    natBE_two, natBE_one, natBE_one]
  rfl

/-- In BODY the receiver gathers bytes up to the last of CHECK, which completes the frame (R3). -/
theorem receive_body (len tag kind : Nat) (bytes : List Byte) : ∀ (got : List Byte) (l : LinkState),
    l.rx = .body len tag kind got → bytes ≠ [] → got.length + bytes.length = len + 2 →
    bytes.foldl LinkState.receiveByte l =
      ({ l with rx := .hunt } : LinkState).complete len tag kind (got ++ bytes) := by
  induction bytes with
  | nil => exact fun _ _ _ hne => absurd rfl hne
  | cons b bytes ih =>
    intro got l hrx _ hlen
    rw [List.length_cons] at hlen
    rw [List.foldl_cons]
    cases bytes with
    | nil =>
      have hfull : len + 2 ≤ (got ++ [b]).length := by
        simp only [List.length_append, List.length_cons, List.length_nil] at hlen ⊢
        omega
      simp only [LinkState.receiveByte, hrx, Rx.take, ge_iff_le, hfull, if_true, List.foldl_nil]
    | cons c rest =>
      have hopen : ¬len + 2 ≤ (got ++ [b]).length := by
        simp only [List.length_append, List.length_cons, List.length_nil] at hlen ⊢
        omega
      rw [receiveByte_of_quiet (rx := .body len tag kind (got ++ [b])) (by
          rw [hrx]
          simp only [Rx.take, ge_iff_le, hopen, if_false]),
        ih (got ++ [b]) _ rfl (by simp) (by simp only [List.length_append, List.length_cons, List.length_nil] at hlen ⊢; omega)]
      simp

/-- A whole frame: its two CHECK bytes decide whether its record arrives or the frame is bad (R2 to R4). -/
theorem receive_frame {l : LinkState} (h : l.rx = .hunt) {tag kind : Nat} (ht : tag ≤ 255) (hk : kind ≤ 255)
    {body : List Byte} (hb : body.length ≤ 1024) (c1 c2 : Byte) :
    l.receive (onLine (sync :: checkedBytes tag kind body ++ [c1, c2])) =
      if c1.toNat * 256 + c2.toNat = (crc16 (checkedBytes tag kind body)).toNat then l.arrive tag kind body
      else l.badFrame := by
  have hlen := natBE_bytesBE_two (n := body.length) (by omega)
  have hframe : sync :: checkedBytes tag kind body ++ [c1, c2] =
      [sync, BitVec.ofNat 8 (body.length / 256), BitVec.ofNat 8 body.length, BitVec.ofNat 8 tag, BitVec.ofNat 8 kind] ++
        (body ++ [c1, c2]) := by
    simp [checkedBytes, bytesBE_one, bytesBE_two]
  unfold LinkState.receive
  rw [keptBytes_onLine, hframe, List.foldl_append, receive_header h (by omega), hlen, toNat_ofNat_byte ht,
    toNat_ofNat_byte hk, receive_body _ _ _ _ [] _ rfl (by simp) (by simp)]
  have hl : ({ l with rx := .hunt } : LinkState) = l := by rw [← h]
  have hcheck : checkOk body.length tag kind (body ++ [c1, c2]) =
      decide (c1.toNat * 256 + c2.toNat = (crc16 (checkedBytes tag kind body)).toNat) := by
    simp [checkOk, natBE_two, beq_eq_decide]
  unfold LinkState.complete
  rw [List.nil_append, hl, hcheck]
  simp

/-- A frame whose CHECK is right delivers its record (R2, R3). -/
theorem receive_frameBytes {l : LinkState} (h : l.rx = .hunt) {tag kind : Nat} (ht : tag ≤ 255) (hk : kind ≤ 255)
    {body : List Byte} (hb : body.length ≤ 1024) : l.receive (onLine (frameBytes tag kind body)) = l.arrive tag kind body := by
  have hc := natBE_bytesBE_two (BitVec.isLt (crc16 (checkedBytes tag kind body)))
  unfold frameBytes
  rw [bytesBE_two, receive_frame h ht hk hb, if_pos hc]

theorem immediate_eq (r : Reply) (l : LinkState) : l.immediate r =
    if 16 ≤ l.replies.length then l.badFrame else { l with replies := l.replies ++ [r] } := by
  unfold LinkState.immediate
  by_cases h : l.replies.length < 16
  · rw [if_pos h, if_neg (by omega)]
  · rw [if_neg h, if_pos (by omega)]

/-- Where the record of a good frame goes (R5, R6). -/
theorem arrive_eq (tag kind : Nat) (body : List Byte) (l : LinkState) : l.arrive tag kind body =
    if 1 ≤ tag ∧ l.inbound.length < 8 then { l with inbound := l.inbound ++ [⟨tag, kind, body⟩] }
    else if 16 ≤ l.replies.length then l.badFrame
    else if tag = 0 then { l with replies := l.replies ++ [⟨0, 0xFF, .malformed, .none⟩] }
    else { l with replies := l.replies ++ [⟨tag, replyKind kind, .full, .none⟩] } := by
  unfold LinkState.arrive
  rw [immediate_eq, immediate_eq]
  by_cases ht : tag = 0
  · rw [if_pos ht, if_neg (show ¬(1 ≤ tag ∧ _) from fun h => by omega), if_pos ht]
  · by_cases hi : l.inbound.length < 8
    · rw [if_neg ht, if_neg (by omega), if_pos ⟨by omega, hi⟩]
    · rw [if_neg ht, if_pos (by omega), if_neg (show ¬(_ ∧ _) from fun h => hi h.2), if_neg ht]

/-! ## The transmitter (R6, R9) -/

theorem transmit_waiting (l : LinkState) : l.transmit.waiting = l.waiting := by
  unfold LinkState.transmit
  split <;> rfl

theorem transmit_replies (l : LinkState) : l.transmit.replies = l.replies.tail := by
  unfold LinkState.transmit
  split <;> simp_all

/-- A reply that waits is due a place once the transmitter has made one (R6). -/
theorem transmitOn_eq (link : Link) {s : State} (hd : s.due = []) : s.transmitOn link =
    { s.mapLink link LinkState.transmit with
      due := if (s.link link).waiting.isSome ∧ (s.link link).replies.length ≤ 16 then [.replyPlace link] else [] } := by
  have hc : ((s.link link).waiting.isSome && decide ((s.link link).replies.tail.length < 16)) = true ↔
      (s.link link).waiting.isSome ∧ (s.link link).replies.length ≤ 16 := by
    rw [Bool.and_eq_true, decide_eq_true_eq, List.length_tail]
    refine and_congr_right fun _ => ?_
    omega
  unfold State.transmitOn State.addDueIf State.addDue
  dsimp only
  rw [mapLink_link, transmit_waiting, transmit_replies, mapLink_due, hd]
  simp only [hc]
  split
  · rfl
  · cases link <;> simp [State.mapLink, hd]

theorem placeWaiting_of_free {l : LinkState} {r : Reply} (hw : l.waiting = some r) (hr : l.replies.length < 16) :
    l.placeWaiting = { l with waiting := none, replies := l.replies ++ [r], inbound := l.inbound.tail } := by
  unfold LinkState.placeWaiting LinkState.answer
  rw [hw]
  simp only [hr, if_true]

/-- An event command carries out the first due event where that is its own (log 2). -/
theorem perform_head {p : DueEvent → Bool} {e : DueEvent} {rest : List DueEvent} {s : State} (hd : s.due = e :: rest)
    (hp : p e = true) : s.perform p = ({ s with due := rest } : State).runDue e := by
  unfold State.perform
  rw [hd, List.find?_cons_of_pos hp]
  simp

end Sys2Proof.Machine

namespace Sys2Proof

open Machine

/-- Settles O4: the receiver is followed byte by byte over a frame, and the transmitter's turn is one case of its lists. -/
theorem linksReceiveAndTransmit : Obligations.LinksReceiveAndTransmit := by
  have received (link : Link) (cs : List LineChar) (s : State) :
      exec (.frameReceived link cs) s = .next (s.settle.mapLink link (LinkState.receive cs)) := rfl
  have mapped (link : Link) {s : State} (hd : s.due = []) {f g : LinkState → LinkState}
      (h : f (s.link link) = g (s.link link)) : s.settle.mapLink link f = s.mapLink link g := by
    rw [settle_of_due_nil s hd]
    cases link
    · exact congrArg (fun l => { s with production := l }) h
    · exact congrArg (fun l => { s with table := l }) h
  refine ⟨fun link tag kind body s hd ht hk hb hr => ?_, ⟨fun link tag kind body c1 c2 s hd ht hk hb hr hc => ?_,
    fun link len s hd hlo hhi hr => ?_, fun link s hd hr => ?_, fun link s hd hr => ?_⟩,
    ⟨fun link a b s t ht => ?_, fun link cs s => ?_, fun link cs s hd hr hc => ?_⟩,
    fun link s hd => ?_, fun link r rest s hd hw hr => ?_⟩
  · rw [received]
    refine congrArg _ (mapped link hd ?_)
    rw [receive_frameBytes hr ht hk hb, arrive_eq]
    rfl
  · rw [received]
    refine congrArg _ (mapped link hd ?_)
    rw [receive_frame hr ht hk hb, if_neg hc]
    rfl
  · refine congrArg Host.Outcome.next (mapped link hd ?_)
    have hn := natBE_bytesBE_two (n := len) (by omega)
    show (s.link link).receive (onLine (sync :: bytesBE 2 len)) = _
    rw [bytesBE_two, LinkState.receive, keptBytes_onLine, receive_oversized hr (by omega)]
    rfl
  · refine congrArg Host.Outcome.next (mapped link hd ?_)
    unfold LinkState.silence
    split
    · next hh => exact absurd hh hr
    · rfl
  · refine congrArg Host.Outcome.next ((mapped link hd (g := id) ?_).trans (mapLink_id _ _ _ rfl))
    unfold LinkState.silence
    rw [hr]
    rfl
  · rw [received] at ht
    cases ht
    rw [received, received, settle_of_due_nil (s.settle.mapLink link _) (by simp), mapLink_mapLink]
    refine congrArg (fun f => Host.Outcome.next (s.settle.mapLink link f)) ?_
    funext l
    exact receive_append a b l
  · rw [received, received]
    refine congrArg (fun f => Host.Outcome.next (s.settle.mapLink link f)) ?_
    funext l
    unfold LinkState.receive
    rw [keptBytes_filter]
  · rw [received, mapped link hd (g := id) (receive_hunt hr hc), mapLink_id _ _ _ rfl]
  · have he : exec (.frameTransmit link) s = .next (s.settle.transmitOn link) := rfl
    rw [he, settle_of_due_nil s hd, transmitOn_eq link hd]
    rfl
  · have he : exec (.replyPlaceFreed link) s = .next (s.perform fun e => e == .replyPlace link) := rfl
    rw [he, perform_head hd (by simp)]
    refine congrArg Host.Outcome.next ?_
    show ({ s with due := rest } : State).mapLink link LinkState.placeWaiting = _
    cases link
    · exact congrArg (fun l => ({ s with due := rest, production := l } : State)) (placeWaiting_of_free hw hr)
    · exact congrArg (fun l => ({ s with due := rest, table := l } : State)) (placeWaiting_of_free hw hr)

end Sys2Proof
end

section
namespace Sys2Proof.Machine

set_option Elab.async false

/-! ## One level of a zone's arbitration state -/

/-- What a zone's arbitration state holds of one level: its pending request, its takeover in service, and whether that is
yielded. -/
def ZoneArb.level (a : ZoneArb) (l : Nat) : Option PendingReq × Option InService × Bool :=
  (a.pendingAt l, a.serviceAt l, a.yielded.contains l)

theorem find_insertPending (r : PendingReq) (l : Nat) (qs : List PendingReq) :
    (insertPending r qs).find? (·.level == l) = if r.level = l then some r else qs.find? (·.level == l) := by
  induction qs with
  | nil => by_cases h : r.level = l <;> simp [insertPending, h]
  | cons q qs ih =>
    unfold insertPending
    by_cases h : r.level = l
    · rw [if_pos h]
      split
      · simp [h]
      · split
        · simp [h]
        · next h1 h2 =>
          rw [List.find?_cons_of_neg (by simp; omega), ih, if_pos h]
    · rw [if_neg h]
      split
      · rw [List.find?_cons_of_neg (by simpa using h)]
      · split
        · next h2 => rw [List.find?_cons_of_neg (by simpa using h), List.find?_cons_of_neg (by simp; omega)]
        · simp only [List.find?_cons, ih, if_neg h]

theorem find_insertService (t : InService) (l : Nat) (us : List InService) :
    (insertService t us).find? (·.level == l) = if t.level = l then some t else us.find? (·.level == l) := by
  induction us with
  | nil => by_cases h : t.level = l <;> simp [insertService, h]
  | cons u us ih =>
    unfold insertService
    by_cases h : t.level = l
    · rw [if_pos h]
      split
      · simp [h]
      · split
        · simp [h]
        · next h1 h2 =>
          rw [List.find?_cons_of_neg (by simp; omega), ih, if_pos h]
    · rw [if_neg h]
      split
      · rw [List.find?_cons_of_neg (by simpa using h)]
      · split
        · next h2 => rw [List.find?_cons_of_neg (by simpa using h), List.find?_cons_of_neg (by simp; omega)]
        · simp only [List.find?_cons, ih, if_neg h]

/-- Taking one level's entries out leaves every other level's first entry, and none of its own. -/
theorem find_filter_level {α : Type} (f : α → Nat) (m l : Nat) (xs : List α) :
    (xs.filter (f · != m)).find? (f · == l) = if l = m then none else xs.find? (f · == l) := by
  rw [List.find?_filter]
  split
  · next h => simp [h]
  · next h =>
    congr 1
    funext x
    by_cases hx : f x = l
    · simp [hx, h]
    · simp [hx]

theorem contains_filter_ne (m l : Nat) (xs : List Nat) :
    (xs.filter (· != m)).contains l = (decide (l ≠ m) && xs.contains l) := by
  rw [Bool.eq_iff_iff]
  simp [and_comm]

section
variable (a : ZoneArb) (l : Nat)

theorem level_remove (m : Nat) : (a.remove m).level l = if l = m then (none, none, false) else a.level l := by
  unfold ZoneArb.level ZoneArb.remove ZoneArb.pendingAt ZoneArb.serviceAt
  simp only [find_filter_level, contains_filter_ne]
  split <;> simp_all

theorem level_grant (r : PendingReq) (frame : Nat) : (a.grant r frame).level l =
    if l = r.level then (none, some ⟨r.level, r.content, r.frames, frame, 0, r.credit, 0⟩, false) else a.level l := by
  unfold ZoneArb.level ZoneArb.grant ZoneArb.pendingAt ZoneArb.serviceAt
  simp only [find_filter_level, find_insertService, contains_filter_ne]
  by_cases h : l = r.level
  · simp [h]
  · simp [h, Ne.symm h]

theorem level_record (r : Request) : (a.record r).level l =
    if l = r.level then (some ⟨r.level, r.content, r.frames, r.credit, a.nextArrival⟩, a.serviceAt l, a.yielded.contains l)
    else a.level l := by
  unfold ZoneArb.level ZoneArb.record ZoneArb.pendingAt ZoneArb.serviceAt
  simp only [find_insertPending]
  by_cases h : l = r.level
  · simp [h]
  · simp [h, Ne.symm h]

/-- Nothing stands at a level exactly where it is neither pending nor in service. -/
theorem standing_eq_none : a.standing l = none ↔ a.pendingAt l = none ∧ a.serviceAt l = none := by
  unfold ZoneArb.standing
  cases a.serviceAt l <;> simp

theorem standing_isSome : (a.standing l).isSome = true ↔ (a.pendingAt l).isSome = true ∨ (a.serviceAt l).isSome = true := by
  unfold ZoneArb.standing
  cases a.serviceAt l <;> simp

end

/-- The request an evaluation grants is the one pending at its level (R108). -/
theorem pendingAt_of_nextGrant {run : RunState} {z : Zone} {r : PendingReq} (h : z.nextGrant run = some r) :
    z.arb.pendingAt r.level = some r := by
  unfold Zone.nextGrant at h
  unfold ZoneArb.pendingAt
  generalize z.arb.pending = qs at h
  induction qs with
  | nil => cases h
  | cons q qs ih =>
    rw [List.find?_cons] at h ⊢
    split at h
    · cases h
      simp
    · next hq =>
      have hr : z.grantable run r.level = true := by simpa using List.find?_some h
      have hne : q.level ≠ r.level := fun he => by simp [he, hr] at hq
      rw [show (q.level == r.level) = false by simpa using hne]
      exact ih h

/-! ## Zones found by id -/

section
variable (s : State)

theorem zone_spec_id {s : State} {k : Nat} {z : Zone} (h : s.zone? k = some z) : z.spec.id = k := by
  simpa using List.find?_some h

theorem zone_mem {s : State} {k : Nat} {z : Zone} (h : s.zone? k = some z) : z ∈ s.canvas.zones := List.mem_of_find?_eq_some h

/-- What the updates of a zone that keep its id make of the zone found by an id. -/
theorem zone_mapZone (id k : Nat) (f : Zone → Zone) (hf : ∀ z, (f z).spec.id = z.spec.id) :
    (s.mapZone id f).zone? k = (s.zone? k).map fun z => if k = id then f z else z := by
  have hid (z : Zone) : (if z.spec.id = id then f z else z).spec.id = z.spec.id := by split <;> simp [hf]
  show (s.canvas.zones.map fun z => if z.spec.id = id then f z else z).find? (·.spec.id == k) = _
  rw [List.find?_map]
  have : ((fun z : Zone => z.spec.id == k) ∘ fun z => if z.spec.id = id then f z else z) = fun z => z.spec.id == k := by
    funext z
    simp [hid]
  rw [this]
  cases h : s.canvas.zones.find? (·.spec.id == k) with
  | none => simp [State.zone?, h]
  | some z =>
    have hz : z.spec.id = k := zone_spec_id (s := s) h
    simp [State.zone?, h, hz]

theorem zone_mapArb (id k : Nat) (f : ZoneArb → ZoneArb) :
    (s.mapArb id f).zone? k = (s.zone? k).map fun z => if k = id then { z with arb := f z.arb } else z :=
  zone_mapZone s id k _ fun _ => rfl

theorem zone_of_canvas {s t : State} (h : t.canvas.zones = s.canvas.zones) (k : Nat) : t.zone? k = s.zone? k := by
  unfold State.zone?
  rw [h]

theorem Frame.zones {P : List Part} {s t : State} (h : Frame P s t) (hP : P.contains .zones = false := by decide) :
    t.canvas.zones = s.canvas.zones := h.same .zones (by simpa using hP)

theorem Frame.canvasFrame {P : List Part} {s t : State} (h : Frame P s t)
    (hP : P.contains .canvas = false := by decide) : t.canvas.frame = s.canvas.frame :=
  (h.same .canvas (by simpa using hP)).2.1

end

/-! ## What evaluations, requests and ends keep of each zone -/

/-- A relation between two arbitration states of a zone that an evaluation keeps: it is a preorder and holds of every grant
that the evaluation can make. Its first argument is the frame of a grant's first showing (R108, R110). -/
structure ArbRule (R : Nat → ZoneArb → ZoneArb → Prop) : Prop where
  refl : ∀ f a, R f a a
  trans : ∀ {f a b c}, R f a b → R f b c → R f a c
  grant : ∀ f {run} {z : Zone} {r}, z.nextGrant run = some r → R f z.arb (z.arb.grant r f)

/-- Two states' zones of one id: none in both, or one each, of one specification and with arbitration states in relation. -/
def ZoneRel (R : ZoneArb → ZoneArb → Prop) : Option Zone → Option Zone → Prop
  | none, none => True
  | some z, some y => y.spec = z.spec ∧ R z.arb y.arb
  | _, _ => False

/-- From `s` to `t` the frame number stands and every zone's arbitration state keeps `R`. -/
structure ZoneWise (R : Nat → ZoneArb → ZoneArb → Prop) (s t : State) : Prop where
  frame : t.canvas.frame = s.canvas.frame
  zones : ∀ k, ZoneRel (R (s.canvas.frame + 1)) (s.zone? k) (t.zone? k)

section
variable {R : Nat → ZoneArb → ZoneArb → Prop} (hR : ArbRule R)
include hR

theorem ZoneRel.refl (f : Nat) (z : Option Zone) : ZoneRel (R f) z z := by
  cases z
  · trivial
  · exact ⟨rfl, hR.refl f _⟩

theorem ZoneRel.trans {f : Nat} {x y z : Option Zone} (h : ZoneRel (R f) x y) (k : ZoneRel (R f) y z) : ZoneRel (R f) x z := by
  cases x <;> cases y <;> cases z <;> simp_all [ZoneRel]
  exact hR.trans h.2 k.2

theorem ZoneWise.refl (s : State) : ZoneWise R s s := ⟨rfl, fun _ => ZoneRel.refl hR _ _⟩

theorem ZoneWise.trans {s t u : State} (h : ZoneWise R s t) (k : ZoneWise R t u) : ZoneWise R s u :=
  ⟨k.frame.trans h.frame, fun i => ZoneRel.trans hR (h.zones i) (h.frame ▸ k.zones i)⟩

theorem ZoneWise.foldl {α : Type} (f : State → α → State) (l : List α) (hf : ∀ s, ∀ a ∈ l, ZoneWise R s (f s a)) (s : State) :
    ZoneWise R s (l.foldl f s) := by
  induction l generalizing s with
  | nil => exact ZoneWise.refl hR s
  | cons a l ih =>
    exact ZoneWise.trans hR (hf s a (by simp)) (ih (fun s b hb => hf s b (by simp [hb])) _)

/-- An operation that leaves zones and canvas keeps every zone. -/
theorem ZoneWise.of_frame {P : List Part} {s t : State} (h : Frame P s t)
    (hP : (P.contains .zones || P.contains .canvas) = false := by decide) : ZoneWise R s t := by
  simp only [Bool.or_eq_false_iff] at hP
  refine ⟨h.canvasFrame hP.2, fun k => ?_⟩
  rw [zone_of_canvas (h.zones hP.1)]
  exact ZoneRel.refl hR _ _

theorem ZoneWise.frame_next {P : List Part} {s t u : State} (h : ZoneWise R s t) (k : Frame P t u)
    (hP : (P.contains .zones || P.contains .canvas) = false := by decide) : ZoneWise R s u :=
  h.trans hR (.of_frame hR k hP)

theorem mapArb_zoneWise (s : State) (id : Nat) (f : ZoneArb → ZoneArb)
    (hf : ∀ z, s.zone? id = some z → R (s.canvas.frame + 1) z.arb (f z.arb)) : ZoneWise R s (s.mapArb id f) := by
  refine ⟨rfl, fun k => ?_⟩
  rw [zone_mapArb]
  cases hz : s.zone? k with
  | none => trivial
  | some z =>
    by_cases hk : k = id
    · exact ⟨by simp [hk], by simpa [hk] using hf z (hk ▸ hz)⟩
    · exact ⟨by simp [hk], by simpa [hk] using hR.refl _ _⟩

theorem evaluate_zoneWise (s : State) (zone : Nat) : ZoneWise R s (s.evaluate zone) := by
  unfold State.evaluate
  split
  · next r hr =>
    obtain ⟨z, hz, hg⟩ := Option.bind_eq_some_iff.mp hr
    refine ZoneWise.frame_next hR (mapArb_zoneWise hR s zone _ fun y hy => ?_) (noteGrant_frame _ _ _)
    cases hz.symm.trans hy
    exact hR.grant _ hg
  · exact ZoneWise.refl hR s

theorem evaluateAll_zoneWise (s : State) (zones : List Nat) : ZoneWise R s (s.evaluateAll zones) :=
  ZoneWise.foldl hR _ _ (fun s z _ => evaluate_zoneWise hR s z) s

/-- A plain request records at most its own level (R104 to R106). -/
theorem request_zoneWise (s : State) (zone : Nat) {r : Request} (hr : ∀ f a, R f a (a.record r)) :
    ZoneWise R s (s.request zone r false).1 := by
  have h : ZoneWise R s ((s.mapArb zone (ZoneArb.record r)).evaluate zone) :=
    ZoneWise.trans hR (mapArb_zoneWise hR s zone _ fun _ _ => hr _ _) (evaluate_zoneWise hR _ _)
  unfold State.request
  split
  · exact ZoneWise.refl hR s
  · split
    · exact ZoneWise.refl hR s
    · split
      · exact ZoneWise.refl hR s
      · dsimp only
        split <;> exact h

theorem requestAll_zoneWise (s : State) {r : Request} (hr : ∀ f a, R f a (a.record r)) (zones : List Nat) :
    ZoneWise R s (s.requestAll r false zones).1 := by
  suffices h : ∀ (zs : List Nat) (acc : State × List Nat), ZoneWise R s acc.1 →
      ZoneWise R s (zs.foldl (fun acc z =>
        let (s, a) := acc.1.request z r false
        (s, if a.joins then acc.2 ++ [z] else acc.2)) acc).1 from h zones (s, []) (ZoneWise.refl hR s)
  intro zs
  induction zs with
  | nil => exact fun _ h => h
  | cons z zs ih => exact fun acc h => ih _ (h.trans hR (request_zoneWise hR acc.1 z hr))

theorem startFeatures_zoneWise (hr : ∀ f a (r : Request), r.level = 5 → R f a (a.record r)) (fs : List Feature) (s : State) :
    ZoneWise R s (s.startFeatures fs) := by
  induction fs generalizing s with
  | nil => exact .of_frame hR (mapFeatures_frame s _ fun _ => by simp)
  | cons f fs ih =>
    unfold State.startFeatures
    dsimp only
    have h := requestAll_zoneWise hR s (r := ⟨5, .asset f.asset, some (s.toFrames f.duration), some f.sponsor⟩)
      (fun _ _ => hr _ _ _ rfl) (s.resolveZones f.zones)
    split
    · exact (h.frame_next hR (mapFeatures_frame _ _ fun _ => by simp)).trans hR (ih _)
    · exact h.frame_next hR (mapFeatures_frame _ _ fun _ => by simp)

theorem featureFollow_zoneWise (hr : ∀ f a (r : Request), r.level = 5 → R f a (a.record r)) (s : State) :
    ZoneWise R s s.featureFollow := by
  unfold State.featureFollow
  split
  · split
    · exact startFeatures_zoneWise hR hr _ s
    · exact ZoneWise.refl hR s
  · exact ZoneWise.refl hR s

theorem startCards_zoneWise (hr : ∀ f a (r : Request), r.level = 6 → R f a (a.record r)) (ids : List Nat) (s : State) :
    ZoneWise R s (s.startCards ids) := by
  induction ids generalizing s with
  | nil => exact .of_frame hR (mapCrawl_frame s _ fun _ => by rfl)
  | cons id ids ih =>
    unfold State.startCards
    dsimp only
    have h := requestAll_zoneWise hR s (r := ⟨6, .card id, some (s.toFrames s.crawl.config.duration), none⟩)
      (fun _ _ => hr _ _ _ rfl) (s.resolveZones s.crawl.config.zones.ids)
    split
    · exact ((h.frame_next hR (mapCrawl_frame _ _ fun _ => by rfl)).frame_next hR (finishCard_frame _ _)).trans hR (ih _)
    · exact h.frame_next hR (mapCrawl_frame _ _ fun _ => by rfl)

theorem cardFollow_zoneWise (hr : ∀ f a (r : Request), r.level = 6 → R f a (a.record r)) (s : State) :
    ZoneWise R s s.cardFollow := by
  unfold State.cardFollow
  split
  · split
    · exact ((ZoneWise.of_frame hR (mapCrawl_frame s _ fun _ => by rfl)).frame_next hR (finishCard_frame _ _)).trans hR
        (startCards_zoneWise hR hr _ _)
    · exact ZoneWise.refl hR s
  · exact ZoneWise.refl hR s

/-- What owners request in answer to ends keeps a relation that allows requests at levels 5 and 6 (R176, R198). -/
theorem followUps_zoneWise (hr : ∀ f a (r : Request), r.level = 5 ∨ r.level = 6 → R f a (a.record r)) (s : State) :
    ZoneWise R s s.followUps :=
  (featureFollow_zoneWise hR (fun f a r h => hr f a r (.inl h)) s).trans hR
    (cardFollow_zoneWise hR (fun f a r h => hr f a r (.inr h)) _)

theorem tellOwner_zones (s : State) (zone level : Nat) (o : Outcome) : ZoneWise R s (s.tellOwner zone level o) := by
  unfold State.tellOwner
  split
  · exact .of_frame hR (phase_frame s _ fun _ => by rfl)
  · exact .of_frame hR (levelTwo_frame s _ fun _ => by rfl)
  · exact .of_frame hR (channelEnded_frame s _ _ _)
  · exact .of_frame hR (channelEnded_frame s _ _ _)
  · exact .of_frame hR (mapFeatures_frame s _ fun _ => by simp [Rotation.levelEnded])
  · exact .of_frame hR (mapCrawl_frame s _ fun _ => by rfl)
  · exact ZoneWise.refl hR s

theorem endOne_zoneWise (s : State) (o : Outcome) (zone : Nat) {level : Nat} (hl : ∀ f a, R f a (a.remove level)) :
    ZoneWise R s (s.endOne o zone level) := by
  unfold State.endOne
  split
  · exact ((mapArb_zoneWise hR s zone _ fun _ _ => hl _ _).frame_next hR (raise_frame _ _ _)).trans hR
      (tellOwner_zones hR _ _ _ _)
  · exact ZoneWise.refl hR s

theorem endEach_zoneWise (s : State) (o : Outcome) (items : List (Nat × Nat))
    (hl : ∀ i ∈ items, ∀ f a, R f a (a.remove i.2)) : ZoneWise R s (s.endEach o items) :=
  ZoneWise.foldl hR _ _ (fun s i hi => endOne_zoneWise hR s o i.1 (hl i hi)) s

theorem endAll_zoneWise (s : State) (o : Outcome) (items : List (Nat × Nat))
    (hl : ∀ i ∈ items, ∀ f a, R f a (a.remove i.2))
    (hr : ∀ f a (r : Request), r.level = 5 ∨ r.level = 6 → R f a (a.record r)) : ZoneWise R s (s.endAll o items) :=
  ((endEach_zoneWise hR s o items hl).trans hR (evaluateAll_zoneWise hR _ _)).trans hR (followUps_zoneWise hR hr _)

end

/-! ### Where nothing stands, nothing comes to stand -/

/-- Nothing comes to stand at a level. -/
def StaysFree (l : Nat) (_ : Nat) (a b : ZoneArb) : Prop := a.standing l = none → b.standing l = none

theorem standing_of_level {a b : ZoneArb} {l : Nat} (h : b.level l = a.level l) : a.standing l = none → b.standing l = none := by
  simp only [ZoneArb.level, Prod.mk.injEq] at h
  rw [standing_eq_none, standing_eq_none, h.1, h.2.1]
  exact id

theorem staysFree_rule (l : Nat) : ArbRule (StaysFree l) where
  refl _ _ := id
  trans h k := k ∘ h
  grant f {run z r} h hn := by
    by_cases hl : l = r.level
    · rw [standing_eq_none, hl, pendingAt_of_nextGrant h] at hn
      exact absurd hn.1 (by simp)
    · exact standing_of_level (by rw [level_grant, if_neg hl]) hn

theorem staysFree_remove (l m f : Nat) (a : ZoneArb) : StaysFree l f a (a.remove m) := by
  intro hn
  by_cases hl : l = m
  · have h := level_remove a l m
    rw [if_pos hl] at h
    simp only [ZoneArb.level, Prod.mk.injEq] at h
    exact (standing_eq_none _ _).mpr ⟨h.1, h.2.1⟩
  · exact standing_of_level (by rw [level_remove, if_neg hl]) hn

theorem staysFree_record {l : Nat} (f : Nat) (a : ZoneArb) (r : Request) (hl : r.level ≠ l) : StaysFree l f a (a.record r) :=
  standing_of_level (by rw [level_record, if_neg (Ne.symm hl)])

theorem ZoneWise.standsAt {l : Nat} {s t : State} (h : ZoneWise (StaysFree l) s t) {zone : Nat}
    (hn : s.standsAt zone l = none) : t.standsAt zone l = none := by
  have hz := h.zones zone
  unfold State.standsAt at hn ⊢
  cases hs : s.zone? zone with
  | none =>
    cases ht : t.zone? zone with
    | none => rfl
    | some y => rw [hs, ht] at hz; exact hz.elim
  | some z =>
    cases ht : t.zone? zone with
    | none => rfl
    | some y =>
      rw [hs, ht] at hz
      rw [hs] at hn
      exact hz.2 hn

theorem endOne_ends (s : State) (o : Outcome) (zone level : Nat) : (s.endOne o zone level).standsAt zone level = none := by
  unfold State.endOne
  split
  · next stage frames hst =>
    refine ZoneWise.standsAt (tellOwner_zones (staysFree_rule level) _ _ _ _) ?_
    show ((s.mapArb zone (ZoneArb.remove level)).zone? zone).bind (·.arb.standing level) = none
    rw [zone_mapArb]
    cases s.zone? zone with
    | none => rfl
    | some z =>
      have h := level_remove z.arb level level
      rw [if_pos rfl] at h
      simp only [ZoneArb.level, Prod.mk.injEq] at h
      simpa using (standing_eq_none _ _).mpr ⟨h.1, h.2.1⟩
  · next hn => exact hn

theorem endEach_ends (o : Outcome) (items : List (Nat × Nat)) (s : State) :
    ∀ i ∈ items, (s.endEach o items).standsAt i.1 i.2 = none := by
  induction items generalizing s with
  | nil => simp
  | cons j items ih =>
    intro i hi
    rcases List.mem_cons.mp hi with rfl | hm
    · exact (endEach_zoneWise (staysFree_rule i.2) _ o items fun _ _ f a => staysFree_remove _ _ f a).standsAt
        (endOne_ends s o i.1 i.2)
    · exact ih _ i hm

/-- A level below 5, or level 7, that nothing holds stays free through the ends of an event. -/
theorem endAll_free (s : State) (o : Outcome) (items : List (Nat × Nat)) {l : Nat} (h5 : l ≠ 5) (h6 : l ≠ 6) {zone : Nat}
    (hn : s.standsAt zone l = none) : (s.endAll o items).standsAt zone l = none :=
  (endAll_zoneWise (staysFree_rule l) s o items (fun _ _ f a => staysFree_remove _ _ f a)
    (fun f a r hr => staysFree_record f a r (by omega))).standsAt hn

/-- The ends of an event leave nothing at the levels ended, but for what follow-ups request at levels 5 and 6. -/
theorem endAll_ends (s : State) (o : Outcome) (items : List (Nat × Nat)) {i : Nat × Nat} (hi : i ∈ items) (h5 : i.2 ≠ 5)
    (h6 : i.2 ≠ 6) : (s.endAll o items).standsAt i.1 i.2 = none := by
  have h := evaluateAll_zoneWise (staysFree_rule i.2) (s.endEach o items) (items.map (·.1))
  exact (followUps_zoneWise (staysFree_rule i.2) (fun f a r hr => staysFree_record f a r (by omega)) _).standsAt
    (h.standsAt (endEach_ends o items s i hi))

end Sys2Proof.Machine
end

section
namespace Sys2Proof.Machine

set_option Elab.async false

/-! ## What is recorded, as one list of occurrences -/

/-- Occurrences of one kind are recorded one by one (R12). -/
theorem gained_cons {e : CondEntry} (h : e.wf) (d : Detail) (ds : List Detail) :
    e.gained (d :: ds) = (e.occur d).gained ds := by
  obtain ⟨pending, count, first, latest⟩ := e
  cases ds with
  | nil =>
    cases pending
    · cases h
      rfl
    · rfl
  | cons x xs =>
    obtain ⟨y, hy⟩ : ∃ y, (x :: xs).getLast? = some y := ⟨_, List.getLast?_eq_some_getLast (by simp)⟩
    cases pending
    · cases h
      simp [CondEntry.gained, CondEntry.occur, List.getLast?_cons_cons, hy]
      omega
    · simp [CondEntry.gained, CondEntry.occur, List.getLast?_cons_cons, hy]
      omega

/-- The details of one kind in a list of occurrences. -/
def detailsOf (c : Cond) (es : List (Cond × Detail)) : List Detail := (es.filter (·.1 == c)).map (·.2)

theorem detailsOf_append (c : Cond) (a b : List (Cond × Detail)) : detailsOf c (a ++ b) = detailsOf c a ++ detailsOf c b := by
  simp [detailsOf]

/-- What a list of occurrences makes of the entry of one kind. -/
theorem entry_occurs (c : Cond) (es : List (Cond × Detail)) {l : LinkState} (h : l.wf) :
    (l.occurs es).entry c = (l.entry c).gained (detailsOf c es) := by
  induction es generalizing l with
  | nil => rfl
  | cons e es ih =>
    show ((l.occur e.1 e.2).occurs es).entry c = _
    rw [ih (h.occur e.1 e.2)]
    by_cases hc : e.1 = c
    · subst hc
      rw [entry_occur_same _ _ _ h.table, ← gained_cons (h.entry _)]
      simp [detailsOf]
    · rw [entry_occur_other _ _ _ (Ne.symm hc)]
      simp [detailsOf, hc]

/-- From `s` to `t` both links record the same occurrences, which are `es` but for those of the kinds in `K`. -/
def Reports (K : List Cond) (s t : State) (es : List (Cond × Detail)) : Prop :=
  ∃ all, t.production = s.production.occurs all ∧ t.table = s.table.occurs all ∧ all.filter (fun e => !K.contains e.1) = es

theorem Reports.refl (K : List Cond) (s : State) : Reports K s s [] := ⟨[], rfl, rfl, rfl⟩

theorem Reports.of_links {K : List Cond} {s t : State} (h : t.production = s.production) (k : t.table = s.table) :
    Reports K s t [] := ⟨[], h, k, rfl⟩

theorem Reports.next {K : List Cond} {s t u : State} {a b : List (Cond × Detail)} (h : Reports K s t a)
    (k : Reports K t u b) : Reports K s u (a ++ b) := by
  obtain ⟨x, hx, hx', rfl⟩ := h
  obtain ⟨y, hy, hy', rfl⟩ := k
  exact ⟨x ++ y, by rw [hy, hx, occurs_append], by rw [hy', hx', occurs_append], List.filter_append ..⟩

/-- An operation that records only kinds in `J`, among those of `K`. -/
theorem Reports.mono {J K : List Cond} {s t : State} (h : Reports J s t [])
    (hJ : J.all (fun c => K.contains c) = true := by decide) : Reports K s t [] := by
  obtain ⟨x, hx, hx', hn⟩ := h
  refine ⟨x, hx, hx', List.filter_eq_nil_iff.mpr fun e he => ?_⟩
  have hj : J.contains e.1 = true := by simpa using List.filter_eq_nil_iff.mp hn e he
  simpa using List.all_eq_true.mp hJ e.1 (by simpa using hj)

/-- After other operations, one that records only kinds in `J`, among those of `K`. -/
theorem Reports.quiet {J K : List Cond} {s t u : State} {a : List (Cond × Detail)} (h : Reports K s t a)
    (k : Reports J t u []) (hJ : J.all (fun c => K.contains c) = true := by decide) : Reports K s u a := by
  simpa using h.next (k.mono hJ)

theorem Reports.raise {K : List Cond} {c : Cond} (hc : K.contains c = false) (s : State) (d : Detail) :
    Reports K s (s.raise c d) [(c, d)] := ⟨[(c, d)], rfl, rfl, by rw [List.filter_cons_of_pos (by simpa using hc)]; rfl⟩

theorem Reports.raise_quiet {K : List Cond} {c : Cond} (hc : K.contains c = true) (s : State) (d : Detail) :
    Reports K s (s.raise c d) [] := ⟨[(c, d)], rfl, rfl, by rw [List.filter_cons_of_neg (by simpa using hc)]; rfl⟩

theorem Reports.foldl {K : List Cond} {α : Type} (f : State → α → State) (l : List α) (hf : ∀ s a, Reports K s (f s a) [])
    (s : State) : Reports K s (l.foldl f s) [] := by
  induction l generalizing s with
  | nil => exact .refl K s
  | cons a l ih => exact (hf s a).next (ih _)

theorem Reports.ite {K : List Cond} {s t u : State} {c : Prop} [Decidable c] {a b : List (Cond × Detail)}
    (ht : c → Reports K s t a) (hu : ¬c → Reports K s u b) :
    Reports K s (if c then t else u) (if c then a else b) := by
  split
  · next h => exact ht h
  · next h => exact hu h

/-- The occurrences of a kind outside `K` are those listed, on both links (R12). -/
theorem Reports.gains {K : List Cond} {s t : State} {es : List (Cond × Detail)} (h : Reports K s t es) (hw : s.linksWf)
    {c : Cond} (hc : K.contains c = false := by decide) : Gains s t c (detailsOf c es) := by
  obtain ⟨all, hp, ht, rfl⟩ := h
  have hd : detailsOf c all = detailsOf c (all.filter fun e => !K.contains e.1) := by
    unfold detailsOf
    rw [List.filter_filter]
    congr 2
    funext e
    by_cases he : e.1 = c
    · have hn : c ∉ K := by simpa using hc
      simp [he, hn]
    · simp [he]
  intro link
  cases link
  · exact (congrArg (LinkState.entry · c) hp).trans (hd ▸ entry_occurs c all hw.1)
  · exact (congrArg (LinkState.entry · c) ht).trans (hd ▸ entry_occurs c all hw.2)

/-! ## What the arbiter and the owners it tells record -/

/-- The kinds of condition that ends of takeovers bring with them, by the outcome of the ends (R114, R136, R158, R199). -/
def endKinds : Outcome → List Cond
  | .released => [.takeoverEnded, .messageDone]
  | .expired => [.takeoverEnded, .messageDone]
  | .restart => [.takeoverEnded, .messageDone, .channelState]
  | _ => [.takeoverEnded, .messageDone, .channelState, .nearOvertake]

/-- The kinds that ends of any outcome bring with them. -/
def endNoise : List Cond := [.takeoverEnded, .messageDone, .channelState, .nearOvertake]

section
variable (s : State)

theorem mapChan_links (ch : Channel) (f : Chan → Chan) :
    (s.mapChan ch f).production = s.production ∧ (s.mapChan ch f).table = s.table := by cases ch <;> exact ⟨rfl, rfl⟩

theorem setReader_links (name : ReaderName) (r : Option Reader) :
    (s.setReader name r).production = s.production ∧ (s.setReader name r).table = s.table := by cases name <;> exact ⟨rfl, rfl⟩

theorem mapTiming_reports {K : List Cond} (f : Timing → Timing) : Reports K s (s.mapTiming f) [] := .of_links rfl rfl
theorem mapGame_reports {K : List Cond} (f : RecordFields → RecordFields) : Reports K s (s.mapGame f) [] := .of_links rfl rfl
theorem mapTwin_reports {K : List Cond} (f : Twin → Twin) : Reports K s (s.mapTwin f) [] := .of_links rfl rfl
theorem mapExposure_reports {K : List Cond} (f : Exposure → Exposure) : Reports K s (s.mapExposure f) [] := .of_links rfl rfl
theorem mapRotation_reports {K : List Cond} (f : Rotation → Rotation) : Reports K s (s.mapRotation f) [] := .of_links rfl rfl
theorem mapCrawl_reports {K : List Cond} (f : Crawl → Crawl) : Reports K s (s.mapCrawl f) [] := .of_links rfl rfl

theorem mapChan_reports (ch : Channel) (f : Chan → Chan) : Reports [] s (s.mapChan ch f) [] :=
  .of_links (mapChan_links s ch f).1 (mapChan_links s ch f).2

theorem setReader_reports (name : ReaderName) (r : Option Reader) : Reports [] s (s.setReader name r) [] :=
  .of_links (setReader_links s name r).1 (setReader_links s name r).2

theorem noteGrant_reports (zone level : Nat) : Reports [] s (s.noteGrant zone level) [] := by
  unfold State.noteGrant
  split
  · split
    · exact mapChan_reports s _ _
    · exact .refl _ s
  · exact .refl _ s

theorem evaluate_reports (zone : Nat) : Reports [] s (s.evaluate zone) [] := by
  unfold State.evaluate
  split
  · exact noteGrant_reports (s.mapArb zone _) zone _
  · exact .refl _ s

theorem evaluateAll_reports (zones : List Nat) : Reports [] s (s.evaluateAll zones) [] :=
  Reports.foldl _ _ evaluate_reports s

theorem request_reports (zone : Nat) (r : Request) (b : Bool) : Reports [] s (s.request zone r b).1 [] := by
  unfold State.request
  split
  · exact .refl _ s
  · split
    · split
      · exact .of_links rfl rfl
      · exact .refl _ s
    · split
      · split
        · exact evaluate_reports (s.mapArb zone _) zone
        · exact .refl _ s
      · dsimp only
        split <;> exact evaluate_reports (s.mapArb zone _) zone

theorem requestAll_reports (r : Request) (b : Bool) (zones : List Nat) : Reports [] s (s.requestAll r b zones).1 [] := by
  suffices h : ∀ (zs : List Nat) (acc : State × List Nat), Reports [] s acc.1 [] →
      Reports [] s (zs.foldl (fun acc z =>
        let (s, a) := acc.1.request z r b
        (s, if a.joins then acc.2 ++ [z] else acc.2)) acc).1 [] from h zones (s, []) (.refl _ s)
  intro zs
  induction zs with
  | nil => exact fun _ h => h
  | cons z zs ih => exact fun acc h => ih _ (h.next (request_reports acc.1 z r b))

theorem startFeatures_reports (fs : List Feature) : Reports [] s (s.startFeatures fs) [] := by
  induction fs generalizing s with
  | nil => exact .of_links rfl rfl
  | cons f fs ih =>
    unfold State.startFeatures
    dsimp only
    have h := requestAll_reports s ⟨5, .asset f.asset, some (s.toFrames f.duration), some f.sponsor⟩ false
      (s.resolveZones f.zones)
    split
    · exact (h.next (.of_links rfl rfl)).next (ih _)
    · exact h.next (.of_links rfl rfl)

theorem featureFollow_reports : Reports [] s s.featureFollow [] := by
  unfold State.featureFollow
  split
  · split
    · exact startFeatures_reports s _
    · exact .refl _ s
  · exact .refl _ s

theorem finishCard_reports (id : Nat) : Reports [.messageDone] s (s.finishCard id) [] := by
  unfold State.finishCard
  dsimp only
  split
  · split
    · exact .raise_quiet (by decide) _ _
    · exact .of_links rfl rfl
  · exact .of_links rfl rfl

theorem startCards_reports (ids : List Nat) : Reports [.messageDone] s (s.startCards ids) [] := by
  induction ids generalizing s with
  | nil => exact mapCrawl_reports _ _
  | cons id ids ih =>
    unfold State.startCards
    dsimp only
    have h : Reports [.messageDone] s _ [] := (requestAll_reports s
      ⟨6, .card id, some (s.toFrames s.crawl.config.duration), none⟩ false (s.resolveZones s.crawl.config.zones.ids)).mono
    split
    · exact ((h.next (mapCrawl_reports _ _)).next (finishCard_reports _ _)).next (ih _)
    · exact h.next (mapCrawl_reports _ _)

theorem cardFollow_reports : Reports [.messageDone] s s.cardFollow [] := by
  unfold State.cardFollow
  split
  · split
    · have h : Reports [.messageDone] s (s.mapCrawl fun c => { c with card := none }) [] := .of_links rfl rfl
      exact (h.next (finishCard_reports _ _)).next (startCards_reports _ _)
    · exact .refl _ s
  · exact .refl _ s

theorem followUps_reports : Reports [.messageDone] s s.followUps [] :=
  ((featureFollow_reports s).mono).next (cardFollow_reports _)

/-! ### Readers and entries -/

theorem testReader_reports (name : ReaderName) : Reports [.nearOvertake] s (s.testReader name) [] := by
  unfold State.testReader
  split
  · exact .refl _ s
  · dsimp only
    split
    · split
      · exact (setReader_reports s _ _).mono.next (.raise_quiet (by decide) _ _)
      · exact .refl _ s
    · split
      · exact (setReader_reports s _ _).mono
      · exact .refl _ s

theorem attachReader_reports (name : ReaderName) (w : Reader) : Reports [.nearOvertake] s (s.attachReader name w) [] := by
  unfold State.attachReader
  split
  · exact (setReader_reports s _ _).mono.next (testReader_reports _ _)
  · exact .refl _ s

theorem syncReader_reports (name : ReaderName) (want : Option Reader) :
    Reports [.nearOvertake] s (s.syncReader name want) [] := by
  unfold State.syncReader
  split
  · exact .refl _ s
  · exact (setReader_reports s _ _).mono
  · exact attachReader_reports s _ _
  · split
    · exact (setReader_reports s _ _).mono.next (testReader_reports _ _)
    · exact (setReader_reports s _ _).mono.next (attachReader_reports _ _ _)

theorem syncReaders_reports : Reports [.nearOvertake] s s.syncReaders [] :=
  ((syncReader_reports s _ _).next (syncReader_reports _ _ _)).next (syncReader_reports _ _ _)

theorem placeHead_reports (ch : Channel) : Reports [] s (s.placeHead ch) [] := mapChan_reports s ch _

theorem loadHead_reports (ch : Channel) : Reports [.nearOvertake] s (s.loadHead ch) [] :=
  (placeHead_reports s ch).mono.next (syncReaders_reports _)

theorem leaveHead_reports (ch : Channel) : Reports [] s (s.leaveHead ch) [] :=
  (mapChan_reports s ch _).next (setReader_reports _ _ _)

theorem popHead_reports (ch : Channel) : Reports [.nearOvertake] s (s.popHead ch) [] :=
  (leaveHead_reports s ch).mono.next (loadHead_reports _ ch)

theorem cutCues_reports (ch : Channel) (f : List Cue → List Cue) : Reports [] s (s.cutCues ch f) [] :=
  ((mapChan_reports s ch _).next (placeHead_reports _ ch)).next (setReader_reports _ _ _)

theorem endEntry_reports (ch : Channel) (o : CueOutcome) :
    Reports (if o = .restart then [.channelState] else [.channelState, .nearOvertake]) s (s.endEntry ch o) [] := by
  unfold State.endEntry State.raiseChannel
  cases (s.chan ch).cues with
  | nil => exact .refl _ s
  | cons e rest =>
    by_cases ho : o = .restart
    · simp only [ho, if_true]
      exact (cutCues_reports s ch _).mono.next (.raise_quiet (by decide) _ _)
    · simp only [ho, if_false]
      exact (popHead_reports s ch).mono.next (.raise_quiet (by decide) _ _)

theorem channelEnded_reports (ch : Channel) (zone : Nat) (o : Outcome) :
    Reports (endKinds o) s (s.channelEnded ch zone o) [] := by
  unfold State.channelEnded
  cases o <;> simp only [entryOutcome]
  case expired => exact .refl _ s
  case released => exact .refl _ s
  all_goals
    split
    · exact (endEntry_reports s ch _).mono
    · exact .refl _ s

theorem tellOwner_reports (zone level : Nat) (o : Outcome) : Reports (endKinds o) s (s.tellOwner zone level o) [] := by
  unfold State.tellOwner
  split
  · exact .of_links rfl rfl
  · exact .of_links rfl rfl
  · exact channelEnded_reports s _ _ _
  · exact channelEnded_reports s _ _ _
  · exact .of_links rfl rfl
  · exact .of_links rfl rfl
  · exact .refl _ s

theorem endOne_reports (o : Outcome) (zone level : Nat) : Reports (endKinds o) s (s.endOne o zone level) [] := by
  unfold State.endOne
  split
  · exact ((Reports.of_links rfl rfl).next (.raise_quiet (by cases o <;> decide) (s.mapArb zone _) _)).next
      (tellOwner_reports _ _ _ _)
  · exact .refl _ s

theorem endEach_reports (o : Outcome) (items : List (Nat × Nat)) : Reports (endKinds o) s (s.endEach o items) [] :=
  Reports.foldl _ _ (fun s (i : Nat × Nat) => endOne_reports s o i.1 i.2) s

theorem endAll_reports (o : Outcome) (items : List (Nat × Nat)) : Reports (endKinds o) s (s.endAll o items) [] :=
  ((endEach_reports s o items).next ((evaluateAll_reports _ _).mono rfl)).next
    ((followUps_reports _).mono (by cases o <;> decide))

theorem release_reports (zone level : Nat) : Reports (endKinds .released) s (s.release zone level) [] := by
  unfold State.release
  split
  · exact endAll_reports s _ _
  · exact .refl _ s

theorem arbiterStart_reports : Reports endNoise s s.arbiterStart [] :=
  ((endEach_reports s .cut _).mono.next (evaluateAll_reports _ _).mono).next (followUps_reports _).mono

theorem arbiterStop_reports : Reports [] s s.arbiterStop [] := evaluateAll_reports s _

theorem arbiterRestart_reports : Reports (endKinds .restart) s s.arbiterRestart [] :=
  ((endEach_reports s .restart _).next (evaluateAll_reports _ _).mono).next (followUps_reports _).mono

/-! ### Features -/

theorem appendFeature_reports (sponsor asset duration : Nat) (zones : List Nat) (brk : Bool) :
    Reports [] s (s.appendFeature sponsor asset duration zones brk) [] := by
  unfold State.appendFeature
  dsimp only
  split
  · exact startFeatures_reports (s.mapRotation _) _
  · exact .of_links rfl rfl

theorem featureBreakStart_reports (seconds : Nat) : Reports [] s (s.featureBreakStart seconds) [] := by
  unfold State.featureBreakStart
  split
  · exact .refl _ s
  · split
    · exact .of_links rfl rfl
    · exact (appendFeature_reports s _ _ _ _ _).next (.of_links rfl rfl)

theorem featureBreakCancel_reports : Reports (endKinds .released) s s.featureBreakCancel [] := by
  unfold State.featureBreakCancel
  split
  · exact .refl _ s
  · dsimp only
    split
    · split
      · exact (endAll_reports s _ _).next (.of_links rfl rfl)
      · exact .of_links rfl rfl
    · exact .of_links rfl rfl

theorem featureBreakExpiry_reports : Reports [] s s.featureBreakExpiry [] := by
  unfold State.featureBreakExpiry
  split
  · exact .refl _ s
  · exact .of_links rfl rfl

/-! ### Level 1 -/

theorem releaseLevelOne_reports (phase : Phase) : Reports (endKinds .released) s (s.releaseLevelOne phase) [] :=
  (endAll_reports s .released _).next (.of_links rfl rfl)

theorem requestLevelOne_reports (asset : Nat) (frames : Option Nat) (phase : Phase) :
    Reports [] s (s.requestLevelOne asset frames phase) [] :=
  (requestAll_reports s _ _ _).next (.of_links rfl rfl)

theorem requestCountdown_reports : Reports [] s s.requestCountdown [] := by
  unfold State.requestCountdown
  split
  · exact requestLevelOne_reports s _ _ _
  · exact .refl _ s

theorem sendCountdown_reports (asks : Bool) : Reports (endKinds .released) s (s.sendCountdown asks) [] := by
  unfold State.sendCountdown
  split
  · split
    · exact (requestCountdown_reports s).mono
    · exact (releaseLevelOne_reports s _).next (requestCountdown_reports _).mono
    · exact .refl _ s
    · exact .refl _ s
  · exact .refl _ s

theorem checkCountdown_reports : Reports (endKinds .released) s s.checkCountdown [] := sendCountdown_reports s _

theorem releaseCountdown_reports : Reports (endKinds .released) s s.releaseCountdown [] := by
  unfold State.releaseCountdown
  split
  · exact releaseLevelOne_reports s _
  · exact .refl _ s

theorem switchPeriodEnd_reports (asset frames : Nat) : Reports [] s (s.switchPeriodEnd asset frames) [] :=
  (requestAll_reports s _ _ _).next (.of_links rfl rfl)

theorem periodEnd_reports : Reports (endKinds .released) s s.periodEnd [] := by
  unfold State.periodEnd
  split
  · dsimp only
    split
    · exact (switchPeriodEnd_reports s _ _).mono
    · exact (switchPeriodEnd_reports s _ _).mono
    all_goals
      split
      · exact .refl _ s
      · exact (requestLevelOne_reports s _ _ _).mono
  · split
    · exact releaseLevelOne_reports s _
    · exact .refl _ s

theorem requestScoreEvent_reports (team : Team) : Reports [] s (s.requestScoreEvent team) [] := by
  unfold State.requestScoreEvent
  dsimp only
  split
  · exact .refl _ s
  · exact (requestAll_reports s _ _ _).next (.of_links rfl rfl)

end

end Sys2Proof.Machine
end

section
namespace Sys2Proof.Machine

set_option Elab.async false

/-! ## What a frame says of whole units -/

section
variable {P : List Part} {s t : State} (h : Frame P s t)
include h

theorem Frame.twin (hP : (P.contains .twin || P.contains .twinOut) = false := by decide) : t.twin = s.twin := by
  simp only [Bool.or_eq_false_iff] at hP
  have h1 := h.same .twin (by simpa using hP.1)
  have h2 := h.same .twinOut (by simpa using hP.2)
  simp only [samePart, Twin.mk.injEq] at h1 h2
  cases hs : s.twin
  cases ht : t.twin
  simp_all

/-- What stands of the timing unit where its clock and its horns stand. -/
theorem Frame.clock (hP : (P.contains .clock || P.contains .horns) = false := by decide) :
    t.timing = { s.timing with phase := t.timing.phase, outstanding := t.timing.outstanding } := by
  simp only [Bool.or_eq_false_iff] at hP
  have h1 := h.same .clock (by simpa using hP.1)
  have h2 := h.same .horns (by simpa using hP.2)
  simp only [samePart, Timing.mk.injEq] at h1 h2
  cases hs : s.timing
  cases ht : t.timing
  simp_all

theorem Frame.timing (hP : (P.contains .clock || P.contains .horns || P.contains .phase) = false := by decide) :
    t.timing = s.timing := by
  simp only [Bool.or_eq_false_iff] at hP
  have h1 := h.clock (by simpa using hP.1)
  have h2 := h.same .phase (by simpa using hP.2)
  rw [h1, h2.1, h2.2]

theorem Frame.game (hP : (P.contains .session || P.contains .game) = false := by decide) :
    t.record.game = s.record.game := by
  simp only [Bool.or_eq_false_iff] at hP
  have h1 := h.same .session (by simpa using hP.1)
  have h2 := h.same .game (by simpa using hP.2)
  simp only [samePart, RecordFields.mk.injEq] at h1 h2
  cases hs : s.record.game
  cases ht : t.record.game
  simp_all

theorem Frame.record (hP : (P.contains .session || P.contains .game || P.contains .levelTwo) = false := by decide) :
    t.record = s.record := by
  simp only [Bool.or_eq_false_iff] at hP
  have h1 := h.game (by simpa using hP.1)
  have h2 : t.record.outstanding = s.record.outstanding := h.same .levelTwo (by simpa using hP.2)
  cases hs : s.record
  cases ht : t.record
  simp_all

theorem Frame.exposure (hP : P.contains .exposure = false := by decide) : t.exposure = s.exposure :=
  h.same .exposure (by simpa using hP)

theorem Frame.outstanding (hP : P.contains .levelTwo = false := by decide) :
    t.record.outstanding = s.record.outstanding := h.same .levelTwo (by simpa using hP)

end

/-! ## Ends leave the timing unit and the record's outstanding zones, but for levels 1 and 2 -/

section
variable (s : State)

theorem ownerOf_one {level : Nat} (h : ownerOf level = .timing) : level = 1 := by
  unfold ownerOf at h
  split at h <;> first | rfl | cases h

theorem ownerOf_two {level : Nat} (h : ownerOf level = .record) : level = 2 := by
  unfold ownerOf at h
  split at h <;> first | rfl | cases h

theorem tellOwner_timing (zone : Nat) {level : Nat} (o : Outcome) (h : level ≠ 1) :
    (s.tellOwner zone level o).timing = s.timing := by
  unfold State.tellOwner
  split
  · next ho => exact absurd (ownerOf_one ho) h
  · rfl
  · exact (channelEnded_frame s _ _ _).timing
  · exact (channelEnded_frame s _ _ _).timing
  · rfl
  · rfl
  · rfl

theorem tellOwner_record (zone : Nat) {level : Nat} (o : Outcome) (h : level ≠ 2) :
    (s.tellOwner zone level o).record = s.record := by
  unfold State.tellOwner
  split
  · rfl
  · next ho => exact absurd (ownerOf_two ho) h
  · exact (channelEnded_frame s _ _ _).record
  · exact (channelEnded_frame s _ _ _).record
  · rfl
  · rfl
  · rfl

theorem endOne_timing (o : Outcome) (zone : Nat) {level : Nat} (h : level ≠ 1) :
    (s.endOne o zone level).timing = s.timing := by
  unfold State.endOne
  split
  · exact tellOwner_timing _ _ _ h
  · rfl

theorem endOne_record (o : Outcome) (zone : Nat) {level : Nat} (h : level ≠ 2) :
    (s.endOne o zone level).record = s.record := by
  unfold State.endOne
  split
  · exact tellOwner_record _ _ _ h
  · rfl

theorem endEach_timing (o : Outcome) (items : List (Nat × Nat)) (h : ∀ i ∈ items, i.2 ≠ 1) :
    (s.endEach o items).timing = s.timing := by
  induction items generalizing s with
  | nil => rfl
  | cons i items ih =>
    exact (ih _ fun j hj => h j (by simp [hj])).trans (endOne_timing s o i.1 (h i (by simp)))

theorem endEach_record (o : Outcome) (items : List (Nat × Nat)) (h : ∀ i ∈ items, i.2 ≠ 2) :
    (s.endEach o items).record = s.record := by
  induction items generalizing s with
  | nil => rfl
  | cons i items ih =>
    exact (ih _ fun j hj => h j (by simp [hj])).trans (endOne_record s o i.1 (h i (by simp)))

theorem endAll_timing (o : Outcome) (items : List (Nat × Nat)) (h : ∀ i ∈ items, i.2 ≠ 1) :
    (s.endAll o items).timing = s.timing :=
  ((followUps_frame _).timing.trans (evaluateAll_frame _ _).timing).trans (endEach_timing s o items h)

theorem endAll_record (o : Outcome) (items : List (Nat × Nat)) (h : ∀ i ∈ items, i.2 ≠ 2) :
    (s.endAll o items).record = s.record :=
  ((followUps_frame _).record.trans (evaluateAll_frame _ _).record).trans (endEach_record s o items h)

/-! ## A follower sends no record of its own (R77, R80) -/

variable {s} (hf : s.twin.state = .follower)
include hf

theorem sendEvent_of_follower (c : Change) (n : Nat) : s.sendEvent c n = s := by
  unfold State.sendEvent
  rw [if_neg (by simp [hf])]

theorem sendClock_of_follower (cause : ClockCause) : s.sendClock cause = s := by
  unfold State.sendClock
  rw [if_neg (by simp [hf])]

theorem handChange_of_follower (c : Change) : s.handChange c = s := sendEvent_of_follower hf c _

/-- A follower ignores its RUN line (R29). -/
theorem sampleLine_of_follower : s.sampleLine = s := by
  unfold State.sampleLine State.lineIgnored
  rw [if_pos (by simp [hf])]

end

/-! ## Level-1 releases and clock resets -/

section
variable (s : State)

theorem standsAt_of_zones {s t : State} (h : t.canvas.zones = s.canvas.zones) (zone level : Nat) :
    t.standsAt zone level = s.standsAt zone level := by
  unfold State.standsAt
  rw [zone_of_canvas h]

theorem Frame.standsAt {P : List Part} {s t : State} (h : Frame P s t) (zone level : Nat)
    (hP : P.contains .zones = false := by decide) : t.standsAt zone level = s.standsAt zone level :=
  standsAt_of_zones (h.zones hP) zone level

theorem releaseLevelOne_timing (phase : Phase) :
    (s.releaseLevelOne phase).timing = { s.timing with phase := phase, outstanding := [] } := by
  have h := (endAll_frame s .released (s.timing.outstanding.map fun z => (z, 1))).clock
  unfold State.releaseLevelOne
  rw [mapTiming_timing, h]

theorem releaseLevelOne_record (phase : Phase) : (s.releaseLevelOne phase).record = s.record :=
  endAll_record s .released _ (by simp)

theorem releaseLevelOne_ends (phase : Phase) {zone : Nat} (hz : zone ∈ s.timing.outstanding) :
    (s.releaseLevelOne phase).standsAt zone 1 = none :=
  endAll_ends s .released _ (i := (zone, 1)) (by simpa using hz) (by simp) (by simp)

/-- The timing unit after the reset of R36. -/
def Timing.atReset (t : Timing) : Timing :=
  { t with
    v := clockStartValue t.rules, atLimit := false, expiryPending := false, regulation := false
    play := t.rules.playPrimary * 1000, phase := .idle, outstanding := [] }

theorem resetClocks_timing : s.resetClocks.timing = s.timing.atReset := releaseLevelOne_timing (s.mapTiming _) .idle

theorem resetClocks_record : s.resetClocks.record = s.record := releaseLevelOne_record (s.mapTiming _) .idle

theorem resetClocks_ends {zone : Nat} (hz : zone ∈ s.timing.outstanding) : s.resetClocks.standsAt zone 1 = none :=
  releaseLevelOne_ends (s.mapTiming _) .idle hz

theorem resetClocks_reports : Reports endNoise s s.resetClocks [] :=
  ((mapTiming_reports s _).next (releaseLevelOne_reports _ _)).mono

end

end Sys2Proof.Machine
end

section
namespace Sys2Proof.Machine

set_option Elab.async false

/-! ## Requests of states that agree in what requests read -/

/-- Two states agree in what a request and an evaluation read: canvas, channels and run state (R104, R108, R152). -/
structure Agree (s t : State) : Prop where
  canvas : t.canvas = s.canvas
  replay : t.replay = s.replay
  run : t.timing.run = s.timing.run

section
variable {s t : State}

theorem Agree.chan (h : Agree s t) (ch : Channel) : t.chan ch = s.chan ch := by
  unfold State.chan
  rw [h.replay]

theorem Agree.zone (h : Agree s t) (zone : Nat) : t.zone? zone = s.zone? zone := zone_of_canvas (congrArg _ h.canvas) zone

theorem Agree.mapArb (h : Agree s t) (zone : Nat) (f : ZoneArb → ZoneArb) : Agree (s.mapArb zone f) (t.mapArb zone f) where
  canvas := by
    show Canvas.mk .. = Canvas.mk ..
    rw [h.canvas]
  replay := h.replay
  run := h.run

theorem Agree.mapChan (h : Agree s t) (ch : Channel) (f : Chan → Chan) : Agree (s.mapChan ch f) (t.mapChan ch f) := by
  cases ch <;> exact ⟨h.canvas, by simp [State.mapChan, h.replay], h.run⟩

theorem Agree.noteGrant (h : Agree s t) (zone level : Nat) : Agree (s.noteGrant zone level) (t.noteGrant zone level) := by
  unfold State.noteGrant
  split
  · rw [h.chan]
    split
    · exact h.mapChan _ _
    · exact h
  · exact h

theorem Agree.evaluate (h : Agree s t) (zone : Nat) : Agree (s.evaluate zone) (t.evaluate zone) := by
  unfold State.evaluate
  rw [h.zone, h.run, h.canvas]
  cases (s.zone? zone).bind (·.nextGrant s.timing.run) with
  | none => exact h
  | some r => exact (h.mapArb zone _).noteGrant zone _

theorem Agree.request (h : Agree s t) (zone : Nat) (r : Request) (b : Bool) :
    Agree (s.request zone r b).1 (t.request zone r b).1 ∧ (t.request zone r b).2 = (s.request zone r b).2 := by
  have he := (h.mapArb zone (ZoneArb.record r)).evaluate zone
  unfold State.request
  rw [h.zone]
  cases s.zone? zone with
  | none => exact ⟨h, rfl⟩
  | some z =>
    dsimp only
    split
    · split
      · exact ⟨h.mapArb _ _, rfl⟩
      · exact ⟨h, rfl⟩
    · split
      · split
        · exact ⟨he, rfl⟩
        · exact ⟨h, rfl⟩
      · rw [he.zone]
        cases (((s.mapArb zone (ZoneArb.record r)).evaluate zone).zone? zone).bind (·.arb.serviceAt r.level) with
        | none => exact ⟨he, rfl⟩
        | some k => exact ⟨he, rfl⟩

/-- The zones that join stand behind those that joined before. -/
theorem requestAll_from (r : Request) (b : Bool) (zones : List Nat) (s : State) (out : List Nat) :
    zones.foldl (fun acc z =>
      let (s, a) := acc.1.request z r b
      (s, if a.joins then acc.2 ++ [z] else acc.2)) (s, out) = ((s.requestAll r b zones).1, out ++ (s.requestAll r b zones).2) := by
  unfold State.requestAll
  induction zones generalizing s out with
  | nil => simp
  | cons z zones ih =>
    simp only [List.foldl_cons]
    rw [ih, ih _ (if (s.request z r b).2.joins = true then [] ++ [z] else [])]
    split <;> simp

theorem requestAll_cons (r : Request) (b : Bool) (z : Nat) (zones : List Nat) (s : State) :
    s.requestAll r b (z :: zones) = (((s.request z r b).1.requestAll r b zones).1,
      (if (s.request z r b).2.joins then [z] else []) ++ ((s.request z r b).1.requestAll r b zones).2) :=
  requestAll_from r b zones (s.request z r b).1 _

theorem Agree.requestAll (h : Agree s t) (r : Request) (b : Bool) (zones : List Nat) :
    Agree (s.requestAll r b zones).1 (t.requestAll r b zones).1 ∧ (t.requestAll r b zones).2 = (s.requestAll r b zones).2 := by
  induction zones generalizing s t with
  | nil => exact ⟨h, rfl⟩
  | cons z zones ih =>
    obtain ⟨h1, h2⟩ := h.request z r b
    obtain ⟨h3, h4⟩ := ih h1
    rw [requestAll_cons, requestAll_cons, h2, h4]
    exact ⟨h3, rfl⟩

/-- A score event reaches canvas, channels and outstanding zones alike from states that agree (R63). -/
theorem Agree.requestScoreEvent (h : Agree s t) (hs : t.rotation.sponsors = s.rotation.sponsors)
    (hc : t.record.game.config = s.record.game.config) (ho : t.record.outstanding = s.record.outstanding) (team : Team) :
    Agree (s.requestScoreEvent team) (t.requestScoreEvent team) ∧
      (t.requestScoreEvent team).record.outstanding = (s.requestScoreEvent team).record.outstanding := by
  have hz : t.scoreEventZones = s.scoreEventZones := by simp only [State.scoreEventZones, State.zonesWith, h.canvas]
  have hf (n : Nat) : t.toFrames n = s.toFrames n := by simp only [State.toFrames, h.canvas]
  have hk : t.sponsorDefined = s.sponsorDefined := by
    funext id
    simp only [State.sponsorDefined, hs]
  unfold State.requestScoreEvent
  dsimp only
  rw [hc, hz, hf, hk]
  cases team
  all_goals
    dsimp only
    split
    · exact ⟨h, ho⟩
    · next a _ =>
      obtain ⟨h1, h2⟩ := h.requestAll ⟨2, .asset a, some (s.toFrames s.record.game.config.duration),
        s.record.game.config.sponsor.filter s.sponsorDefined⟩ true s.scoreEventZones
      rw [h2]
      refine ⟨⟨h1.canvas, h1.replay, h1.run⟩, ?_⟩
      rw [mapRecord_record, mapRecord_record, (requestAll_frame t _ _ _).record, (requestAll_frame s _ _ _).record, ho]

end

/-! ## What a follower makes of each change (R80) -/

theorem appendLog_eq (e : LogEntry) (log : List LogEntry) :
    appendLog e log = (if 32 ≤ log.length then log.tail else log) ++ [e] := by
  unfold appendLog
  split <;> rfl

theorem hear_event {e : EventRecord} {s : State} (hd : s.due = []) (hr : s.twin.role ≠ .off) (hs : s.twin.state = .follower) :
    exec (.twinEventReceived e) s = .next ((s.mapTwin Twin.heard).followEvent e) := by
  show Host.Outcome.next (s.settle.hearTwin (State.takeEvent e)) = _
  rw [settle_of_due_nil s hd]
  have h : (s.mapTwin Twin.heard).twin.state = .follower := hs
  unfold State.hearTwin State.takeEvent
  rw [if_neg hr, h]

/-- The state with a score added and reported, before its score event is requested (R60). -/
def State.scored (team : Team) (points seq : Nat) (s : State) : State :=
  let old := teamOf s.record.game team
  let d := appliedPoints points old.score
  (s.mapGame fun g =>
    { setTeam team { old with score := old.score + d } g with
      log := appendLog ⟨seq, .add false, team, d, old.score + d, s.record.game.period, s.timing.v⟩ g.log
      nextSeq := nextNumber seq }).raise .scoreChanged
        (.scoreChanged seq team d (old.score + d) s.record.game.period)

/-- The record cleared for the next period, but for its number (R55). -/
def RecordFields.perPeriod (g : RecordFields) : RecordFields :=
  { g with
    home := { g.home with fouls := 0 }, guest := { g.guest with fouls := 0 }
    fields := g.fields.map fun f => if f.defn.perPeriod then { f with value := 0 } else f }

/-- The state after the releases of levels 1 and 2 that a game open makes (R54, steps 1 to 6). -/
def State.cleared (s : State) : State :=
  let a := (s.mapGame newGameRecord).resetClocks
  a.endAll .released (a.record.outstanding.map fun z => (z, 2))

section
variable {s : State} (hs : s.twin.state = .follower)
include hs

theorem addScore_of_follower (team : Team) (points seq : Nat) : s.addScore team points seq =
    if 0 < appliedPoints points (teamOf s.record.game team).score then (s.scored team points seq).requestScoreEvent team
    else s.scored team points seq := by
  unfold State.addScore
  refine sendEvent_of_follower ?_ _ _
  split
  · rw [(requestScoreEvent_frame _ team).twin]
    exact hs
  · exact hs

theorem reviseScore_of_follower (x : LogEntry) (seq : Nat) : s.reviseScore x seq =
    (s.mapGame fun g =>
      { setTeam x.team { teamOf s.record.game x.team with
            score := (teamOf s.record.game x.team).score - min (teamOf s.record.game x.team).score x.delta.toNat } g with
        log := appendLog ⟨seq, .revise x.seq, x.team, -(min (teamOf s.record.game x.team).score x.delta.toNat : Nat),
          (teamOf s.record.game x.team).score - min (teamOf s.record.game x.team).score x.delta.toNat,
          s.record.game.period, s.timing.v⟩ (markRevised x.seq s.record.game.log)
        nextSeq := nextNumber seq }).raise .scoreCorrected (.scoreCorrected seq x.seq x.team
          (-(min (teamOf s.record.game x.team).score x.delta.toNat : Nat))
          ((teamOf s.record.game x.team).score - min (teamOf s.record.game x.team).score x.delta.toNat)) :=
  sendEvent_of_follower (by exact hs) _ _

theorem openGame_of_follower (cause : SessionCause) : s.openGame cause =
    (s.cleared.clearExposure.mapGame fun g => { g with session := .setup }).raiseSession s.record.game.session cause := by
  have hk : s.cleared.twin.state = .follower := by
    unfold State.cleared
    rw [(endAll_frame _ _ _).twin, (resetClocks_frame (s.mapGame newGameRecord)).twin]
    exact hs
  unfold State.openGame
  dsimp only
  rw [sampleLine_of_follower (by exact hk), ite_self, handChange_of_follower (by exact hk), sendClock_of_follower (by exact hk)]
  rfl

theorem finalGame_of_follower (cause : SessionCause) : s.finalGame cause =
    (s.mapGame fun g => { g with session := .final }).raiseSession s.record.game.session cause := by
  unfold State.finalGame
  dsimp only
  rw [if_pos hs, handChange_of_follower (by exact hs)]

theorem applyTeam_of_follower (team : Team) (f : TeamFields) : s.applyTeam team f = s.mapGame fun g =>
    { setTeam team (applyFields (clampFields f) (teamOf g team)) g with
      possession := (clampFields f).possession.getD g.possession } := handChange_of_follower (by exact hs) _

theorem applyDefs_of_follower (defs : List FieldDef) : s.applyDefs defs = s.mapGame fun g =>
    { g with fields := defs.map fun d => ⟨d, 0⟩ } := handChange_of_follower (by exact hs) _

theorem applyField_of_follower (index value : Nat) : s.applyField index value = s.mapGame fun g =>
    { g with fields := g.fields.modify index fun f => { f with value := fieldClamped index value s.record.game } } :=
  handChange_of_follower (by exact hs) _

theorem applyConfig_of_follower (config : RecordConfig) : s.applyConfig config = s.mapGame fun g => { g with config := config } :=
  handChange_of_follower (by exact hs) _

theorem advancePeriod_of_follower (cause : SessionCause) : s.advancePeriod cause =
    (((s.mapGame fun g => { g with period := g.period + 1 }).resetClocks).mapGame RecordFields.perPeriod).raiseSession
      s.record.game.session cause := by
  have h : (s.mapGame fun g => { g with period := g.period + 1 }).resetClocks.twin = s.twin :=
    (resetClocks_frame (s.mapGame _)).twin
  unfold State.advancePeriod
  dsimp only
  rw [handChange_of_follower (by exact h ▸ hs), sendClock_of_follower (by exact h ▸ hs)]
  rfl

end

/-! ### The state after a game open's releases -/

section
variable (s : State)

theorem cleared_twin : s.cleared.twin = s.twin :=
  (endAll_frame _ _ _).twin.trans (resetClocks_frame (s.mapGame newGameRecord)).twin

theorem cleared_game : s.cleared.record.game = newGameRecord s.record.game :=
  (endAll_frame _ _ _).game.trans (congrArg GameRecord.game (resetClocks_record (s.mapGame newGameRecord)))

theorem cleared_timing : s.cleared.timing = s.timing.atReset := by
  unfold State.cleared
  rw [endAll_timing _ _ _ (by simp), resetClocks_timing]
  rfl

theorem cleared_exposure : s.cleared.exposure = s.exposure :=
  (endAll_frame _ _ _).exposure.trans (resetClocks_frame (s.mapGame newGameRecord)).exposure

theorem cleared_levelOne {zone : Nat} (hz : zone ∈ s.timing.outstanding) : s.cleared.standsAt zone 1 = none :=
  endAll_free _ _ _ (by decide) (by decide) (resetClocks_ends (s.mapGame newGameRecord) hz)

theorem cleared_levelTwo {zone : Nat} (hz : zone ∈ s.record.outstanding) : s.cleared.standsAt zone 2 = none := by
  unfold State.cleared
  refine endAll_ends _ _ _ (i := (zone, 2)) ?_ (by simp) (by simp)
  rw [resetClocks_record]
  simpa using hz

theorem cleared_reports : Reports endNoise s s.cleared [] :=
  ((mapGame_reports s _).next (resetClocks_reports _)).quiet (endAll_reports _ .released _)

/-- The counters of a game open (R187). -/
theorem openGame_exposed (x : Exposed) : x.openGame =
    { x with
      delivered := 0, visibleFrames := 0, appearances := 0, shortAppearances := 0, featureFrames := 0
      taggedFrames := 0, p50 := x.quota.any fun q => q * 50 / 100 == 0
      p75 := x.quota.any fun q => q * 75 / 100 == 0, p100 := false, fulfilled := false } := by
  cases hq : x.quota <;> simp [Exposed.openGame, Exposed.reset, hq, milestoneValue]

end

/-! ## The next state of an EVENT that a follower expects -/

section
variable {s : State} (hs : s.twin.state = .follower)
include hs

theorem applyChange_keepsTwin (c : Change) (n : Nat) : (s.applyChange c n).twin = s.twin := by
  cases c <;> dsimp only [State.applyChange]
  case scoreAdd team points =>
    rw [addScore_of_follower hs]
    split
    · exact (requestScoreEvent_frame _ team).twin
    · rfl
  case scoreRevise seq =>
    split
    · rw [reviseScore_of_follower hs]
      rfl
    · rfl
  case gameOpen =>
    rw [mapGame_twin, openGame_of_follower hs]
    exact (raiseSession_frame _ _ _).twin.trans ((session_frame _ _).twin.trans
      ((clearExposure_frame _).twin.trans (cleared_twin s)))
  case gameFinal =>
    rw [mapGame_twin, finalGame_of_follower hs]
    rfl
  case nextPeriod =>
    rw [mapGame_twin, advancePeriod_of_follower hs]
    exact (raiseSession_frame _ _ _).twin.trans (resetClocks_frame (s.mapGame _)).twin
  case teamSet team f => rw [mapGame_twin, applyTeam_of_follower hs, mapGame_twin]
  case fieldDefine defs => rw [mapGame_twin, applyDefs_of_follower hs, mapGame_twin]
  case fieldSet index value => rw [mapGame_twin, applyField_of_follower hs, mapGame_twin]
  case recordConfig config => rw [mapGame_twin, applyConfig_of_follower hs, mapGame_twin]

end

theorem mapTwin_standsAt (s : State) (f : Twin → Twin) (zone level : Nat) :
    (s.mapTwin f).standsAt zone level = s.standsAt zone level := rfl

theorem mapGame_standsAt (s : State) (f : RecordFields → RecordFields) (zone level : Nat) :
    (s.mapGame f).standsAt zone level = s.standsAt zone level := rfl

theorem event_reports {s t : State} {es : List (Cond × Detail)} (h : Reports endNoise s t es) (g : RecordFields → RecordFields)
    (f : Twin → Twin) : Reports endNoise s ((t.mapGame g).mapTwin f) es :=
  (h.quiet (mapGame_reports (K := []) t g)).quiet (mapTwin_reports (K := []) (t.mapGame g) f)

/-- What a mirrored SCORE_ADD makes: the record and the score event as the follower's own would be (R60, R63, R80). -/
theorem addScore_mirrors {s : State} {f : Twin → Twin} (hu : (s.mapTwin f).twin.state = .follower) (team : Team) (points seq : Nat) :
    let old := teamOf s.record.game team
    let d := appliedPoints points old.score
    let asked := if 0 < d then s.requestScoreEvent team else s
    let t := (s.mapTwin f).addScore team points seq
    t.record.game = (s.scored team points seq).record.game ∧ t.canvas = asked.canvas ∧ t.replay = asked.replay ∧
      t.record.outstanding = asked.record.outstanding ∧ t.timing = s.timing ∧ t.exposure = s.exposure ∧
      Reports endNoise s t [(.scoreChanged, .scoreChanged seq team d (old.score + d) s.record.game.period)] := by
  dsimp only
  rw [addScore_of_follower hu]
  have hr : Reports endNoise s ((s.mapTwin f).scored team points seq) _ :=
    (mapTwin_reports s f).next ((mapGame_reports (s.mapTwin f) _).next (.raise (by decide) _ _))
  by_cases hd : 0 < appliedPoints points (teamOf s.record.game team).score <;>
    simp only [mapTwin_record, hd, if_true, if_false]
  · have hf := requestScoreEvent_frame ((s.mapTwin f).scored team points seq) team
    obtain ⟨ha, ho⟩ := Agree.requestScoreEvent (s := s) (t := (s.mapTwin f).scored team points seq) ⟨rfl, rfl, rfl⟩ rfl
      (by cases team <;> rfl) rfl team
    exact ⟨hf.game, ha.canvas, ha.replay, ho, hf.timing, hf.exposure, hr.quiet (requestScoreEvent_reports _ _)⟩
  · exact ⟨rfl, rfl, rfl, rfl, rfl, rfl, hr⟩

/-- What a mirrored SCORE_REVISE of an entry makes (R61, R80). -/
theorem reviseScore_mirrors {s : State} {f : Twin → Twin} (hu : (s.mapTwin f).twin.state = .follower) (x : LogEntry) (seq : Nat) :
    let old := teamOf s.record.game x.team
    let d := min old.score x.delta.toNat
    let t := (s.mapTwin f).reviseScore x seq
    t.record.game =
        { setTeam x.team { old with score := old.score - d } s.record.game with
          log := appendLog ⟨seq, .revise x.seq, x.team, -(d : Int), old.score - d, s.record.game.period, s.timing.v⟩
            (markRevised x.seq s.record.game.log)
          nextSeq := nextNumber seq } ∧
      t.canvas = s.canvas ∧ t.timing = s.timing ∧ t.exposure = s.exposure ∧
      Reports endNoise s t [(.scoreCorrected, .scoreCorrected seq x.seq x.team (-(d : Int)) (old.score - d))] := by
  dsimp only
  rw [reviseScore_of_follower hu]
  exact ⟨rfl, rfl, rfl, rfl, (mapTwin_reports s f).next ((mapGame_reports (s.mapTwin f) _).next (.raise (by decide) _ _))⟩

/-- What a mirrored GAME_OPEN makes (R54, R187). -/
theorem openGame_mirrors {s : State} {f : Twin → Twin} (hu : (s.mapTwin f).twin.state = .follower) :
    let t := (s.mapTwin f).openGame .mirror
    t.record.game = { newGameRecord s.record.game with session := .setup } ∧ t.timing = s.timing.atReset ∧
      (∀ zone ∈ s.timing.outstanding, t.standsAt zone 1 = none) ∧
      (∀ zone ∈ s.record.outstanding, t.standsAt zone 2 = none) ∧
      t.exposure = { s.exposure with ids := s.exposure.ids.map Exposed.openGame } ∧
      Reports endNoise s t [(.sessionChanged, .sessionChanged s.record.game.session .setup .mirror 1)] := by
  dsimp only
  rw [openGame_of_follower hu]
  have hx := clearExposure_frame (s.mapTwin f).cleared
  have hc : Frame [.session, .exposure] (s.mapTwin f).cleared (((s.mapTwin f).cleared.clearExposure.mapGame fun g =>
      { g with session := .setup }).raiseSession s.record.game.session .mirror) :=
    ((Frame.mono hx).next (session_frame _ _)).next (raiseSession_frame _ _ _)
  have hg : (s.mapTwin f).cleared.clearExposure.record.game = newGameRecord s.record.game :=
    hx.game.trans (cleared_game (s.mapTwin f))
  refine ⟨congrArg (fun g => { g with session := .setup }) hg, hc.timing.trans (cleared_timing _),
    fun zone hz => (hc.standsAt zone 1).trans (cleared_levelOne _ hz),
    fun zone hz => (hc.standsAt zone 2).trans (cleared_levelTwo _ hz),
    congrArg (fun e => { e with ids := e.ids.map Exposed.openGame }) (cleared_exposure (s.mapTwin f)), ?_⟩
  have hp : (s.mapTwin f).cleared.clearExposure.record.game.period = 1 := by rw [hg]; rfl
  have hr := (((mapTwin_reports s f).next (cleared_reports _)).next (mapExposure_reports _ _)).next
    ((mapGame_reports (s.mapTwin f).cleared.clearExposure fun g => { g with session := .setup }).next
      (.raise (c := .sessionChanged) (by decide) _ (.sessionChanged s.record.game.session .setup .mirror 1)))
  unfold State.raiseSession
  rw [show ((s.mapTwin f).cleared.clearExposure.mapGame fun g => { g with session := .setup }).record.game.period = 1 from hp]
  exact hr

/-- What a mirrored GAME_FINAL makes (R53). -/
theorem finalGame_mirrors {s : State} {f : Twin → Twin} (hu : (s.mapTwin f).twin.state = .follower) :
    let t := (s.mapTwin f).finalGame .mirror
    t.record.game = { s.record.game with session := .final } ∧ t.timing = s.timing ∧ t.canvas = s.canvas ∧
      t.exposure = s.exposure ∧ Reports endNoise s t
        [(.sessionChanged, .sessionChanged s.record.game.session .final .mirror s.record.game.period)] := by
  dsimp only
  rw [finalGame_of_follower hu]
  exact ⟨rfl, rfl, rfl, rfl, (mapTwin_reports s f).next ((mapGame_reports (s.mapTwin f) _).next (.raise (by decide) _ _))⟩

/-- What a mirrored NEXT_PERIOD makes (R55). -/
theorem advancePeriod_mirrors {s : State} {f : Twin → Twin} (hu : (s.mapTwin f).twin.state = .follower) :
    let t := (s.mapTwin f).advancePeriod .mirror
    t.record.game = RecordFields.perPeriod { s.record.game with period := s.record.game.period + 1 } ∧
      t.timing = s.timing.atReset ∧ (∀ zone ∈ s.timing.outstanding, t.standsAt zone 1 = none) ∧
      t.exposure = s.exposure ∧ Reports endNoise s t
        [(.sessionChanged, .sessionChanged s.record.game.session s.record.game.session .mirror (s.record.game.period + 1))] := by
  dsimp only
  rw [advancePeriod_of_follower hu]
  have hg := congrArg GameRecord.game (resetClocks_record ((s.mapTwin f).mapGame fun g => { g with period := g.period + 1 }))
  have hc : Frame [.game] (((s.mapTwin f).mapGame fun g => { g with period := g.period + 1 }).resetClocks)
      (((((s.mapTwin f).mapGame fun g => { g with period := g.period + 1 }).resetClocks).mapGame
        RecordFields.perPeriod).raiseSession s.record.game.session .mirror) :=
    (game_frame _ _ fun _ => by rfl).next (raiseSession_frame _ _ _)
  refine ⟨congrArg RecordFields.perPeriod hg, hc.timing.trans (resetClocks_timing _),
    fun zone hz => (hc.standsAt zone 1).trans (resetClocks_ends (s := (s.mapTwin f).mapGame _) hz),
    hc.exposure.trans (resetClocks_frame ((s.mapTwin f).mapGame _)).exposure, ?_⟩
  have hp : (((s.mapTwin f).mapGame fun g => { g with period := g.period + 1 }).resetClocks.record.game.period =
      s.record.game.period + 1) := congrArg RecordFields.period hg
  have hs : (((s.mapTwin f).mapGame fun g => { g with period := g.period + 1 }).resetClocks.record.game.session =
      s.record.game.session) := (congrArg RecordFields.session hg).trans rfl
  have hr := (((mapTwin_reports s f).next (mapGame_reports _ fun g => { g with period := g.period + 1 })).next
    (resetClocks_reports _)).next ((mapGame_reports _ RecordFields.perPeriod).next
      (.raise (c := .sessionChanged) (by decide) _
        (.sessionChanged s.record.game.session s.record.game.session .mirror (s.record.game.period + 1))))
  unfold State.raiseSession
  rw [mapGame_game]
  dsimp only [RecordFields.perPeriod]
  rw [hp, hs]
  exact hr

/-- A field of a record set to a value, clamped to its own maximum (R58). -/
theorem modify_fieldClamped (g : RecordFields) (index value : Nat) :
    (g.fields.modify index fun f => { f with value := fieldClamped index value g }) =
      g.fields.modify index fun f => { f with value := min value f.defn.maximum } := by
  apply List.ext_getElem?
  intro i
  rw [List.getElem?_modify, List.getElem?_modify]
  split
  · next hi =>
    subst hi
    cases h : g.fields[index]? with
    | none => rfl
    | some f => simp [fieldClamped, h]
  · rfl

end Sys2Proof.Machine

namespace Sys2Proof

open Machine

/-- Settles O30, change by change: a follower sends nothing of its own, so each operation is its effect on the record with
the ends it brings. -/
theorem eventsAreAppliedInOrder : Obligations.EventsAreAppliedInOrder := by
  unfold Obligations.EventsAreAppliedInOrder
  intro e s hd hr hs
  have hu : (s.mapTwin Twin.heard).twin.state = .follower := hs
  rw [hear_event hd hr hs]
  dsimp only
  refine ⟨fun hn => ?_, fun hn he => ?_, fun hn he => ?_⟩
  · unfold State.followEvent
    rw [if_pos (by exact hn)]
    rfl
  · unfold State.followEvent
    rw [if_neg (by exact Bool.eq_false_iff.mp hn), if_neg (by exact he)]
    rfl
  · have hx : (s.mapTwin Twin.heard).followEvent e =
        ((s.mapTwin Twin.heard).applyChange e.change e.logSeq).mapTwin fun t => { t with eventNo := e.number } := by
      unfold State.followEvent
      rw [if_neg (by exact Bool.eq_false_iff.mp hn), if_pos (by exact he)]
    have hframe : Frame ([.game, .twin, .exposure] ++ expiryParts) s _ :=
      (Frame.mono (heard_frame s)).next (followEvent_frame (s.mapTwin Twin.heard) e)
    rw [hx] at hframe ⊢
    refine ⟨_, rfl, ?_, hframe, ?_⟩
    · rw [mapTwin_twin, applyChange_keepsTwin hu]
      rfl
    · obtain ⟨number, change, logSeq⟩ := e
      cases change with
      | scoreAdd team points =>
        obtain ⟨h1, h2, h3, h4, h5, h6, hr⟩ := addScore_mirrors hu team points logSeq
        refine ⟨h1.trans ?_, h2, h3, h4, h5, h6, fun hw => ?_⟩
        · simp only [State.scored, appendLog_eq]
          rfl
        · have hr' := hr.quiet (mapTwin_reports (K := []) _ fun t => { t with eventNo := number })
          exact ⟨hr'.gains hw, hr'.gains hw, hr'.gains hw⟩
      | scoreRevise seq =>
        dsimp only [State.applyChange, findEntry, mapTwin_record]
        cases hx : s.record.game.log.find? (·.seq == seq) with
        | none => exact ⟨fun _ => rfl, fun x hx => by simp at hx⟩
        | some x =>
          obtain ⟨h1, h2, h3, h4, hr⟩ := reviseScore_mirrors hu x logSeq
          have hq : x.seq = seq := by simpa using List.find?_some hx
          refine ⟨fun hn => by simp at hn, fun y hy => ?_⟩
          cases hy
          subst hq
          refine ⟨h1.trans ?_, h2, h3, h4, fun hw => ?_⟩
          · rw [appendLog_eq]
            rfl
          · have hr' := hr.quiet (mapTwin_reports (K := []) _ fun t => { t with eventNo := number })
            exact ⟨hr'.gains hw, hr'.gains hw, hr'.gains hw⟩
      | gameOpen =>
        dsimp only [State.applyChange]
        obtain ⟨h1, h2, h3, h4, h5, hr⟩ := openGame_mirrors hu
        have hr' := event_reports hr (fun g => { g with nextSeq := logSeq }) fun t => { t with eventNo := number }
        simp only [mapTwin_record, mapGame_game, mapTwin_timing, mapGame_timing, mapTwin_exposure, mapGame_exposure,
          mapTwin_standsAt, mapGame_standsAt]
        refine ⟨by rw [h1]; rfl, ⟨h2, h3⟩, h4, by rw [h5], ?_, fun hw => hr'.gains hw⟩
        rw [h5]
        exact List.map_congr_left fun x _ => openGame_exposed x
      | gameFinal =>
        dsimp only [State.applyChange]
        obtain ⟨h1, h2, h3, h4, hr⟩ := finalGame_mirrors hu
        have hr' := event_reports hr (fun g => { g with nextSeq := logSeq }) fun t => { t with eventNo := number }
        exact ⟨congrArg (fun g => { g with nextSeq := logSeq }) h1, h2, h3, h4, fun hw => hr'.gains hw⟩
      | nextPeriod =>
        dsimp only [State.applyChange]
        obtain ⟨h1, h2, h3, h4, hr⟩ := advancePeriod_mirrors hu
        have hr' := event_reports hr (fun g => { g with nextSeq := logSeq }) fun t => { t with eventNo := number }
        simp only [mapTwin_record, mapGame_game, mapTwin_timing, mapGame_timing, mapTwin_exposure, mapGame_exposure,
          mapTwin_standsAt, mapGame_standsAt]
        exact ⟨by rw [h1]; rfl, ⟨h2, h3⟩, h4, fun hw => hr'.gains hw⟩
      | teamSet team f =>
        dsimp only [State.applyChange]
        rw [applyTeam_of_follower hu]
        rfl
      | fieldDefine defs =>
        dsimp only [State.applyChange]
        rw [applyDefs_of_follower hu]
        rfl
      | fieldSet index value =>
        dsimp only [State.applyChange]
        rw [applyField_of_follower hu, ← modify_fieldClamped]
        rfl
      | recordConfig config =>
        dsimp only [State.applyChange]
        rw [applyConfig_of_follower hu]
        rfl

end Sys2Proof
end

section
namespace Sys2Proof.Machine

set_option Elab.async false

/-! ## Clock, session and what is recorded, along the operations of the timing unit -/

/-- The timing unit but for what ends of level 1 and the horns reach. -/
def Timing.bare (t : Timing) : Timing := { t with phase := .idle, outstanding := [], gameHorn := none, playHorn := none }

theorem Frame.bare {P : List Part} {s t : State} (h : Frame P s t) (hP : P.contains .clock = false := by decide) :
    t.timing.bare = s.timing.bare := h.same .clock (by simpa using hP)

/-- From `s` to `t` the clock comes to stand as in `m` and the session as `x`; twin unit and game record stand otherwise, and
the conditions `es` are recorded, but for those that ends bring with them. -/
structure RunsTo (s t : State) (m : Timing) (x : Session) (es : List (Cond × Detail)) : Prop where
  clock : t.timing.bare = m.bare
  game : t.record.game = { s.record.game with session := x }
  twin : t.twin = s.twin
  reports : Reports endNoise s t es

/-- The start of a chain of operations. -/
theorem RunsTo.start (s : State) : RunsTo s s s.timing s.record.game.session [] := ⟨rfl, rfl, rfl, .refl _ s⟩

section
variable {s t u : State} {m : Timing} {x : Session} {es : List (Cond × Detail)}

/-- An operation that leaves clock, record and twin unit and records at most what ends bring. -/
theorem RunsTo.quiet {P : List Part} {K : List Cond} (h : RunsTo s t m x es) (k : Frame P t u) (r : Reports K t u [])
    (hP : [Part.clock, .session, .game, .twin, .twinOut].all (fun p => !P.contains p) = true := by decide)
    (hK : K.all (fun c => endNoise.contains c) = true := by decide) : RunsTo s u m x es := by
  simp only [List.all_cons, List.all_nil, Bool.and_true, Bool.and_eq_true, Bool.not_eq_true'] at hP
  obtain ⟨hc, hs, hg, ht, ho⟩ := hP
  exact ⟨(k.bare hc).trans h.clock, (k.game (by rw [hs, hg]; rfl)).trans h.game, (k.twin (by rw [ht, ho]; rfl)).trans h.twin,
    h.reports.quiet r hK⟩

theorem RunsTo.raise (h : RunsTo s t m x es) {c : Cond} (d : Detail) (hc : endNoise.contains c = false := by decide) :
    RunsTo s (t.raise c d) m x (es ++ [(c, d)]) :=
  ⟨h.clock, h.game, h.twin, h.reports.next (.raise hc t d)⟩

/-- An update of the clock. -/
theorem RunsTo.mapTiming (h : RunsTo s t m x es) (f : Timing → Timing) (hf : ∀ a, (f a).bare = (f a.bare).bare) :
    RunsTo s (t.mapTiming f) (f m) x es where
  clock := (hf t.timing).trans ((congrArg (fun a => (f a).bare) h.clock).trans (hf m).symm)
  game := h.game
  twin := h.twin
  reports := h.reports.quiet (mapTiming_reports (K := []) t f)

/-- What is read of the clock. -/
theorem RunsTo.reads (h : RunsTo s t m x es) {α : Type} (f : Timing → α) (hf : ∀ a, f a = f a.bare := by exact fun _ => rfl) :
    f t.timing = f m := (hf _).trans ((congrArg f h.clock).trans (hf m).symm)

theorem RunsTo.session (h : RunsTo s t m x es) : t.record.game.session = x := (congrArg RecordFields.session h.game).trans rfl
theorem RunsTo.period (h : RunsTo s t m x es) : t.record.game.period = s.record.game.period :=
  (congrArg RecordFields.period h.game).trans rfl

theorem RunsTo.horn (h : RunsTo s t m x es) (which : Horn) : RunsTo s (t.hornSounds which) m x es :=
  h.quiet (hornSounds_frame t which) (mapTiming_reports (K := []) t _)

/-- A part that is not MASTER sends no CLOCK (R77). -/
theorem sendClock_of_not_master {s : State} (hs : s.twin.state ≠ .master) (cause : ClockCause) : s.sendClock cause = s := by
  unfold State.sendClock
  rw [if_neg hs]

theorem RunsTo.sendClock (h : RunsTo s t m x es) (hs : s.twin.state ≠ .master) (cause : ClockCause) :
    RunsTo s (t.sendClock cause) m x es := by
  rw [sendClock_of_not_master (h.twin ▸ hs)]
  exact h

/-- The session after a run change (step 3 of R31). -/
def sessionAfter (run : RunState) (x : Session) : Session := if run = .running ∧ x = .setup then .inGame else x

/-- What a run change records of the session (step 3 of R31). -/
def sessionStarts (run : RunState) (x : Session) (period : Nat) : List (Cond × Detail) :=
  if run = .running ∧ x = .setup then [(.sessionChanged, .sessionChanged .setup .inGame .start period)] else []

theorem RunsTo.sessionStart (h : RunsTo s t m x es) (run : RunState) :
    RunsTo s (t.sessionStart run) m (sessionAfter run x) (es ++ sessionStarts run x s.record.game.period) := by
  unfold State.sessionStart sessionAfter sessionStarts
  rw [h.session, h.period]
  split
  · exact ⟨h.clock, congrArg (fun g : RecordFields => { g with session := .inGame }) h.game, h.twin,
      h.reports.next ((mapGame_reports t fun g => { g with session := .inGame }).next (.raise (by decide) _ _))⟩
  · exact ⟨h.clock, h.game, h.twin, h.reports.next (.refl _ t)⟩

/-- A confirmed run change (R31). -/
theorem RunsTo.handOn (h : RunsTo s t m x es) (hs : s.twin.state ≠ .master) (cause : RunCause) (n : Nat) :
    RunsTo s (t.handOn cause n) m (sessionAfter m.run x)
      (es ++ [(.runChanged, .runChanged m.run cause m.v n)] ++ sessionStarts m.run x s.record.game.period) := by
  unfold State.handOn
  dsimp only
  rw [h.reads Timing.run, h.reads Timing.v]
  have h1 := h.raise (c := .runChanged) (.runChanged m.run cause m.v n)
  generalize m.run = run at h1 ⊢
  cases run with
  | running => exact ((h1.quiet (arbiterStart_frame _) (arbiterStart_reports _)).sessionStart _).sendClock hs _
  | stopped => exact ((h1.quiet (arbiterStop_frame _) (arbiterStop_reports _)).sessionStart _).sendClock hs _

theorem RunsTo.raiseExpired (h : RunsTo s t m x es) (cause : ExpiryCause) :
    RunsTo s (t.raiseExpired cause) m x
      (es ++ [(.clockExpired, .clockExpired cause s.record.game.period m.rules.direction m.v)]) := by
  unfold State.raiseExpired
  rw [h.period, h.reads Timing.rules, h.reads Timing.v]
  exact h.raise _

theorem RunsTo.raiseSession (h : RunsTo s t m x es) (before : Session) (cause : SessionCause) :
    RunsTo s (t.raiseSession before cause) m x
      (es ++ [(.sessionChanged, .sessionChanged before x cause s.record.game.period)]) := by
  unfold State.raiseSession
  rw [h.session, h.period]
  exact h.raise _

/-- The clock at a regulation crossing (R33). -/
def Timing.crosses (t : Timing) : Bool :=
  upRunOn t.rules && t.run == .running && !t.regulation && decide (t.rules.periodLength ≤ t.v)

theorem RunsTo.checkRegulation (h : RunsTo s t m x es) :
    RunsTo s t.checkRegulation (if m.crosses then { m with regulation := true } else m) x
      (es ++ if m.crosses then [(.clockExpired, .clockExpired .regulation s.record.game.period m.rules.direction m.v)] else []) := by
  have hc : t.timing.crosses = m.crosses := h.reads Timing.crosses
  unfold State.checkRegulation
  rw [show (upRunOn t.timing.rules && t.timing.run == .running && !t.timing.regulation &&
    decide (t.timing.rules.periodLength ≤ t.timing.v)) = m.crosses from hc]
  split
  · exact ((h.mapTiming (fun t => { t with regulation := true }) fun _ => rfl).raiseExpired _).horn _
  · exact ⟨h.clock, h.game, h.twin, h.reports.next (.refl _ t)⟩

/-- The clock at a declared expiry (R32). -/
def Timing.expired (t : Timing) : Timing :=
  { t with v := clockLimit t.rules, run := .stopped, atLimit := true, expiryPending := false }

/-- What a declared expiry records (R31 to R33). -/
def expiryReports (m : Timing) (period : Nat) : List (Cond × Detail) :=
  [(.runChanged, .runChanged .stopped .expiry (clockLimit m.rules) 0),
    (.clockExpired, .clockExpired (if upRunOn m.rules then .ceiling else .limit) period m.rules.direction (clockLimit m.rules))]

theorem RunsTo.expire (h : RunsTo s t m x es) (hs : s.twin.state ≠ .master) (asks : Bool) :
    RunsTo s (t.expire asks) m.expired x (es ++ expiryReports m s.record.game.period) := by
  have h1 := ((h.mapTiming Timing.expired fun _ => rfl).handOn hs .expiry 0).quiet (sendCountdown_frame _ asks)
    (sendCountdown_reports _ asks)
  have hr : Timing.rules (State.timing _) = m.rules := h1.reads Timing.rules
  unfold State.expire
  dsimp only
  have he : ∀ cause, es ++ [(Cond.runChanged, Detail.runChanged m.expired.run .expiry m.expired.v 0)] ++
      sessionStarts m.expired.run x s.record.game.period ++
      [(.clockExpired, .clockExpired cause s.record.game.period m.expired.rules.direction m.expired.v)] =
      es ++ [(.runChanged, .runChanged .stopped .expiry (clockLimit m.rules) 0),
        (.clockExpired, .clockExpired cause s.record.game.period m.rules.direction (clockLimit m.rules))] := by
    intro cause
    simp [Timing.expired, sessionStarts]
  unfold expiryReports
  split
  · next hu =>
    rw [if_pos (by exact hr ▸ hu), ← he]
    exact h1.raiseExpired .ceiling
  · next hu =>
    rw [if_neg (by exact hr ▸ hu), ← he]
    exact ((h1.raiseExpired .limit).horn _).quiet (periodEnd_frame _) (periodEnd_reports _)

/-- The clock at a declared play expiry (R39). -/
def Timing.playExpired (t : Timing) : Timing := { t with play := 0, playPending := false }

theorem RunsTo.playExpire (h : RunsTo s t m x es) (hs : s.twin.state ≠ .master) (blanked : Bool) :
    RunsTo s (t.playExpire blanked) m.playExpired x (es ++ [(.playExpired, .playExpired blanked m.v)]) := by
  have h1 := (h.mapTiming Timing.playExpired fun _ => rfl).raise (c := .playExpired) (.playExpired blanked m.v)
  unfold State.playExpire
  dsimp only
  rw [h.reads Timing.v]
  split
  · exact (h1.horn _).sendClock hs _
  · exact h1.sendClock hs _

/-- The clock at a declared break expiry (R42). -/
def Timing.breakExpired (t : Timing) : Timing := { t with brkRunning := false, brkValue := 0 }

theorem RunsTo.breakExpire (h : RunsTo s t m x es) (hs : s.twin.state ≠ .master) :
    RunsTo s t.breakExpire m.breakExpired x (es ++ [(.breakExpired, .breakExpired (m.brkLength / 1000) m.brkHorn)]) := by
  have h1 := (h.mapTiming Timing.breakExpired fun _ => rfl).raise (c := .breakExpired)
    (.breakExpired (m.brkLength / 1000) m.brkHorn)
  unfold State.breakExpire
  dsimp only
  rw [h.reads Timing.brkLength, h.reads Timing.brkHorn]
  split
  · exact ((h1.horn _).quiet (featureBreakExpiry_frame _) (featureBreakExpiry_reports _)).sendClock hs _
  · exact (h1.quiet (featureBreakExpiry_frame _) (featureBreakExpiry_reports _)).sendClock hs _

end

end Sys2Proof.Machine
end

section
namespace Sys2Proof.Machine

set_option Elab.async false

/-! ## A window that closes, and the first adoption -/

/-- The clock after a window closes unconfirmed (R28, R29). -/
def Timing.closed (t : Timing) : Timing :=
  match t.gate with
  | .steady => t
  | .startPending => t.gateSteady
  | .stopPending =>
    let a := { t.gateSteady with expiryPending := false, playPending := false }
    let b := if t.expiryPending then a.expired else a
    if t.playPending && t.playEnabled then b.playExpired else b

/-- What a window that closes records: the expiries that were pending (R28, R32, R39). -/
def closeReports (t : Timing) (period : Nat) : List (Cond × Detail) :=
  if t.gate = .stopPending then
    (if t.expiryPending then expiryReports t period else []) ++
      if t.playPending && t.playEnabled then
        [(.playExpired, .playExpired t.playZeroBlanked (if t.expiryPending then clockLimit t.rules else t.v))]
      else []
  else []

section
variable {s : State} (hs : s.twin.state ≠ .master)
include hs

theorem rejectStop_runsTo (hg : s.timing.gate = .stopPending) :
    RunsTo s s.rejectStop s.timing.closed s.record.game.session (closeReports s.timing s.record.game.period) := by
  have h := (RunsTo.start s).mapTiming (fun t => { t.gateSteady with expiryPending := false, playPending := false })
    fun _ => rfl
  unfold State.rejectStop Timing.closed closeReports
  rw [hg]
  dsimp only
  rw [if_pos rfl]
  cases s.timing.expiryPending
  · have h1 := h.sendClock hs .gate
    cases s.timing.playPending && s.timing.playEnabled
    · exact h1
    · exact h1.playExpire hs _
  · have h1 := h.expire hs false
    cases s.timing.playPending && s.timing.playEnabled
    · simp only [if_true, Bool.false_eq_true, if_false, List.append_nil]
      exact h1
    · exact h1.playExpire hs _

/-- A window that closes, in a part that is not MASTER (R28, R29). -/
theorem closeWindow_runsTo :
    RunsTo s s.closeWindow s.timing.closed s.record.game.session (closeReports s.timing s.record.game.period) := by
  cases hg : s.timing.gate with
  | steady =>
    simpa [State.closeWindow, Timing.closed, closeReports, hg] using RunsTo.start s
  | startPending =>
    simpa [State.closeWindow, Timing.closed, closeReports, hg] using
      ((RunsTo.start s).mapTiming Timing.gateSteady fun _ => rfl).sendClock hs .gate
  | stopPending =>
    have h := rejectStop_runsTo hs hg
    unfold State.closeWindow
    rw [hg]
    exact h

end

/-- A first adoption, before its values are taken (R29, R73). -/
theorem becomeFollower_spec {s : State} (hs : s.twin.state = .resolving) :
    s.becomeFollower.timing.bare = s.timing.closed.bare ∧ s.becomeFollower.record.game = s.record.game ∧
      s.becomeFollower.twin.state = .follower ∧ s.becomeFollower.twin.lastRole = .follower ∧
      s.becomeFollower.twin.parts = s.twin.parts ∧ s.becomeFollower.twin.compensation = s.twin.compensation ∧
      Reports endNoise s s.becomeFollower (closeReports s.timing s.record.game.period ++
        [(.twinState, .twinState .resolving .follower .stateAdopted .follower .none)]) := by
  obtain ⟨hc, hg, ht, hr⟩ := closeWindow_runsTo (s := s) (by simp [hs])
  have he : s.becomeFollower = ((s.closeWindow.mapTwin fun t => { t with lastRole := .follower }).mapTwin
      (Twin.enter .follower .none)).raise .twinState (.twinState .resolving .follower .stateAdopted .follower .none) := by
    have h1 : (s.closeWindow.mapTwin fun t => { t with lastRole := .follower }).twin.state = .resolving := by
      rw [mapTwin_twin, ht]
      exact hs
    unfold State.becomeFollower State.enterTwin
    dsimp only
    rw [h1, if_neg (by decide), if_neg (by decide)]
    rfl
  rw [he]
  have hr' := (hr.next (mapTwin_reports _ fun t => { t with lastRole := .follower })).next
    ((mapTwin_reports _ (Twin.enter .follower .none)).next (.raise (c := .twinState) (by decide) _
      (.twinState .resolving .follower .stateAdopted .follower .none)))
  refine ⟨hc, hg, rfl, rfl, ?_, ?_, by simpa using hr'⟩
  · show s.closeWindow.twin.parts = _
    rw [ht]
  · show s.closeWindow.twin.compensation = _
    rw [ht]

/-! ## An adoption -/

theorem adoptBreak_reports (s : State) (before : Bool) : Reports (endKinds .released) s (s.adoptBreak before) [] := by
  unfold State.adoptBreak
  split
  · exact (featureBreakStart_reports s _).mono
  · exact featureBreakCancel_reports s
  · exact .refl _ s

/-- The state with a STATE's values taken, before their effects (R78). -/
def State.adopted (r : StateRecord) (s : State) : State :=
  { s with
    timing := s.timing.adopt r.rules (compensated r.rules s.twin.compensation r.clock)
    record := { s.record with game := r.game }
    twin := { s.twin with eventNo := r.eventNo, resync := false } }

theorem compensated_run (r : ClockRules) (k : Nat) (c : ClockFields) : (compensated r k c).run = c.run := by
  unfold compensated
  split <;> rfl

theorem adopt_run (rules : ClockRules) (c : ClockFields) (t : Timing) : (t.adopt rules c).run = c.run := by
  unfold Timing.adopt Timing.mirrorRun
  cases c.run <;> rfl

/-- The session that an adoption leaves (R78, R31). -/
def adoptedSession (r : StateRecord) (run : RunState) : Session :=
  if r.clock.run = run then r.game.session else sessionAfter r.clock.run r.game.session

/-- What an adoption records (R78). -/
def adoptReports (r : StateRecord) (run : RunState) (v : Nat) (before : Session) : List (Cond × Detail) :=
  (if r.clock.run = run then []
    else [(.runChanged, .runChanged r.clock.run .mirror v 0)] ++ sessionStarts r.clock.run r.game.session r.game.period) ++
    [(.sessionChanged, .sessionChanged before (adoptedSession r run) .mirror r.game.period)]

theorem adoptValues_runsTo {s : State} (hs : s.twin.state ≠ .master) (r : StateRecord) :
    RunsTo (s.adopted r) (s.adoptValues r) (s.adopted r).timing (adoptedSession r s.timing.run)
      (adoptReports r s.timing.run (s.adopted r).timing.v s.record.game.session) := by
  have hm : (s.adopted r).twin.state ≠ .master := hs
  have hrun : (s.adopted r).timing.run = r.clock.run := (adopt_run _ _ _).trans (compensated_run _ _ _)
  have h1 : RunsTo (s.adopted r)
      (if r.clock.run = s.timing.run then s.adopted r else (s.adopted r).handOn .mirror 0) (s.adopted r).timing
      (adoptedSession r s.timing.run) (if r.clock.run = s.timing.run then []
        else [(.runChanged, .runChanged r.clock.run .mirror (s.adopted r).timing.v 0)] ++
          sessionStarts r.clock.run r.game.session r.game.period) := by
    unfold adoptedSession
    split
    · exact RunsTo.start _
    · rw [← hrun]
      exact (RunsTo.start (s.adopted r)).handOn hm .mirror 0
  have h2 := (((h1.quiet (adoptBreak_frame _ s.timing.brkRunning) (adoptBreak_reports _ _)).quiet
    (releaseLevelOne_frame _ .idle) (releaseLevelOne_reports _ _)).quiet (checkCountdown_frame _) (checkCountdown_reports _))
  unfold State.adoptValues
  dsimp only
  rw [compensated_run]
  exact h2.raiseSession _ _

end Sys2Proof.Machine
end

section
namespace Sys2Proof.Machine

set_option Elab.async false

/-! ## The values a follower takes -/

theorem compDown_zero (v : Nat) : compDown 0 v = v := by
  unfold compDown
  split <;> omega

theorem compClock_zero (r : ClockRules) (v : Nat) : compClock r 0 v = v := by
  unfold compClock
  split
  · exact compDown_zero v
  · split <;> omega

/-- Received clock fields, the compensation counted off while they show RUNNING (R78, R79). -/
theorem compensated_eq (r : ClockRules) (k : Nat) (c : ClockFields) : compensated r k c =
    { c with
      v := compClock r (if c.run = .running then k else 0) c.v
      play := if c.playEnabled then compDown (if c.run = .running then k else 0) c.play else c.play
      brkValue := if c.brkRunning then compDown (if c.run = .running then k else 0) c.brkValue else c.brkValue } := by
  unfold compensated
  split
  · rfl
  · simp [compDown_zero, compClock_zero]

/-- The clock with the values of a STATE (R78), but for pending flags and what the record does not carry. -/
theorem adopt_values (rules : ClockRules) (c : ClockFields) (t : Timing) :
    let m := t.adopt rules c
    m.rules = rules ∧ m.run = c.run ∧ m.v = c.v ∧ m.gate = c.gate ∧ m.window = 0 ∧ m.counted = 0 ∧
      m.regulation = c.regulation ∧ m.atLimit = (c.atLimit && decide (c.v = clockLimit rules)) ∧ m.play = c.play ∧
      m.playEnabled = c.playEnabled ∧ m.brkRunning = c.brkRunning ∧ m.brkValue = c.brkValue ∧
      m.brkLength = c.brkLength ∧ m.brkHorn = c.brkHorn := by
  have hv : (!(c.v != clockLimit rules)) = decide (c.v = clockLimit rules) := by simp [bne, Bool.beq_eq_decide_eq]
  cases hr : c.run <;>
    simp [Timing.adopt, Timing.mirrorRun, Timing.mirrorBreak, Timing.mirrorPlay, Timing.mirrorClock, Timing.mirrorGate,
      Timing.gateSteady, hr, hv]

/-! ## What is recorded, kind by kind -/

section
variable (t : Timing) (period : Nat)

/-- A stop window closes with an expiry pending. -/
def Timing.closesExpired (t : Timing) : Bool := decide (t.gate = .stopPending) && t.expiryPending

theorem closed_run : t.closed.run = if t.closesExpired then .stopped else t.run := by
  unfold Timing.closed Timing.closesExpired
  cases t.gate <;> cases t.expiryPending <;> cases t.playPending && t.playEnabled <;> rfl

theorem closeReports_runChanged : detailsOf .runChanged (closeReports t period) =
    if t.closesExpired then [.runChanged .stopped .expiry (clockLimit t.rules) 0] else [] := by
  unfold closeReports Timing.closesExpired
  cases t.gate <;> cases t.expiryPending <;> cases t.playPending && t.playEnabled <;> rfl

theorem closeReports_clockExpired : detailsOf .clockExpired (closeReports t period) =
    if t.closesExpired then
      [.clockExpired (if upRunOn t.rules then .ceiling else .limit) period t.rules.direction (clockLimit t.rules)]
    else [] := by
  unfold closeReports Timing.closesExpired
  cases t.gate <;> cases t.expiryPending <;> cases t.playPending && t.playEnabled <;> rfl

theorem closeReports_playExpired : detailsOf .playExpired (closeReports t period) =
    if decide (t.gate = .stopPending) && t.playPending && t.playEnabled then
      [.playExpired t.playZeroBlanked (if t.closesExpired then clockLimit t.rules else t.v)]
    else [] := by
  unfold closeReports Timing.closesExpired
  cases t.gate <;> cases t.expiryPending <;> cases t.playPending <;> cases t.playEnabled <;> rfl

theorem closeReports_other {c : Cond} (hc : [Cond.runChanged, .clockExpired, .playExpired].contains c = false) :
    detailsOf c (closeReports t period) = [] := by
  have h1 : (Cond.runChanged == c) = false := beq_false_of_ne (by rintro rfl; exact absurd hc (by decide))
  have h2 : (Cond.clockExpired == c) = false := beq_false_of_ne (by rintro rfl; exact absurd hc (by decide))
  have h3 : (Cond.playExpired == c) = false := beq_false_of_ne (by rintro rfl; exact absurd hc (by decide))
  unfold closeReports expiryReports
  cases t.gate <;> cases t.expiryPending <;> cases t.playPending && t.playEnabled <;> simp [detailsOf, h1, h2, h3]

end

section
variable (r : StateRecord) (run : RunState) (v : Nat) (before : Session)

/-- An adoption starts the session (R31, R51). -/
def adoptStarts (r : StateRecord) (run : RunState) : Bool :=
  decide (r.clock.run = .running ∧ run = .stopped ∧ r.game.session = .setup)

theorem adoptedSession_eq : adoptedSession r run = if adoptStarts r run then .inGame else r.game.session := by
  unfold adoptedSession adoptStarts sessionAfter
  cases r.clock.run <;> cases run <;> simp

theorem adoptReports_eq : adoptReports r run v before =
    (if r.clock.run = run then [] else [(.runChanged, .runChanged r.clock.run .mirror v 0)]) ++
      (if adoptStarts r run then [(.sessionChanged, .sessionChanged .setup .inGame .start r.game.period)] else []) ++
      [(.sessionChanged, .sessionChanged before (adoptedSession r run) .mirror r.game.period)] := by
  unfold adoptReports adoptStarts sessionStarts
  cases r.clock.run <;> cases run <;> simp

end

theorem detailsOf_cons (c : Cond) (e : Cond × Detail) (es : List (Cond × Detail)) :
    detailsOf c (e :: es) = (if e.1 = c then [e.2] else []) ++ detailsOf c es := by
  by_cases h : e.1 = c <;> simp [detailsOf, h]

theorem detailsOf_nil (c : Cond) : detailsOf c [] = [] := rfl

theorem detailsOf_ite (c : Cond) (p : Prop) [Decidable p] (a b : List (Cond × Detail)) :
    detailsOf c (if p then a else b) = if p then detailsOf c a else detailsOf c b := by split <;> rfl

/-- The occurrences of one kind, from a list whose details of the kind are known. -/
theorem Reports.gainsOf {K : List Cond} {s t : State} {es : List (Cond × Detail)} (h : Reports K s t es) (hw : s.linksWf)
    {c : Cond} {ds : List Detail} (hd : detailsOf c es = ds) (hc : K.contains c = false := by decide) : Gains s t c ds :=
  hd ▸ h.gains hw hc

/-! ## A STATE received -/

/-- The value of V that a follower takes (R78). -/
def takenV (rules : ClockRules) (k : Nat) (c : ClockFields) : Nat := compClock rules (if c.run = .running then k else 0) c.v

/-- What the adoption of a STATE's values makes of a follower (R78). -/
theorem adoptValues_spec {b : State} (hb : b.twin.state = .follower) (r : StateRecord) :
    (b.adoptValues r).twin = { b.twin with eventNo := r.eventNo, resync := false } ∧
      (b.adoptValues r).timing.bare = (b.timing.adopt r.rules (compensated r.rules b.twin.compensation r.clock)).bare ∧
      (b.adoptValues r).record.game = { r.game with session := adoptedSession r b.timing.run } ∧
      Reports endNoise b (b.adoptValues r)
        (adoptReports r b.timing.run (takenV r.rules b.twin.compensation r.clock) b.record.game.session) := by
  have h := adoptValues_runsTo (s := b) (by simp [hb]) r
  have hv : (b.adopted r).timing.v = takenV r.rules b.twin.compensation r.clock := by
    have ha := adopt_values r.rules (compensated r.rules b.twin.compensation r.clock) b.timing
    dsimp only at ha
    obtain ⟨-, -, hv, -⟩ := ha
    exact hv.trans (by rw [compensated_eq]; rfl)
  have hl : Reports endNoise b (b.adopted r) [] := .of_links rfl rfl
  exact ⟨h.twin, h.clock, h.game, hv ▸ hl.next h.reports⟩

/-- The part with its loss timer restarted and no part of a STATE held: what a whole STATE finds (R69, R75). -/
def State.listening (s : State) : State := { s with twin := { s.twin.heard with parts := none } }

theorem listening_frame (s : State) : Frame [.twin] s s.listening :=
  twin_frame s (fun t => { t.heard with parts := none }) fun _ => ⟨rfl, rfl⟩

theorem listening_reports {K : List Cond} (s : State) : Reports K s s.listening [] := .of_links rfl rfl

theorem hear_state {r : StateRecord} {s : State} (hd : s.due = []) (hr : s.twin.role ≠ .off) :
    exec (.twinStateReceived 1 1 r) s = .next (s.listening.takeState r) := by
  show Host.Outcome.next (s.settle.hearTwin (State.takePart 1 1 r)) = _
  rw [settle_of_due_nil s hd]
  unfold State.hearTwin
  rw [if_neg hr]
  rfl

/-- A part of a STATE that is not its last. -/
theorem hear_part {part parts : Nat} {r : StateRecord} {s : State} (hd : s.due = []) (hr : s.twin.role ≠ .off)
    (hp : within 1 parts part = true) {held : Option (Nat × Nat)}
    (hn : nextPart part parts s.twin.parts = (held, false)) :
    exec (.twinStateReceived part parts r) s = .next { s with twin := { s.twin.heard with parts := held } } := by
  show Host.Outcome.next (if within 1 parts part then s.settle.hearTwin (State.takePart part parts r) else _) = _
  rw [settle_of_due_nil s hd, if_pos hp]
  unfold State.hearTwin State.takePart
  rw [if_neg hr, show (s.mapTwin Twin.heard).twin.parts = s.twin.parts from rfl, hn]
  rfl

/-- The last part of a STATE, in its order. -/
theorem hear_lastPart {part parts : Nat} {r : StateRecord} {s : State} (hd : s.due = []) (hr : s.twin.role ≠ .off)
    (hp : within 1 parts part = true) (hn : nextPart part parts s.twin.parts = (none, true)) :
    exec (.twinStateReceived part parts r) s = .next (s.listening.takeState r) := by
  show Host.Outcome.next (if within 1 parts part then s.settle.hearTwin (State.takePart part parts r) else _) = _
  rw [settle_of_due_nil s hd, if_pos hp]
  unfold State.hearTwin State.takePart
  rw [if_neg hr, show (s.mapTwin Twin.heard).twin.parts = s.twin.parts from rfl, hn]
  rfl

/-- The clock of a follower that has taken a STATE (R78). -/
theorem adopted_clock {m t : Timing} {r : StateRecord} {comp : Nat}
    (h : m.bare = (t.adopt r.rules (compensated r.rules comp r.clock)).bare) :
    let k := if r.clock.run = .running then comp else 0
    let v := takenV r.rules comp r.clock
    m.rules = r.rules ∧ m.run = r.clock.run ∧ m.v = v ∧ m.gate = r.clock.gate ∧ m.window = 0 ∧ m.counted = 0 ∧
      m.regulation = r.clock.regulation ∧ m.atLimit = (r.clock.atLimit && decide (v = clockLimit r.rules)) ∧
      m.play = (if r.clock.playEnabled then compDown k r.clock.play else r.clock.play) ∧
      m.playEnabled = r.clock.playEnabled ∧ m.brkRunning = r.clock.brkRunning ∧
      m.brkValue = (if r.clock.brkRunning then compDown k r.clock.brkValue else r.clock.brkValue) ∧
      m.brkLength = r.clock.brkLength ∧ m.brkHorn = r.clock.brkHorn := by
  have ha := adopt_values r.rules (compensated r.rules comp r.clock) t
  simp only [Timing.bare, Timing.mk.injEq] at h
  rw [compensated_eq] at ha h
  simp only [h, takenV]
  exact ha

section
variable {s t : State} (hw : s.linksWf) {r : StateRecord} {run : RunState} {v : Nat} {before : Session}
include hw

/-- What an adoption records, kind by kind, where nothing was pending before (R78). -/
theorem adoption_gains (h : Reports endNoise s t (adoptReports r run v before)) :
    Gains s t .twinState [] ∧
      Gains s t .runChanged (if r.clock.run = run then [] else [.runChanged r.clock.run .mirror v 0]) ∧
      Gains s t .sessionChanged
        ((if adoptStarts r run then [.sessionChanged .setup .inGame .start r.game.period] else []) ++
          [.sessionChanged before (adoptedSession r run) .mirror r.game.period]) ∧
      Gains s t .clockExpired [] ∧ Gains s t .playExpired [] ∧
      Gains s t .breakExpired [] ∧ Gains s t .scoreChanged [] ∧ Gains s t .scoreCorrected [] := by
  rw [adoptReports_eq] at h
  refine ⟨h.gainsOf hw ?_, h.gainsOf hw ?_, h.gainsOf hw ?_, h.gainsOf hw ?_, h.gainsOf hw ?_, h.gainsOf hw ?_,
    h.gainsOf hw ?_, h.gainsOf hw ?_⟩ <;>
    simp [detailsOf_append, detailsOf_cons, detailsOf_nil, detailsOf_ite]

/-- What a first adoption records, kind by kind, with what an own stop window had pending (R29, R73, R78). -/
theorem firstAdoption_gains {q : Timing} {period : Nat} {d : Detail}
    (h : Reports endNoise s t (closeReports q period ++ [(.twinState, d)] ++ adoptReports r run v before)) :
    Gains s t .twinState [d] ∧
      Gains s t .runChanged ((if q.closesExpired then [.runChanged .stopped .expiry (clockLimit q.rules) 0] else []) ++
        if r.clock.run = run then [] else [.runChanged r.clock.run .mirror v 0]) ∧
      Gains s t .sessionChanged
        ((if adoptStarts r run then [.sessionChanged .setup .inGame .start r.game.period] else []) ++
          [.sessionChanged before (adoptedSession r run) .mirror r.game.period]) ∧
      Gains s t .clockExpired (if q.closesExpired then
          [.clockExpired (if upRunOn q.rules then .ceiling else .limit) period q.rules.direction (clockLimit q.rules)]
        else []) ∧
      Gains s t .playExpired (if decide (q.gate = .stopPending) && q.playPending && q.playEnabled then
          [.playExpired q.playZeroBlanked (if q.closesExpired then clockLimit q.rules else q.v)]
        else []) ∧
      Gains s t .breakExpired [] ∧ Gains s t .scoreChanged [] ∧ Gains s t .scoreCorrected [] := by
  rw [adoptReports_eq] at h
  have hr := closeReports_runChanged q period
  have hc := closeReports_clockExpired q period
  have hp := closeReports_playExpired q period
  have ho {c : Cond} := closeReports_other q period (c := c)
  refine ⟨h.gainsOf hw ?_, h.gainsOf hw ?_, h.gainsOf hw ?_, h.gainsOf hw ?_, h.gainsOf hw ?_, h.gainsOf hw ?_,
    h.gainsOf hw ?_, h.gainsOf hw ?_⟩ <;>
    simp only [detailsOf_append, detailsOf_cons, detailsOf_nil, detailsOf_ite, hr, hc, hp] <;>
    simp [ho]

end

end Sys2Proof.Machine
end

section
namespace Sys2Proof.Machine

set_option Elab.async false

/-! ## A CLOCK applied, stage by stage (R79) -/

/-- The clock with the values of a CLOCK, before its run state and its break timer. -/
def Timing.mirrored (keep : Bool) (cause : ClockCause) (c : ClockFields) (t : Timing) : Timing :=
  let a := t.mirrorGate c.gate
  let b := if keep then a else a.mirrorClock c
  if b.keepsPlay cause then b else b.mirrorPlay c

/-- The clock after the table of R79 for the run state. -/
def Timing.afterRun (c : ClockFields) (t : Timing) : Timing :=
  match c.run, t.run with
  | .running, .stopped =>
    let a := { t with run := .running }
    if a.crosses then { a with regulation := true } else a
  | .stopped, .running => if t.isAtLimit ∧ c.atLimit = true then t.expired else t.mirrorRun .stopped
  | _, _ => t

/-- The session after the table of R79 for the run state. -/
def sessionAfterRun (c : ClockFields) (run : RunState) (x : Session) : Session :=
  if c.run = .running ∧ run = .stopped ∧ x = .setup then .inGame else x

/-- What the table of R79 for the run state records. -/
def runReports (c : ClockFields) (t : Timing) (x : Session) (period : Nat) : List (Cond × Detail) :=
  match c.run, t.run with
  | .running, .stopped =>
    [(.runChanged, .runChanged .running .mirror t.v 0)] ++ sessionStarts .running x period ++
      if ({ t with run := .running } : Timing).crosses then
        [(.clockExpired, .clockExpired .regulation period t.rules.direction t.v)]
      else []
  | .stopped, .running =>
    if t.isAtLimit ∧ c.atLimit = true then expiryReports t period
    else [(.runChanged, .runChanged .stopped .mirror t.v 0)]
  | _, _ => []

/-- The break timer after a CLOCK (R79). -/
def Timing.afterBreak (cause : ClockCause) (c : ClockFields) (t : Timing) : Timing :=
  match cause with
  | .breakStart => if c.brkRunning then t.mirrorBreak c else t
  | .breakCancel => if !c.brkRunning && t.brkRunning then t.breakExpired else t
  | .breakEnd => if t.brkRunning then t.breakExpired else t
  | _ => if t.keepsBreak cause then t else t.mirrorBreak c

/-- What the break timer of a CLOCK records (R79). -/
def breakReports (cause : ClockCause) (t : Timing) : List (Cond × Detail) :=
  if cause = .breakEnd ∧ t.brkRunning = true then [(.breakExpired, .breakExpired (t.brkLength / 1000) t.brkHorn)] else []

section
variable {s t : State} {m : Timing} {x : Session} {es : List (Cond × Detail)} (h : RunsTo s t m x es)
  (hs : s.twin.state ≠ .master)
include h

theorem RunsTo.mirrored (keep : Bool) (cause : ClockCause) (c : ClockFields) :
    RunsTo s (t.mapTiming (Timing.mirrored keep cause c)) (m.mirrored keep cause c) x es := by
  refine h.mapTiming _ fun a => ?_
  unfold Timing.mirrored
  cases keep
  · by_cases hk : (((a.mirrorGate c.gate).mirrorClock c).keepsPlay cause) = true
    · have hk' : (((a.bare.mirrorGate c.gate).mirrorClock c).keepsPlay cause) = true := hk
      simp only [hk, hk', if_true, Bool.false_eq_true, if_false]
      rfl
    · have hk' : ¬(((a.bare.mirrorGate c.gate).mirrorClock c).keepsPlay cause) = true := hk
      simp only [hk, hk', Bool.false_eq_true, if_false]
      rfl
  · by_cases hk : ((a.mirrorGate c.gate).keepsPlay cause) = true
    · have hk' : ((a.bare.mirrorGate c.gate).keepsPlay cause) = true := hk
      simp only [hk, hk', if_true]
      rfl
    · have hk' : ¬((a.bare.mirrorGate c.gate).keepsPlay cause) = true := hk
      simp only [hk, hk', Bool.false_eq_true, if_true, if_false]
      rfl

/-- A chain whose list of occurrences is written in another way. -/
theorem RunsTo.of_eq {m' : Timing} {x' : Session} {es' : List (Cond × Detail)} (hm : m = m') (hx : x = x') (he : es = es') :
    RunsTo s t m' x' es' := hm ▸ hx ▸ he ▸ h

include hs

theorem RunsTo.mirrorRunChange (c : ClockFields) :
    RunsTo s (t.mirrorRunChange c) (m.afterRun c) (sessionAfterRun c m.run x) (es ++ runReports c m x s.record.game.period) := by
  have hrun := h.reads Timing.run
  have hlim := h.reads Timing.isAtLimit
  unfold State.mirrorRunChange Timing.afterRun sessionAfterRun runReports
  rw [hrun, hlim]
  cases hc : c.run <;> cases hm : m.run
  case running.stopped =>
    have h1 := (((h.mapTiming (Timing.mirrorRun .running) fun _ => rfl).handOn hs .mirror 0).checkRegulation).quiet
      (checkCountdown_frame _) (checkCountdown_reports _)
    refine h1.of_eq rfl ?_ ?_
    · simp [sessionAfter, Timing.mirrorRun]
    · simp only [List.append_assoc]
      rfl
  case stopped.running =>
    dsimp only
    by_cases hx : m.isAtLimit = true ∧ c.atLimit = true
    · simp only [if_pos hx]
      exact (h.expire hs false).of_eq rfl (by simp) rfl
    · simp only [if_neg hx]
      exact ((h.mapTiming (Timing.mirrorRun .stopped) fun _ => rfl).handOn hs .mirror 0).of_eq rfl
        (by simp [Timing.mirrorRun, sessionAfter]) (by simp [Timing.mirrorRun, sessionStarts])
  all_goals exact h.of_eq rfl (by simp) (by simp)

theorem RunsTo.mirrorBreakChange (cause : ClockCause) (c : ClockFields) :
    RunsTo s (t.mirrorBreakChange cause c) (m.afterBreak cause c) x (es ++ breakReports cause m) := by
  have hb := h.reads Timing.brkRunning
  have hk := h.reads fun a => a.keepsBreak cause
  have h1 := h.mapTiming (Timing.mirrorBreak c) fun _ => rfl
  have hn : cause ≠ .breakEnd → es = es ++ breakReports cause m := fun he => by simp [breakReports, he]
  unfold State.mirrorBreakChange Timing.afterBreak
  rw [hb, hk]
  cases cause <;> dsimp only
  case breakStart =>
    split
    · exact (h1.quiet (featureBreakStart_frame _ _) (featureBreakStart_reports _ _)).of_eq rfl rfl (hn (by decide))
    · exact h.of_eq rfl rfl (hn (by decide))
  case breakCancel =>
    split
    · exact ((h.mapTiming Timing.breakExpired fun _ => rfl).quiet (featureBreakCancel_frame _)
        (featureBreakCancel_reports _)).of_eq rfl rfl (hn (by decide))
    · exact h.of_eq rfl rfl (hn (by decide))
  case breakEnd =>
    split
    · next hr => exact (h.breakExpire hs).of_eq rfl rfl (by simp [breakReports, hr])
    · next hr => exact h.of_eq rfl rfl (by simp [breakReports, hr])
  all_goals
    split
    · exact h.of_eq rfl rfl (hn (by decide))
    · exact h1.of_eq rfl rfl (hn (by decide))

omit hs in
theorem RunsTo.mirrorCountdown (cause : ClockCause) : RunsTo s (t.mirrorCountdown cause) m x es := by
  unfold State.mirrorCountdown
  have hc (u : State) (k : RunsTo s u m x es) : RunsTo s u.checkCountdown m x es :=
    k.quiet (checkCountdown_frame _) (checkCountdown_reports _)
  have hr (u : State) (k : RunsTo s u m x es) : RunsTo s u.renewCountdown m x es :=
    k.quiet (renewCountdown_frame _) (mapTiming_reports (K := []) _ _)
  have hl : RunsTo s t.releaseCountdown m x es := h.quiet (releaseCountdown_frame _) (releaseCountdown_reports _)
  dsimp only
  split <;> split
  · exact hc _ (hr _ hl)
  · exact hc _ (hr _ h)
  · exact hc _ hl
  · exact hc _ h

end

/-! ### The values that stand afterwards -/

section
variable (keep : Bool) (cause : ClockCause) (c : ClockFields) (t : Timing)

theorem keepsPlay_iff : t.keepsPlay cause = true ↔ cause = .periodic ∧ t.play = 0 := by simp [Timing.keepsPlay]

theorem mirrored_values :
    let n := t.mirrored keep cause c
    n.gate = c.gate ∧ n.window = 0 ∧ n.counted = 0 ∧ n.playCounted = 0 ∧ n.rules = t.rules ∧ n.run = t.run ∧
      n.v = (if keep then t.v else c.v) ∧
      (keep = false → n.atLimit = (c.atLimit && decide (c.v = clockLimit t.rules)) ∧ n.regulation = c.regulation ∧
        (c.v ≠ clockLimit t.rules → n.expiryPending = false)) ∧
      (if cause = .periodic ∧ t.play = 0 then n.play = 0 ∧ n.playEnabled = t.playEnabled
        else n.play = c.play ∧ n.playEnabled = c.playEnabled) ∧
      n.brkRunning = t.brkRunning ∧ n.brkValue = t.brkValue ∧ n.brkLength = t.brkLength ∧ n.brkHorn = t.brkHorn := by
  have hv : (!(c.v != clockLimit t.rules)) = decide (c.v = clockLimit t.rules) := by simp [bne, Bool.beq_eq_decide_eq]
  have hb : ((if keep then t.mirrorGate c.gate else (t.mirrorGate c.gate).mirrorClock c).keepsPlay cause = true) =
      (cause = .periodic ∧ t.play = 0) := by
    cases keep <;> exact propext (keepsPlay_iff cause t)
  unfold Timing.mirrored
  dsimp only
  by_cases hp : cause = .periodic ∧ t.play = 0
  · rw [if_pos (hb ▸ hp)]
    cases keep <;> simp [hp, Timing.mirrorGate, Timing.gateSteady, Timing.mirrorClock]
    simp_all
  · rw [if_neg (hb ▸ hp)]
    cases keep <;> simp [hp, Timing.mirrorGate, Timing.gateSteady, Timing.mirrorClock, Timing.mirrorPlay]
    simp_all

theorem afterRun_values :
    let n := t.afterRun c
    n.gate = t.gate ∧ n.window = t.window ∧ n.counted = t.counted ∧ n.playCounted = t.playCounted ∧ n.rules = t.rules ∧
      n.v = t.v ∧ n.run = c.run ∧ n.play = t.play ∧ n.playEnabled = t.playEnabled ∧ n.brkRunning = t.brkRunning ∧
      n.brkValue = t.brkValue ∧ n.brkLength = t.brkLength ∧ n.brkHorn = t.brkHorn ∧
      (t.v ≠ clockLimit t.rules → n.atLimit = t.atLimit ∧ (t.expiryPending = false → n.expiryPending = false)) ∧
      (t.atLimit = c.atLimit → n.atLimit = c.atLimit) := by
  unfold Timing.afterRun
  cases hc : c.run <;> cases ht : t.run <;> dsimp only
  case stopped.running =>
    by_cases hx : t.isAtLimit = true ∧ c.atLimit = true
    · have hl : t.v = clockLimit t.rules := by simpa [Timing.isAtLimit] using hx.1
      rw [if_pos hx]
      simp [Timing.expired, hl, hx.2]
    · rw [if_neg hx]
      simp [Timing.mirrorRun]
  case running.stopped => split <;> simp
  all_goals simp [ht]

theorem afterBreak_values :
    let n := t.afterBreak cause c
    n.gate = t.gate ∧ n.window = t.window ∧ n.counted = t.counted ∧ n.playCounted = t.playCounted ∧ n.rules = t.rules ∧
      n.v = t.v ∧ n.run = t.run ∧ n.play = t.play ∧ n.playEnabled = t.playEnabled ∧ n.atLimit = t.atLimit ∧
      n.expiryPending = t.expiryPending ∧
      (cause = .periodic → t.brkRunning = false → n.brkRunning = false ∧ n.brkValue = t.brkValue) ∧
      (cause = .breakStart → c.brkRunning = true → n.brkRunning = true ∧ n.brkValue = c.brkValue ∧
        n.brkLength = c.brkLength ∧ n.brkHorn = c.brkHorn) ∧
      ((cause = .breakCancel ∧ c.brkRunning = false ∨ cause = .breakEnd) → n.brkRunning = false) := by
  unfold Timing.afterBreak
  cases cause <;> dsimp only <;> split <;>
    simp_all [Timing.mirrorBreak, Timing.breakExpired, Timing.keepsBreak]

end

/-- The clock a CLOCK leaves (R79). -/
def Timing.clockApplied (cause : ClockCause) (c : ClockFields) (m : Timing) : Timing :=
  let a := m.mirrored (m.keepsClock cause) cause c
  (if m.keepsClock cause then a else a.afterRun c).afterBreak cause c

theorem clockApplied_values (cause : ClockCause) (c : ClockFields) (m : Timing) :
    let keep := m.keepsClock cause
    let n := m.clockApplied cause c
    n.gate = c.gate ∧ n.window = 0 ∧ n.counted = 0 ∧ n.playCounted = 0 ∧
      n.v = (if keep then m.v else c.v) ∧ n.run = (if keep then m.run else c.run) ∧
      (keep = false → n.v ≠ clockLimit m.rules → n.atLimit = false ∧ n.expiryPending = false) ∧
      (keep = false → n.v = clockLimit m.rules → n.atLimit = c.atLimit) ∧
      (if cause = .periodic ∧ m.play = 0 then n.play = 0 ∧ n.playEnabled = m.playEnabled
        else n.play = c.play ∧ n.playEnabled = c.playEnabled) ∧
      (cause = .periodic → m.brkRunning = false → n.brkRunning = false ∧ n.brkValue = m.brkValue) ∧
      (cause = .breakStart → c.brkRunning = true → n.brkRunning = true ∧ n.brkValue = c.brkValue ∧
        n.brkLength = c.brkLength ∧ n.brkHorn = c.brkHorn) ∧
      ((cause = .breakCancel ∧ c.brkRunning = false ∨ cause = .breakEnd) → n.brkRunning = false) := by
  dsimp only
  unfold Timing.clockApplied
  dsimp only
  have h1 := mirrored_values (m.keepsClock cause) cause c m
  generalize m.mirrored (m.keepsClock cause) cause c = a at h1 ⊢
  have h2 := afterRun_values c a
  have h3 := afterBreak_values cause c (if m.keepsClock cause then a else a.afterRun c)
  generalize a.afterRun c = b at h2 h3 ⊢
  dsimp only at h1 h2 h3 ⊢
  obtain ⟨a1, a2, a3, a4, a5, a6, a7, a8, a9, a10, a11, a12, a13⟩ := h1
  obtain ⟨b1, b2, b3, b4, b5, b6, b7, b8, b9, b10, b11, b12, b13, b14, b15⟩ := h2
  obtain ⟨c1, c2, c3, c4, c5, c6, c7, c8, c9, c10, c11, c12, c13, c14⟩ := h3
  cases hk : m.keepsClock cause <;> simp only [hk, if_true, Bool.false_eq_true, if_false] at *
  · have hlim : a.v = c.v := a7
    obtain ⟨d1, d2, d3⟩ := a8 trivial
    refine ⟨by rw [c1, b1, a1], by rw [c2, b2, a2], by rw [c3, b3, a3], by rw [c4, b4, a4], by rw [c6, b6, a7],
      by rw [c7, b7], fun _ hn => ?_, fun _ hn => ?_, by rw [c8, c9, b8, b9]; exact a9,
      fun h1 h2 => ?_, c13, c14⟩
    · rw [c6, b6, a7] at hn
      obtain ⟨e1, e2⟩ := b14 (by rw [a7, a5]; exact hn)
      exact ⟨by rw [c10, e1, d1]; simp [hn], by rw [c11]; exact e2 (d3 hn)⟩
    · rw [c6, b6, a7] at hn
      rw [c10]
      exact b15 (by rw [d1]; simp [hn])
    · obtain ⟨e1, e2⟩ := c12 h1 (by rw [b10, a10, h2])
      exact ⟨e1, by rw [e2, b11, a11]⟩
  · refine ⟨by rw [c1, a1], by rw [c2, a2], by rw [c3, a3], by rw [c4, a4], by rw [c6, a7],
      by rw [c7, a6], nofun, nofun, by rw [c8, c9]; exact a9, fun h1 h2 => ?_, c13, c14⟩
    obtain ⟨e1, e2⟩ := c12 h1 (by rw [a10, h2])
    exact ⟨e1, by rw [e2, a11]⟩

/-! ### What is recorded -/

/-- What a CLOCK records (R79). -/
def clockReports (cause : ClockCause) (c : ClockFields) (m : Timing) (x : Session) (period : Nat) : List (Cond × Detail) :=
  (if m.keepsClock cause then [] else runReports c (m.mirrored false cause c) x period) ++ breakReports cause m

/-- A CLOCK that a part other than MASTER applies (R79). -/
theorem applyClock_runsTo {s : State} (hs : s.twin.state ≠ .master) (k : ClockRecord) :
    let c := compensated s.timing.rules s.twin.compensation k.clock
    let x := s.record.game.session
    RunsTo s (s.applyClock k) (s.timing.clockApplied k.cause c)
      (if s.timing.keepsClock k.cause then x else sessionAfterRun c s.timing.run x)
      (clockReports k.cause c s.timing x s.record.game.period) := by
  dsimp only
  generalize hc : compensated s.timing.rules s.twin.compensation k.clock = c
  have h1 := (RunsTo.start s).mirrored (s.timing.keepsClock k.cause) k.cause c
  have hm := mirrored_values (s.timing.keepsClock k.cause) k.cause c s.timing
  dsimp only at hm
  obtain ⟨-, -, -, -, -, hrun, -, -, -, hb1, -, hb3, hb4⟩ := hm
  have he : s.applyClock k =
      ((if s.timing.keepsClock k.cause then s.mapTiming (Timing.mirrored (s.timing.keepsClock k.cause) k.cause c)
        else (s.mapTiming (Timing.mirrored (s.timing.keepsClock k.cause) k.cause c)).mirrorRunChange c).mirrorBreakChange
        k.cause c).mirrorCountdown k.cause := by
    subst hc
    rfl
  rw [he]
  unfold clockReports Timing.clockApplied
  cases hk : s.timing.keepsClock k.cause
  · rw [hk] at h1 hrun hb1 hb3 hb4
    simp only [Bool.false_eq_true, if_false]
    have h2 := h1.mirrorRunChange hs c
    have h3 := (h2.mirrorBreakChange hs k.cause c).mirrorCountdown k.cause
    have ha := afterRun_values c (s.timing.mirrored false k.cause c)
    dsimp only at ha
    obtain ⟨-, -, -, -, -, -, -, -, -, e1, -, e3, e4, -, -⟩ := ha
    refine h3.of_eq rfl (by rw [hrun]) ?_
    unfold breakReports
    rw [e1, e3, e4, hb1, hb3, hb4]
    rfl
  · rw [hk] at h1 hrun hb1 hb3 hb4
    simp only [if_true]
    refine ((h1.mirrorBreakChange hs k.cause c).mirrorCountdown k.cause).of_eq rfl rfl ?_
    unfold breakReports
    rw [hb1, hb3, hb4]

theorem keepsClock_eq (cause : ClockCause) (m : Timing) : m.keepsClock cause =
    decide (cause = .periodic ∧ m.run = .stopped ∧ m.v = clockLimit m.rules ∧ m.atLimit = true) := by
  unfold Timing.keepsClock Timing.isAtLimit
  rw [Bool.eq_iff_iff]
  simp [and_assoc]

section
variable {c : ClockFields} {t : Timing} (x : Session) (period : Nat)

theorem runReports_starts (hc : c.run = .running) (ht : t.run = .stopped) : runReports c t x period =
    [(.runChanged, .runChanged .running .mirror t.v 0)] ++
      (if x = .setup then [(.sessionChanged, .sessionChanged .setup .inGame .start period)] else []) ++
      if upRunOn t.rules = true ∧ t.regulation = false ∧ t.rules.periodLength ≤ t.v then
        [(.clockExpired, .clockExpired .regulation period t.rules.direction t.v)]
      else [] := by
  unfold runReports
  rw [hc, ht]
  simp [sessionStarts, Timing.crosses, and_assoc]

theorem runReports_stops (hc : c.run = .stopped) (ht : t.run = .running) : runReports c t x period =
    if t.v = clockLimit t.rules ∧ c.atLimit = true then
      [(.runChanged, .runChanged .stopped .expiry t.v 0),
        (.clockExpired, .clockExpired (if upRunOn t.rules then .ceiling else .limit) period t.rules.direction t.v)]
    else [(.runChanged, .runChanged .stopped .mirror t.v 0)] := by
  unfold runReports
  rw [hc, ht]
  by_cases h : t.v = clockLimit t.rules <;> simp [Timing.isAtLimit, h, expiryReports]

theorem runReports_same (h : c.run = t.run) : runReports c t x period = [] := by
  unfold runReports
  rw [h]
  cases t.run <;> rfl

end

/-- A CLOCK's report, kind by kind (R79). -/
theorem clockReports_details (cause : ClockCause) (c : ClockFields) (m : Timing) (x : Session) (period : Nat) :
    let keep := m.keepsClock cause
    let starts := keep = false ∧ m.run = .stopped ∧ c.run = .running
    let stops := keep = false ∧ m.run = .running ∧ c.run = .stopped
    let atEnd := c.v = clockLimit m.rules ∧ c.atLimit = true
    let setup := x = .setup
    let es := clockReports cause c m x period
    detailsOf .runChanged es =
        (if starts then [.runChanged .running .mirror c.v 0]
        else if stops ∧ atEnd then [.runChanged .stopped .expiry c.v 0]
        else if stops then [.runChanged .stopped .mirror c.v 0] else []) ∧
      detailsOf .sessionChanged es = (if starts ∧ setup then [.sessionChanged .setup .inGame .start period] else []) ∧
      detailsOf .clockExpired es =
        (if starts ∧ upRunOn m.rules = true ∧ c.regulation = false ∧ m.rules.periodLength ≤ c.v then
          [.clockExpired .regulation period m.rules.direction c.v]
        else if stops ∧ atEnd then
          [.clockExpired (if upRunOn m.rules then .ceiling else .limit) period m.rules.direction c.v]
        else []) ∧
      detailsOf .breakExpired es =
        (if cause = .breakEnd ∧ m.brkRunning = true then [.breakExpired (m.brkLength / 1000) m.brkHorn] else []) ∧
      detailsOf .playExpired es = [] := by
  have hm := mirrored_values false cause c m
  dsimp only at hm ⊢
  obtain ⟨-, -, -, -, hru, hrun, hv, hflags, -⟩ := hm
  obtain ⟨-, hreg, -⟩ := hflags rfl
  unfold clockReports breakReports
  simp only [detailsOf_append, detailsOf_ite, detailsOf_cons, detailsOf_nil]
  cases m.keepsClock cause
  · cases hc : c.run <;> cases hr : m.run
    case stopped.running =>
      rw [runReports_stops x period hc (hrun.trans hr), hv, hru]
      by_cases he : c.v = clockLimit m.rules ∧ c.atLimit = true <;>
        simp [he, detailsOf_cons, detailsOf_nil]
    case running.stopped =>
      rw [runReports_starts x period hc (hrun.trans hr), hv, hru, hreg]
      simp [detailsOf_append, detailsOf_cons, detailsOf_nil, detailsOf_ite]
    all_goals
      rw [runReports_same x period (hc.trans (hrun.trans hr).symm)]
      simp [detailsOf_nil]
  · simp

theorem hear_clock {k : ClockRecord} {s : State} (hd : s.due = []) (hr : s.twin.role ≠ .off) (hs : s.twin.state = .follower) :
    exec (.twinClockReceived k) s = .next ((s.mapTwin Twin.heard).applyClock k) := by
  show Host.Outcome.next (s.settle.hearTwin (State.takeClock k)) = _
  rw [settle_of_due_nil s hd]
  have h : (s.mapTwin Twin.heard).twin.state = .follower := hs
  unfold State.hearTwin State.takeClock
  rw [if_neg hr, h]

end Sys2Proof.Machine
end

section
namespace Sys2Proof

open Machine

set_option Elab.async false

/-- Settles O29: an adoption, a STATE in parts and a CLOCK, each as the chain of operations it runs through. -/
theorem followersMirrorStateAndClock : Obligations.FollowersMirrorStateAndClock := by
  unfold Obligations.FollowersMirrorStateAndClock
  refine ⟨⟨fun r s hd hr hs => ?_, fun part parts r s hd => ?_⟩, ?_⟩
  · rw [hear_state hd hr]
    refine ⟨_, rfl, ?_⟩
    rcases hs with hs | ⟨hs, hdec⟩
    · have hl : s.listening.twin.state = .follower := hs
      have ht : s.listening.takeState r = s.listening.adoptValues r := by unfold State.takeState; rw [hl]
      have hframe := takeState_frame s.listening r
      rw [ht] at hframe ⊢
      obtain ⟨h1, h2, h3, h4⟩ := adoptValues_spec hl r
      have hcl : decide (s.twin.state = .resolving ∧ s.timing.gate = .stopPending) = false := by simp [hs]
      have hne : s.twin.state ≠ .resolving := by simp [hs]
      simp only [hcl, Bool.false_and, Bool.false_eq_true, if_false, if_neg hne, List.nil_append]
      refine ⟨⟨by rw [h1]; exact hl, by rw [h1], by rw [h1], by rw [h1]; rfl, fun h => absurd h hne⟩, adopted_clock h2,
        ⟨?_, fun hw => ?_⟩, ?_⟩
      · rw [h3, adoptedSession_eq]
        rfl
      · rw [show (s.listening.adoptValues r).record.game.session = adoptedSession r s.timing.run from
          (congrArg RecordFields.session h3).trans rfl]
        exact adoption_gains hw ((listening_reports s).next h4)
      · exact (Frame.mono (listening_frame s)).next hframe
    · have hl : s.listening.twin.state = .resolving := hs
      have ht : s.listening.takeState r = s.listening.becomeFollower.adoptValues r := by
        unfold State.takeState
        rw [hl]
        exact if_pos hdec
      have hframe := takeState_frame s.listening r
      rw [ht] at hframe ⊢
      obtain ⟨b1, b2, b3, b4, b5, b6, b7⟩ := becomeFollower_spec hl
      obtain ⟨h1, h2, h3, h4⟩ := adoptValues_spec b3 r
      have hrun : s.listening.becomeFollower.timing.run = if s.timing.closesExpired then .stopped else s.timing.run :=
        (congrArg Timing.run b1 : s.listening.becomeFollower.timing.bare.run = _).trans (closed_run s.timing)
      have hses : s.listening.becomeFollower.record.game.session = s.record.game.session := congrArg RecordFields.session b2
      have hcomp : s.listening.becomeFollower.twin.compensation = s.twin.compensation := b6
      rw [hrun, hses, hcomp] at h4
      rw [hcomp] at h2
      rw [hrun] at h3
      have hcl : (decide (s.twin.state = .resolving ∧ s.timing.gate = .stopPending)) =
        decide (s.timing.gate = .stopPending) := by simp [hs]
      have hce : (decide (s.timing.gate = .stopPending) && s.timing.expiryPending) = s.timing.closesExpired := rfl
      simp only [hcl, hce, if_pos hs]
      refine ⟨⟨by rw [h1]; exact b3, by rw [h1], by rw [h1], by rw [h1]; exact b5, fun _ => by rw [h1]; exact b4⟩,
        adopted_clock h2, ⟨?_, fun hw => ?_⟩, (Frame.mono (listening_frame s)).next hframe⟩
      · rw [h3, adoptedSession_eq]
        rfl
      · rw [h3]
        exact firstAdoption_gains hw (((listening_reports s).next b7).next h4)
  · dsimp only
    refine ⟨fun hp => ?_, fun hr h1 hp => ?_, fun hr h1 hp hq => ?_, fun hr h1 hp hq => ?_, fun hr h1 hp hq => ?_⟩
    · have hwi : within 1 parts part = false := by simp [within]; omega
      show Host.Outcome.next (if within 1 parts part then _ else s.settle.twinBadFrame) = _
      rw [settle_of_due_nil s hd, hwi]
      rfl
    · subst h1
      exact hear_part hd hr (by simp [within]; omega) (by unfold nextPart; rw [if_pos rfl, if_neg (by omega)])
    · exact hear_part hd hr (by simp [within]; omega)
        (by unfold nextPart; rw [if_neg (by omega), if_pos hq, if_neg (by omega)])
    · rw [hear_state hd hr]
      exact hear_lastPart hd hr (by simp [within]; omega)
        (by unfold nextPart; rw [if_neg (by omega), if_pos hq, if_pos hp])
    · exact hear_part hd hr (by simp [within]; omega) (by unfold nextPart; rw [if_neg (by omega), if_neg hq])
  · intro k s hd hr hs
    have hu : (s.mapTwin Twin.heard).twin.state = .follower := hs
    have hx := applyClock_runsTo (s := s.mapTwin Twin.heard) (by rw [hu]; decide) k
    have hvals := clockApplied_values k.cause (compensated s.timing.rules s.twin.compensation k.clock) s.timing
    have hdet := clockReports_details k.cause (compensated s.timing.rules s.twin.compensation k.clock) s.timing
      s.record.game.session s.record.game.period
    have hframe : Frame ([.game, .twin, .exposure] ++ expiryParts) s _ :=
      (Frame.mono (heard_frame s)).next (applyClock_frame (s.mapTwin Twin.heard) k)
    refine ⟨_, hear_clock hd hr hs, ?_⟩
    obtain ⟨hclock, hgame, htwin, hrep⟩ := hx
    have hrep' : Reports endNoise s _ _ := (mapTwin_reports s Twin.heard).next hrep
    simp only [Timing.bare, Timing.mk.injEq, mapTwin_timing, mapTwin_twin, mapTwin_record,
      show s.twin.heard.compensation = s.twin.compensation from rfl] at hclock hgame hrep'
    rw [compensated_eq] at hvals hdet hclock hrep' hgame
    dsimp only at hvals hdet
    obtain ⟨v1, v2, v3, v4, v5, v6, v7, v8, v9, v10, v11, v12⟩ := hvals
    obtain ⟨d1, d2, d3, d4, d5⟩ := hdet
    dsimp only
    rw [← keepsClock_eq]
    simp only [hclock]
    refine ⟨v1, v2, v3, v4, v5, v6, v7, v8, v9, v10, fun h1 h2 => (v11 h1 h2).imp_right (.imp_left (·.trans (if_pos h2))), v12,
      ⟨?_, fun hw => ⟨hrep'.gainsOf hw d1, hrep'.gainsOf hw d2,
      hrep'.gainsOf hw d3, hrep'.gainsOf hw d4, hrep'.gainsOf hw d5⟩⟩, by rw [htwin]; exact hs, hframe⟩
    rw [hgame]
    unfold sessionAfterRun
    congr 1
    cases s.timing.keepsClock k.cause <;> simp [and_assoc, and_left_comm]

end Sys2Proof
end

section
namespace Sys2Proof.Machine

set_option Elab.async false

/-! ## A relation that every operation of ends keeps -/

/-- A relation between states that the operations of one event of ends keep one by one: updates of arbitration states that
leave the masks, what owners note, and what they are told of ends with the outcome `o` (R108 to R114, R176, R198). -/
structure Walk (o : Outcome) (R : State → State → Prop) : Prop where
  refl : ∀ s, R s s
  trans : ∀ {s t u}, R s t → R t u → R s u
  arb : ∀ s zone (f : ZoneArb → ZoneArb), (∀ a, (f a).mask = a.mask) → R s (s.mapArb zone f)
  note : ∀ s zone level, R s (State.noteGrant zone level s)
  rotation : ∀ s (f : Rotation → Rotation),
    (∀ r, f r = { r with features := (f r).features, featuresDropped := (f r).featuresDropped }) → R s (s.mapRotation f)
  crawl : ∀ s (f : Crawl → Crawl), R s (s.mapCrawl f)
  raise : ∀ s c d, R s (State.raise c d s)
  tell : ∀ s zone level, R s (State.tellOwner zone level o s)

namespace Walk

variable {o : Outcome} {R : State → State → Prop} (w : Walk o R)
include w

theorem foldl {α : Type} (f : State → α → State) (l : List α) (hf : ∀ s a, R s (f s a)) (s : State) : R s (l.foldl f s) := by
  induction l generalizing s with
  | nil => exact w.refl s
  | cons a l ih => exact w.trans (hf s a) (ih _)

theorem evaluate (s : State) (zone : Nat) : R s (s.evaluate zone) := by
  unfold State.evaluate
  split
  · exact w.trans (w.arb s zone (ZoneArb.grant _ _) fun _ => rfl) (w.note _ _ _)
  · exact w.refl s

theorem evaluateAll (s : State) (zones : List Nat) : R s (s.evaluateAll zones) := w.foldl _ _ w.evaluate s

theorem request (s : State) (zone : Nat) (r : Request) (b : Bool) : R s (s.request zone r b).1 := by
  have h : R s ((s.mapArb zone (ZoneArb.record r)).evaluate zone) :=
    w.trans (w.arb s zone (ZoneArb.record r) fun _ => rfl) (w.evaluate _ _)
  unfold State.request
  split
  · exact w.refl s
  · split
    · split
      · exact w.arb s zone _ fun _ => rfl
      · exact w.refl s
    · split
      · split
        · exact h
        · exact w.refl s
      · dsimp only
        split <;> exact h

theorem requestAll (s : State) (r : Request) (b : Bool) (zones : List Nat) : R s (s.requestAll r b zones).1 := by
  induction zones generalizing s with
  | nil => exact w.refl s
  | cons z zones ih =>
    rw [requestAll_cons]
    exact w.trans (w.request s z r b) (ih _)

theorem startFeatures (fs : List Feature) (s : State) : R s (s.startFeatures fs) := by
  induction fs generalizing s with
  | nil => exact w.rotation s _ fun _ => rfl
  | cons f fs ih =>
    unfold State.startFeatures
    dsimp only
    have h := w.requestAll s ⟨5, .asset f.asset, some (s.toFrames f.duration), some f.sponsor⟩ false (s.resolveZones f.zones)
    split
    · exact w.trans h (w.trans (w.rotation _ _ fun _ => rfl) (ih _))
    · exact w.trans h (w.rotation _ _ fun _ => rfl)

theorem featureFollow (s : State) : R s s.featureFollow := by
  unfold State.featureFollow
  split
  · split
    · exact w.startFeatures _ s
    · exact w.refl s
  · exact w.refl s

theorem finishCard (s : State) (id : Nat) : R s (s.finishCard id) := by
  unfold State.finishCard
  dsimp only
  have h := w.trans (w.crawl s _) (w.crawl (s.mapMessage id fun m => { m with featuredDone := true }) fun c =>
    { c with featureOrder := c.featureOrder.filter (· != id) })
  split
  · split
    · exact w.trans h (w.trans (w.crawl _ _) (w.raise _ _ _))
    · exact h
  · exact h

theorem startCards (ids : List Nat) (s : State) : R s (s.startCards ids) := by
  induction ids generalizing s with
  | nil => exact w.crawl s _
  | cons id ids ih =>
    unfold State.startCards
    dsimp only
    have h := w.requestAll s ⟨6, .card id, some (s.toFrames s.crawl.config.duration), none⟩ false
      (s.resolveZones s.crawl.config.zones.ids)
    split
    · exact w.trans h (w.trans (w.crawl _ _) (w.trans (w.finishCard _ _) (ih _)))
    · exact w.trans h (w.crawl _ _)

theorem cardFollow (s : State) : R s s.cardFollow := by
  unfold State.cardFollow
  split
  · split
    · exact w.trans (w.crawl s _) (w.trans (w.finishCard _ _) (w.startCards _ _))
    · exact w.refl s
  · exact w.refl s

theorem followUps (s : State) : R s s.followUps := w.trans (w.featureFollow s) (w.cardFollow _)

theorem endOne (s : State) (zone level : Nat) : R s (s.endOne o zone level) := by
  unfold State.endOne
  split
  · exact w.trans (w.arb s zone (ZoneArb.remove level) fun _ => rfl) (w.trans (w.raise _ _ _) (w.tell _ _ _))
  · exact w.refl s

theorem endEach (s : State) (items : List (Nat × Nat)) : R s (s.endEach o items) :=
  w.foldl _ _ (fun s (i : Nat × Nat) => w.endOne s i.1 i.2) s

theorem endAll (s : State) (items : List (Nat × Nat)) : R s (s.endAll o items) :=
  w.trans (w.endEach s items) (w.trans (w.evaluateAll _ _) (w.followUps _))

end Walk

theorem Walk.restart {R : State → State → Prop} (w : Walk .restart R) (s : State) : R s s.arbiterRestart :=
  w.trans (w.endEach s _) (w.trans (w.evaluateAll _ _) (w.followUps _))

theorem Walk.released {R : State → State → Prop} (w : Walk .released R) (s : State) (zone level : Nat) :
    R s (s.release zone level) := by
  unfold State.release
  split
  · exact w.endAll s _
  · exact w.refl s

/-! ### Specifications and masks of the zones, one by one -/

/-- The zones stand in their order with their specifications and masks. -/
def MasksKept (s t : State) : Prop :=
  (t.canvas.zones.map fun z => (z.spec, z.arb.mask)) = s.canvas.zones.map fun z => (z.spec, z.arb.mask)

theorem zones_mapArb {β : Type} (g : Zone → β) (s : State) (zone : Nat) (f : ZoneArb → ZoneArb)
    (hf : ∀ z : Zone, g { z with arb := f z.arb } = g z) : (s.mapArb zone f).canvas.zones.map g = s.canvas.zones.map g := by
  show (s.canvas.zones.map fun z => if z.spec.id = zone then { z with arb := f z.arb } else z).map g = _
  rw [List.map_map]
  refine List.map_congr_left fun z _ => ?_
  show g (if z.spec.id = zone then { z with arb := f z.arb } else z) = g z
  split
  · exact hf z
  · rfl

theorem MasksKept.of_frame {P : List Part} {s t : State} (h : Frame P s t) (hP : P.contains .zones = false := by decide) :
    MasksKept s t := by
  unfold MasksKept
  rw [h.zones hP]

theorem masksKept_walk (o : Outcome) : Walk o MasksKept where
  refl _ := rfl
  trans h k := k.trans h
  arb s zone f hf := zones_mapArb _ s zone f fun z => by rw [hf]
  note s zone level := .of_frame (noteGrant_frame s zone level)
  rotation _ _ _ := rfl
  crawl _ _ := rfl
  raise _ _ _ := rfl
  tell s zone level := by
    unfold State.tellOwner
    split
    · rfl
    · rfl
    · exact .of_frame (channelEnded_frame s _ _ _)
    · exact .of_frame (channelEnded_frame s _ _ _)
    · rfl
    · rfl
    · rfl

/-! ### What RESTART's ends leave of the channels -/

/-- What a channel keeps whatever its entries do: its chain flag and its numbering; and the save copy's reader. -/
structure EntriesCut (s t : State) : Prop where
  chans : ∀ ch, (t.chan ch).chain = (s.chan ch).chain ∧ (t.chan ch).nextCue = (s.chan ch).nextCue
  save : t.capture.readSave = s.capture.readSave

theorem EntriesCut.trans {s t u : State} (h : EntriesCut s t) (k : EntriesCut t u) : EntriesCut s u :=
  ⟨fun ch => ⟨(k.chans ch).1.trans (h.chans ch).1, (k.chans ch).2.trans (h.chans ch).2⟩, k.save.trans h.save⟩

theorem EntriesCut.of_same {s t : State} (h : t.replay = s.replay) (k : t.capture = s.capture) : EntriesCut s t :=
  ⟨fun ch => by unfold State.chan; rw [h]; exact ⟨rfl, rfl⟩, by rw [k]⟩

theorem EntriesCut.refl (s : State) : EntriesCut s s := .of_same rfl rfl

theorem mapChan_entriesCut (s : State) (ch : Channel) (f : Chan → Chan)
    (hf : ∀ c, (f c).chain = c.chain ∧ (f c).nextCue = c.nextCue) : EntriesCut s (s.mapChan ch f) := by
  cases ch
  · exact ⟨fun ch => by cases ch; exact hf _; exact ⟨rfl, rfl⟩, rfl⟩
  · exact ⟨fun ch => by cases ch; exact ⟨rfl, rfl⟩; exact hf _, rfl⟩

theorem placeHead_entriesCut (s : State) (ch : Channel) : EntriesCut s (s.placeHead ch) :=
  mapChan_entriesCut s ch _ fun c => by cases c.cues <;> exact ⟨rfl, rfl⟩

theorem cutCues_entriesCut (s : State) (ch : Channel) (f : List Cue → List Cue) : EntriesCut s (s.cutCues ch f) := by
  refine ((mapChan_entriesCut s ch (fun c => { c with cues := f c.cues }) fun _ => ⟨rfl, rfl⟩).trans (placeHead_entriesCut _ ch)).trans ?_
  cases ch <;> exact ⟨fun _ => ⟨rfl, rfl⟩, rfl⟩

theorem entriesCut_walk : Walk .restart EntriesCut where
  refl := .refl
  trans := .trans
  arb _ _ _ _ := .of_same rfl rfl
  note s zone level := by
    unfold State.noteGrant
    split
    · split
      · exact mapChan_entriesCut s _ _ fun _ => ⟨rfl, rfl⟩
      · exact .refl s
    · exact .refl s
  rotation _ _ _ := .of_same rfl rfl
  crawl _ _ := .of_same rfl rfl
  raise _ _ _ := .of_same rfl rfl
  tell s zone level := by
    have h (ch : Channel) : EntriesCut s (s.channelEnded ch zone .restart) := by
      unfold State.channelEnded State.endEntry
      dsimp only [entryOutcome]
      split
      · split
        · exact .refl s
        · exact (cutCues_entriesCut s ch _).trans (.of_same rfl rfl)
      · exact .refl s
    unfold State.tellOwner
    split
    · exact .of_same rfl rfl
    · exact .of_same rfl rfl
    · exact h _
    · exact h _
    · exact .of_same rfl rfl
    · exact .of_same rfl rfl
    · exact .refl s

/-! ### What releases leave of the replay unit -/

/-- Readers and clips stand, and each channel stands but that a REQUESTED one may have come to be COVERED (R152). -/
structure ReplayKept (s t : State) : Prop where
  chans : ∀ ch, t.chan ch = s.chan ch ∨ (s.chan ch).state = .requested ∧ t.chan ch = { s.chan ch with state := .covered }
  capture : t.capture = s.capture
  clips : t.replay.clips = s.replay.clips
  queue : t.replay.saveQueue = s.replay.saveQueue

theorem ReplayKept.of_same {s t : State} (h : t.replay = s.replay) (k : t.capture = s.capture) : ReplayKept s t :=
  ⟨fun ch => .inl (by unfold State.chan; rw [h]), k, by rw [h], by rw [h]⟩

theorem ReplayKept.trans {s t u : State} (h : ReplayKept s t) (k : ReplayKept t u) : ReplayKept s u where
  chans ch := by
    rcases h.chans ch with h1 | ⟨h1, h2⟩
    · rcases k.chans ch with k1 | ⟨k1, k2⟩
      · exact .inl (k1.trans h1)
      · exact .inr ⟨h1 ▸ k1, h1 ▸ k2⟩
    · rcases k.chans ch with k1 | ⟨k1, -⟩
      · exact .inr ⟨h1, k1.trans h2⟩
      · rw [h2] at k1
        cases k1
  capture := k.capture.trans h.capture
  clips := k.clips.trans h.clips
  queue := k.queue.trans h.queue

theorem noteGrant_replayKept (s : State) (zone level : Nat) : ReplayKept s (s.noteGrant zone level) := by
  unfold State.noteGrant
  split
  · next ch _ =>
    split
    · next h =>
      cases ch
      · exact ⟨fun ch => by cases ch; exact .inr ⟨h.1, rfl⟩; exact .inl rfl, rfl, rfl, rfl⟩
      · exact ⟨fun ch => by cases ch; exact .inl rfl; exact .inr ⟨h.1, rfl⟩, rfl, rfl, rfl⟩
    · exact .of_same rfl rfl
  · exact .of_same rfl rfl

theorem replayKept_walk : Walk .released ReplayKept where
  refl _ := .of_same rfl rfl
  trans := .trans
  arb _ _ _ _ := .of_same rfl rfl
  note := noteGrant_replayKept
  rotation _ _ _ := .of_same rfl rfl
  crawl _ _ := .of_same rfl rfl
  raise _ _ _ := .of_same rfl rfl
  tell s zone level := by
    unfold State.tellOwner
    split <;> exact .of_same rfl rfl

/-- An idle channel stays as it is. -/
theorem ReplayKept.idle {s t : State} (h : ReplayKept s t) {ch : Channel} (hs : (s.chan ch).state = .idle) :
    t.chan ch = s.chan ch := by
  rcases h.chans ch with h | ⟨h, -⟩
  · exact h
  · rw [hs] at h
    cases h

/-! ### The numbering of features -/

theorem nextFeature_walk (o : Outcome) : Walk o fun s t => t.rotation.nextFeature = s.rotation.nextFeature where
  refl _ := rfl
  trans h k := k.trans h
  arb _ _ _ _ := rfl
  note s zone level := ((noteGrant_frame s zone level).same .features (by decide)).2.2.1
  rotation s f hf := by rw [mapRotation_rotation, hf]
  crawl _ _ := rfl
  raise _ _ _ := rfl
  tell s zone level := by
    unfold State.tellOwner
    split
    · rfl
    · rfl
    · exact ((channelEnded_frame s _ _ _).same .features (by decide)).2.2.1
    · exact ((channelEnded_frame s _ _ _).same .features (by decide)).2.2.1
    · rfl
    · rfl
    · rfl

end Sys2Proof.Machine
end

section
namespace Sys2Proof.Machine

set_option Elab.async false

/-! ## A level that an event does not end -/

/-- A level stands as it did, but that a pending request may have been granted, with the first frame given (R110). -/
def LevelKept (l f : Nat) (a b : ZoneArb) : Prop :=
  b.level l = a.level l ∨
    ∃ r, a.pendingAt l = some r ∧ b.level l = (none, some ⟨r.level, r.content, r.frames, f, 0, r.credit, 0⟩, false)

theorem levelKept_rule (l : Nat) : ArbRule (LevelKept l) where
  refl _ _ := .inl rfl
  trans {f a b c} h k := by
    rcases h with h | ⟨r, hp, h⟩
    · rcases k with k | ⟨r, hp, k⟩
      · exact .inl (k.trans h)
      · have : b.pendingAt l = a.pendingAt l := congrArg (·.1) h
        exact .inr ⟨r, this ▸ hp, k⟩
    · rcases k with k | ⟨q, hq, -⟩
      · exact .inr ⟨r, hp, k.trans h⟩
      · have : b.pendingAt l = none := congrArg (·.1) h
        rw [this] at hq
        cases hq
  grant f {run z r} h := by
    by_cases hl : l = r.level
    · exact .inr ⟨r, by rw [hl]; exact pendingAt_of_nextGrant h, by rw [level_grant, if_pos hl]⟩
    · exact .inl (by rw [level_grant, if_neg hl])

theorem levelKept_remove {l m : Nat} (h : l ≠ m) (f : Nat) (a : ZoneArb) : LevelKept l f a (a.remove m) :=
  .inl (by rw [level_remove, if_neg h])

theorem levelKept_record {l : Nat} {r : Request} (h : l ≠ r.level) (f : Nat) (a : ZoneArb) : LevelKept l f a (a.record r) :=
  .inl (by rw [level_record, if_neg h])

/-! ## The items that RESTART ends -/

theorem mem_standingItems {s : State} {p : Zone → Nat → Bool} {i : Nat × Nat} (h : i ∈ s.standingItems p) :
    ∃ z ∈ s.canvas.zones, z.spec.id = i.1 ∧ p z i.2 = true := by
  simp only [State.standingItems, List.mem_flatMap, List.mem_map, List.mem_filter, List.mem_range] at h
  obtain ⟨z, hz, l, ⟨-, hl⟩, rfl⟩ := h
  exact ⟨z, hz, rfl, by simp only [Bool.and_eq_true] at hl; exact hl.1⟩

/-- A level that stands in a zone is among the items that end it. -/
theorem standingItems_of_standsAt {s : State} {p : Nat → Bool} {zone level : Nat} (hp : p level = true) (h8 : level < 8)
    (h : (s.standsAt zone level).isSome = true) : (zone, level) ∈ s.standingItems fun _ l => p l := by
  unfold State.standsAt at h
  cases hz : s.zone? zone with
  | none => simp [hz] at h
  | some z =>
    have hs : (z.arb.standing level).isSome = true := by simpa [hz] using h
    simp only [State.standingItems, List.mem_flatMap, List.mem_map, List.mem_filter, List.mem_range]
    exact ⟨z, zone_mem hz, level, ⟨h8, by simp [hp, hs]⟩, by rw [zone_spec_id hz]⟩

/-- Once every standing item of some levels has ended, nothing stands at these levels. -/
theorem endEach_standingItems (s : State) (o : Outcome) (p : Nat → Bool) {zone level : Nat} (hp : p level = true)
    (h8 : level < 8) : (s.endEach o (s.standingItems fun _ l => p l)).standsAt zone level = none := by
  cases h : s.standsAt zone level with
  | some x => exact endEach_ends o _ s (zone, level) (standingItems_of_standsAt hp h8 (by rw [h]; rfl))
  | none => exact (endEach_zoneWise (staysFree_rule level) s o _ fun _ _ f a => staysFree_remove _ _ f a).standsAt h

/-! ## Requests stand in the zones that join -/

/-- A plain request leaves its level standing only where it stood, or in a zone that joins (R104). -/
theorem request_joins (s : State) (zone : Nat) (r : Request) {k : Nat} (hn : s.standsAt k r.level = none)
    (hs : ((s.request zone r false).1.standsAt k r.level).isSome = true) :
    k = zone ∧ (s.request zone r false).2.joins = true := by
  by_cases hk : k = zone
  · refine ⟨hk, ?_⟩
    subst hk
    unfold State.request at hs ⊢
    cases hz : s.zone? k with
    | none => simp [State.standsAt, hz] at hs
    | some z =>
      have hst : z.arb.pendingAt r.level = none ∧ z.arb.serviceAt r.level = none :=
        (standing_eq_none _ _).mp (by simpa [State.standsAt, hz] using hn)
      simp only [hst, Option.isSome_none, Bool.false_eq_true, if_false]
      split <;> rfl
  · exfalso
    have hother : (s.request zone r false).1.standsAt k r.level = none := by
      have he (u : State) (h : u.standsAt k r.level = none) : (u.evaluate zone).standsAt k r.level = none :=
        (evaluate_zoneWise (staysFree_rule r.level) u zone).standsAt h
      have hm : (s.mapArb zone (ZoneArb.record r)).standsAt k r.level = none := by
        unfold State.standsAt at hn ⊢
        rw [zone_mapArb]
        cases h : s.zone? k with
        | none => rfl
        | some z => rw [h] at hn; simpa [hk] using hn
      unfold State.request
      split
      · exact hn
      · split
        · exact hn
        · split
          · exact hn
          · dsimp only
            split <;> exact he _ hm
    rw [hother] at hs
    cases hs

/-- Plain requests at a level that nothing holds leave it standing only in zones that join (R104, R105). -/
theorem requestAll_joins (r : Request) (zones : List Nat) (s : State) {k : Nat} (hn : s.standsAt k r.level = none)
    (hs : ((s.requestAll r false zones).1.standsAt k r.level).isSome = true) : k ∈ (s.requestAll r false zones).2 := by
  induction zones generalizing s with
  | nil => rw [show (s.requestAll r false []).1 = s from rfl, hn] at hs; cases hs
  | cons z zones ih =>
    rw [requestAll_cons] at hs ⊢
    cases h : (s.request z r false).1.standsAt k r.level with
    | none => exact List.mem_append_right _ (ih _ h hs)
    | some x =>
      obtain ⟨hz, hj⟩ := request_joins s z r hn (by rw [h]; rfl)
      exact List.mem_append_left _ (by simp [hj, hz])

/-- Where level 5 stands, it stands for the head feature's outstanding zones alone. -/
def FeaturesCover (s : State) : Prop :=
  ∀ zone, (s.standsAt zone 5).isSome = true → ∃ f ∈ s.rotation.features.head?, zone ∈ f.outstanding

theorem startFeatures_cover (fs : List Feature) (s : State) (hn : ∀ zone, s.standsAt zone 5 = none) :
    FeaturesCover (s.startFeatures fs) := by
  induction fs generalizing s with
  | nil =>
    intro zone hs
    rw [show (s.startFeatures []).standsAt zone 5 = s.standsAt zone 5 from rfl, hn] at hs
    cases hs
  | cons f fs ih =>
    have hj (zone : Nat) := requestAll_joins ⟨5, .asset f.asset, some (s.toFrames f.duration), some f.sponsor⟩
      (s.resolveZones f.zones) s (k := zone) (hn zone)
    unfold State.startFeatures
    dsimp only
    split
    · next he =>
      refine ih _ fun zone => ?_
      cases h : (s.requestAll ⟨5, .asset f.asset, some (s.toFrames f.duration), some f.sponsor⟩ false
        (s.resolveZones f.zones)).1.standsAt zone 5 with
      | none => exact h
      | some x =>
        have hm := hj zone (by rw [h]; rfl)
        rw [List.isEmpty_iff.mp he] at hm
        cases hm
    · exact fun zone hs => ⟨_, rfl, hj zone hs⟩

theorem featureFollow_cover (s : State) (hn : ∀ zone, s.standsAt zone 5 = none) : FeaturesCover s.featureFollow := by
  have hs : FeaturesCover s := fun zone h => by rw [hn] at h; cases h
  unfold State.featureFollow
  split
  · split
    · exact startFeatures_cover _ s hn
    · exact hs
  · exact hs

/-- A card's request follows no feature and changes none. -/
theorem followUps_cover (s : State) (hn : ∀ zone, s.standsAt zone 5 = none) : FeaturesCover s.followUps := by
  have h := featureFollow_cover s hn
  have hr := ((cardFollow_frame s.featureFollow).same .features (by decide)).1
  intro zone hs
  show ∃ f ∈ s.featureFollow.cardFollow.rotation.features.head?, _
  rw [hr]
  refine h zone ?_
  cases hz : s.featureFollow.standsAt zone 5 with
  | some x => rfl
  | none =>
    have := (cardFollow_zoneWise (staysFree_rule 5) (fun f a r hr => staysFree_record f a r (by omega)) s.featureFollow).standsAt hz
    rw [show s.followUps = s.featureFollow.cardFollow from rfl, this] at hs
    cases hs

/-- Where the feature list is empty and no card stands, owners request nothing. -/
theorem followUps_of_none {s : State} (hf : s.rotation.features = []) (hc : s.crawl.card = none) : s.followUps = s := by
  unfold State.followUps State.cardFollow State.featureFollow
  rw [hf]
  dsimp only
  rw [hc]

theorem featureFollow_of_nil {s : State} (hf : s.rotation.features = []) : s.featureFollow = s := by
  unfold State.featureFollow
  rw [hf]

end Sys2Proof.Machine
end

section
namespace Sys2Proof.Machine

set_option Elab.async false

/-! ## What a selection reads -/

/-- The zone of a specification carries a program (R166). -/
def carriesSpec (idle : Option Nat) (p : Nat) (n : ZoneSpec) : Bool :=
  match n.base with
  | .rotation q => p == q
  | .crawl => idle == some p
  | _ => false

theorem carrying_eq (s : State) (p : Nat) : s.carrying p =
    ((s.canvas.zones.map (·.spec)).filter (carriesSpec s.crawl.config.idle p)).map (·.id) := by
  unfold State.carrying State.zonesWith
  rw [List.filter_map, List.map_map]
  rfl

/-- Two states agree in what activity and choice of a program read: the zones' specifications, the idle program, the assets,
the frame rate and the fulfilments (R166, R168). -/
structure Chooses (s t : State) : Prop where
  specs : t.canvas.zones.map (·.spec) = s.canvas.zones.map (·.spec)
  config : t.crawl.config = s.crawl.config
  assets : t.canvas.assets = s.canvas.assets
  size : t.canvas.size = s.canvas.size
  fulfilled : ∀ id, (t.exposed id).fulfilled = (s.exposed id).fulfilled

section
variable {s t u : State}

theorem Chooses.refl (s : State) : Chooses s s := ⟨rfl, rfl, rfl, rfl, fun _ => rfl⟩

theorem Chooses.trans (h : Chooses s t) (k : Chooses t u) : Chooses s u :=
  ⟨k.specs.trans h.specs, k.config.trans h.config, k.assets.trans h.assets, k.size.trans h.size,
    fun id => (k.fulfilled id).trans (h.fulfilled id)⟩

theorem Chooses.active (h : Chooses s t) (p : Nat) : t.active p = s.active p := by
  unfold State.active
  rw [carrying_eq, carrying_eq, h.specs, h.config]

theorem Chooses.toFrames (h : Chooses s t) (n : Nat) : t.toFrames n = s.toFrames n := by
  unfold State.toFrames
  rw [h.size]

theorem Chooses.assetReady (h : Chooses s t) (id : Nat) : t.assetReady id = s.assetReady id := by
  unfold State.assetReady State.asset?
  rw [h.assets]

theorem Chooses.firstChoice (h : Chooses s t) : t.firstChoice = s.firstChoice := by
  funext e
  unfold State.firstChoice State.entryFulfilled
  rw [h.assetReady]
  cases e.sponsor with
  | none => rfl
  | some id => simp only [h.fulfilled]

theorem Chooses.fillChoice (h : Chooses s t) : t.fillChoice = s.fillChoice := by
  funext e
  unfold State.fillChoice
  rw [h.assetReady]

theorem Chooses.choose (h : Chooses s t) (es : List RotEntry) : t.choose es = s.choose es := by
  unfold State.choose
  rw [h.firstChoice, h.fillChoice]

end

section
variable (s : State)

theorem exposed_mapExposed (id k : Nat) (f : Exposed → Exposed) :
    (s.mapExposed id f).exposed k = if k = id ∧ id < s.exposure.ids.length then f (s.exposed id) else s.exposed k := by
  show (s.exposure.ids.set id (f (s.exposed id))).getD k .reset = _
  rw [List.getD_eq_getElem?_getD, List.getElem?_set]
  by_cases h : id = k
  · subst h
    by_cases hl : id < s.exposure.ids.length
    · simp [hl]
    · simp [hl, State.exposed]
  · rw [if_neg h, if_neg (fun hk => h hk.1.symm)]
    simp [State.exposed, List.getD_eq_getElem?_getD]

theorem mapExposed_chooses (id : Nat) (f : Exposed → Exposed) (hf : ∀ x, (f x).fulfilled = x.fulfilled) :
    Chooses s (s.mapExposed id f) := by
  refine ⟨rfl, rfl, rfl, rfl, fun k => ?_⟩
  rw [exposed_mapExposed]
  split
  · next h => rw [hf, h.1]
  · rfl

theorem tellStart_chooses (e : RotEntry) : Chooses s (s.tellStart e) := by
  unfold State.tellStart
  split
  · exact mapExposed_chooses s _ _ fun _ => rfl
  · exact .refl s

theorem tellEnd_chooses (e : RotEntry) (short : Bool) : Chooses s (s.tellEnd e short) := by
  unfold State.tellEnd
  split
  · split
    · exact mapExposed_chooses s _ _ fun _ => rfl
    · exact .refl s
  · exact .refl s

theorem mapProgram_chooses (p : Nat) (f : Program → Program) : Chooses s (s.mapProgram p f) :=
  ⟨rfl, rfl, rfl, rfl, fun _ => rfl⟩

theorem raise_chooses (c : Cond) (d : Detail) : Chooses s (s.raise c d) := ⟨rfl, rfl, rfl, rfl, fun _ => rfl⟩

/-! ### The programs, one by one -/

theorem program_mapProgram (p q : Nat) (f : Program → Program) :
    (s.mapProgram p f).program q = if q = p ∧ p < s.rotation.programs.length then f (s.program p) else s.program q := by
  show (s.rotation.programs.set p (f (s.program p))).getD q .reset = _
  rw [List.getD_eq_getElem?_getD, List.getElem?_set]
  by_cases h : p = q
  · subst h
    by_cases hl : p < s.rotation.programs.length
    · simp [hl]
    · simp [hl, State.program]
  · rw [if_neg h, if_neg (fun hk => h hk.1.symm)]
    simp [State.program, List.getD_eq_getElem?_getD]

theorem length_mapProgram (p : Nat) (f : Program → Program) :
    (s.mapProgram p f).rotation.programs.length = s.rotation.programs.length := by simp [State.mapProgram]

theorem tellStart_rotation (e : RotEntry) : (s.tellStart e).rotation = s.rotation := by
  unfold State.tellStart
  split <;> rfl

theorem tellEnd_rotation (e : RotEntry) (short : Bool) : (s.tellEnd e short).rotation = s.rotation := by
  unfold State.tellEnd
  split
  · split <;> rfl
  · rfl

theorem program_of_rotation {s t : State} (h : t.rotation = s.rotation) (p : Nat) : t.program p = s.program p := by
  unfold State.program
  rw [h]

theorem raiseSkipped_rotation (p : Nat) (e : RotEntry) : (s.raiseSkipped p e).rotation = s.rotation := by
  unfold State.raiseSkipped
  split <;> rfl

theorem raiseSkipped_chooses (p : Nat) (e : RotEntry) : Chooses s (s.raiseSkipped p e) := by
  unfold State.raiseSkipped
  split
  · exact raise_chooses s _ _
  · exact .refl s

theorem raiseSkippeds_keep (p : Nat) (es : List RotEntry) :
    (es.foldl (fun s e => s.raiseSkipped p e) s).rotation = s.rotation ∧
      Chooses s (es.foldl (fun s e => s.raiseSkipped p e) s) ∧
      (es.foldl (fun s e => s.raiseSkipped p e) s).exposure = s.exposure := by
  induction es generalizing s with
  | nil => exact ⟨rfl, .refl s, rfl⟩
  | cons e es ih =>
    obtain ⟨h1, h2, h3⟩ := ih (s.raiseSkipped p e)
    exact ⟨h1.trans (raiseSkipped_rotation s p e), (raiseSkipped_chooses s p e).trans h2,
      h3.trans (raiseSkipped_frame s p e).exposure⟩

/-- An operation of one program: what the choice reads, the other programs and their number stand. -/
structure OneProgram (p : Nat) (s t : State) : Prop where
  chooses : Chooses s t
  others : ∀ q, q ≠ p → t.program q = s.program q
  length : t.rotation.programs.length = s.rotation.programs.length

theorem OneProgram.refl (p : Nat) : OneProgram p s s := ⟨.refl s, fun _ _ => rfl, rfl⟩

variable {s} in
theorem OneProgram.trans {p : Nat} {t u : State} (h : OneProgram p s t) (k : OneProgram p t u) : OneProgram p s u :=
  ⟨h.chooses.trans k.chooses, fun q hq => (k.others q hq).trans (h.others q hq), k.length.trans h.length⟩

theorem mapProgram_one (p : Nat) (f : Program → Program) : OneProgram p s (s.mapProgram p f) :=
  ⟨mapProgram_chooses s p f, fun q hq => by rw [program_mapProgram, if_neg (fun h => hq h.1)], length_mapProgram s p f⟩

theorem OneProgram.of_rotation {p : Nat} {s t : State} (h : t.rotation = s.rotation) (k : Chooses s t) : OneProgram p s t :=
  ⟨k, fun q _ => program_of_rotation h q, by rw [h]⟩

theorem closeAppearance_one (p : Nat) (b : Bool) (a : Appearance) : OneProgram p s (s.closeAppearance p b a) := by
  unfold State.closeAppearance
  dsimp only
  split
  · next e _ =>
    have h : OneProgram p s _ := .of_rotation (tellEnd_rotation s e a.short) (tellEnd_chooses s e a.short)
    exact h.trans (mapProgram_one _ p _)
  · exact mapProgram_one _ p _

theorem dropAppearance_one (p : Nat) : OneProgram p s (s.dropAppearance p) := by
  unfold State.dropAppearance
  split
  · exact .refl s p
  · exact closeAppearance_one s p _ _

theorem startEntry_one (p : Nat) (e : RotEntry) : OneProgram p s (s.startEntry p e) :=
  (mapProgram_one s p _).trans (.of_rotation (tellStart_rotation _ e) (tellStart_chooses _ e))

theorem startSlate_one (p : Nat) : OneProgram p s (s.startSlate p) :=
  (mapProgram_one s p _).trans (.of_rotation rfl (raise_chooses _ _ _))

theorem select_one (p : Nat) : OneProgram p s (s.select p) := by
  have h := raiseSkippeds_keep s p (s.examined (s.program p).candidates)
  have hs : OneProgram p s _ := .of_rotation h.1 h.2.1
  unfold State.select
  dsimp only
  split
  · exact hs.trans (startEntry_one _ p _)
  · exact hs.trans (startSlate_one _ p)

theorem restartProgram_one (p : Nat) : OneProgram p s (s.restartProgram p) := by
  have h : OneProgram p s _ := (dropAppearance_one s p).trans (mapProgram_one _ p fun g => { g with pointer := 0 })
  unfold State.restartProgram
  dsimp only
  split
  · exact h.trans (select_one _ p)
  · exact h

/-! ### What a restart makes of its program -/

variable {s} {p : Nat} (hp : p < s.rotation.programs.length)
include hp

theorem program_mapProgram_same (f : Program → Program) : (s.mapProgram p f).program p = f (s.program p) := by
  rw [program_mapProgram, if_pos ⟨rfl, hp⟩]

theorem dropAppearance_program : (s.dropAppearance p).program p = { s.program p with onAir := none } := by
  unfold State.dropAppearance
  cases hg : (s.program p).onAir with
  | none =>
    cases hs : s.program p
    simp_all
  | some a =>
    dsimp only
    unfold State.closeAppearance
    cases ha : a.entry with
    | none => exact program_mapProgram_same hp _
    | some e =>
      have hr := tellEnd_rotation s e a.short
      refine (program_mapProgram_same (s := s.tellEnd e a.short) (by rw [hr]; exact hp) _).trans ?_
      simp [program_of_rotation hr]

/-- The program and the state in which a restart selects (R179). -/
theorem cleared_program : ((s.dropAppearance p).mapProgram p fun g => { g with pointer := 0 }).program p =
    { s.program p with onAir := none, pointer := 0 } := by
  rw [program_mapProgram_same (by rw [(dropAppearance_one s p).length]; exact hp), dropAppearance_program hp]

theorem startEntry_program (e : RotEntry) (h0 : (s.program p).pointer = 0) : (s.startEntry p e).program p =
    { s.program p with
      onAir := some ⟨some e, s.toFrames e.dwell, 0, 0, 0⟩
      pointer := if (s.program p).mode = .fixed then indexAfter (s.program p).entries e.id else 0 } := by
  unfold State.startEntry
  rw [program_of_rotation (tellStart_rotation _ e), program_mapProgram_same hp]
  cases hm : (s.program p).mode <;> simp [h0, hm]

theorem startSlate_program : (s.startSlate p).program p =
    { s.program p with
      onAir := some ⟨none, s.toFrames 5000, 0, 0, 0⟩, slates := min 65535 ((s.program p).slates + 1) } := by
  refine Eq.trans ?_ (program_mapProgram_same hp fun g =>
    { g with onAir := some ⟨none, s.toFrames 5000, 0, 0, 0⟩, slates := satInc 65535 g.slates })
  rfl

omit hp in
theorem candidates_of_start {g : Program} (h0 : g.pointer = 0) : g.candidates = g.entries := by
  unfold Program.candidates
  split <;> simp [h0]

omit hp in
/-- A program's part of RESTART: pointer 0 and no appearance, and an active program selects afresh from its head (R179). -/
theorem restartProgram_inactive (hp : p < s.rotation.programs.length) (ha : s.active p = false) :
    (s.restartProgram p).program p = { s.program p with onAir := none, pointer := 0 } := by
  have h : OneProgram p s _ := (dropAppearance_one s p).trans (mapProgram_one _ p fun g => { g with pointer := 0 })
  unfold State.restartProgram
  dsimp only
  rw [h.chooses.active, ha, if_neg (by decide)]
  exact cleared_program hp

theorem restartProgram_chosen (ha : s.active p = true) {e : RotEntry} (he : s.choose (s.program p).entries = some e) :
    (s.restartProgram p).program p =
      { s.program p with
        onAir := some ⟨some e, s.toFrames e.dwell, 0, 0, 0⟩
        pointer := if (s.program p).mode = .fixed then indexAfter (s.program p).entries e.id else 0 } := by
  have h : OneProgram p s _ := (dropAppearance_one s p).trans (mapProgram_one _ p fun g => { g with pointer := 0 })
  obtain ⟨hu, hl⟩ : (_ ∧ _) := ⟨cleared_program hp, h.length ▸ hp⟩
  unfold State.restartProgram
  dsimp only
  rw [h.chooses.active, ha, if_pos rfl]
  generalize (s.dropAppearance p).mapProgram p (fun g => { g with pointer := 0 }) = u at h hu hl ⊢
  obtain ⟨k1, k2, -⟩ := raiseSkippeds_keep u p (u.examined (u.program p).candidates)
  have hc : u.choose (u.program p).candidates = some e := by
    rw [candidates_of_start (g := u.program p) (by rw [hu]), hu, h.chooses.choose, he]
  unfold State.select
  dsimp only
  rw [hc]
  dsimp only
  have hv := program_of_rotation k1 p
  rw [startEntry_program (by rw [k1]; exact hl) e (by rw [hv, hu]), hv, k2.toFrames, h.chooses.toFrames, hu]

theorem restartProgram_slate (ha : s.active p = true) (he : s.choose (s.program p).entries = none) :
    (s.restartProgram p).program p =
      { s.program p with
        onAir := some ⟨none, s.toFrames 5000, 0, 0, 0⟩, pointer := 0, slates := min 65535 ((s.program p).slates + 1) } := by
  have h : OneProgram p s _ := (dropAppearance_one s p).trans (mapProgram_one _ p fun g => { g with pointer := 0 })
  obtain ⟨hu, hl⟩ : (_ ∧ _) := ⟨cleared_program hp, h.length ▸ hp⟩
  unfold State.restartProgram
  dsimp only
  rw [h.chooses.active, ha, if_pos rfl]
  generalize (s.dropAppearance p).mapProgram p (fun g => { g with pointer := 0 }) = u at h hu hl ⊢
  obtain ⟨k1, k2, -⟩ := raiseSkippeds_keep u p (u.examined (u.program p).candidates)
  have hc : u.choose (u.program p).candidates = none := by
    rw [candidates_of_start (g := u.program p) (by rw [hu]), hu, h.chooses.choose, he]
  unfold State.select
  dsimp only
  rw [hc]
  dsimp only
  have hv := program_of_rotation k1 p
  rw [startSlate_program (by rw [k1]; exact hl), hv, k2.toFrames, h.chooses.toFrames, hu]

end

end Sys2Proof.Machine
end

section
namespace Sys2Proof.Machine

set_option Elab.async false

/-! ## Restarts of programs from states that agree in what they read and change -/

/-- Two states agree in what a program's restart reads and changes (R168 to R171, R182). -/
structure SameRotation (s t : State) : Prop where
  specs : t.canvas.zones.map (·.spec) = s.canvas.zones.map (·.spec)
  config : t.crawl.config = s.crawl.config
  assets : t.canvas.assets = s.canvas.assets
  size : t.canvas.size = s.canvas.size
  programs : t.rotation.programs = s.rotation.programs
  exposure : t.exposure = s.exposure

namespace SameRotation

variable {s t u : State}

theorem refl (s : State) : SameRotation s s := ⟨rfl, rfl, rfl, rfl, rfl, rfl⟩

theorem symm (h : SameRotation s t) : SameRotation t s :=
  ⟨h.specs.symm, h.config.symm, h.assets.symm, h.size.symm, h.programs.symm, h.exposure.symm⟩

theorem trans (h : SameRotation s t) (k : SameRotation t u) : SameRotation s u :=
  ⟨k.specs.trans h.specs, k.config.trans h.config, k.assets.trans h.assets, k.size.trans h.size, k.programs.trans h.programs,
    k.exposure.trans h.exposure⟩

theorem exposed (h : SameRotation s t) (id : Nat) : t.exposed id = s.exposed id := by
  unfold State.exposed
  rw [h.exposure]

theorem chooses (h : SameRotation s t) : Chooses s t :=
  ⟨h.specs, h.config, h.assets, h.size, fun id => by rw [h.exposed]⟩

theorem program (h : SameRotation s t) (p : Nat) : t.program p = s.program p := by
  unfold State.program
  rw [h.programs]

theorem mapProgram (h : SameRotation s t) (p : Nat) (f : Program → Program) :
    SameRotation (s.mapProgram p f) (t.mapProgram p f) where
  specs := h.specs
  config := h.config
  assets := h.assets
  size := h.size
  programs := by
    show t.rotation.programs.set p (f (t.program p)) = s.rotation.programs.set p (f (s.program p))
    rw [h.programs, h.program]
  exposure := h.exposure

theorem mapExposed (h : SameRotation s t) (id : Nat) (f : Exposed → Exposed) :
    SameRotation (s.mapExposed id f) (t.mapExposed id f) where
  specs := h.specs
  config := h.config
  assets := h.assets
  size := h.size
  programs := h.programs
  exposure := by
    show ({ t.exposure with ids := t.exposure.ids.set id (f (t.exposed id)) } : Exposure) =
      { s.exposure with ids := s.exposure.ids.set id (f (s.exposed id)) }
    rw [h.exposure, h.exposed]

theorem tellStart (h : SameRotation s t) (e : RotEntry) : SameRotation (s.tellStart e) (t.tellStart e) := by
  unfold State.tellStart
  split
  · rw [h.exposure]
    exact h.mapExposed _ _
  · exact h

theorem tellEnd (h : SameRotation s t) (e : RotEntry) (short : Bool) : SameRotation (s.tellEnd e short) (t.tellEnd e short) := by
  unfold State.tellEnd
  split
  · split
    · rw [h.exposure]
      exact h.mapExposed _ _
    · exact h
  · exact h

theorem closeAppearance (h : SameRotation s t) (p : Nat) (b : Bool) (a : Appearance) :
    SameRotation (s.closeAppearance p b a) (t.closeAppearance p b a) := by
  unfold State.closeAppearance
  dsimp only
  split
  · exact (h.tellEnd _ _).mapProgram p _
  · exact h.mapProgram p _

theorem dropAppearance (h : SameRotation s t) (p : Nat) : SameRotation (s.dropAppearance p) (t.dropAppearance p) := by
  unfold State.dropAppearance
  rw [h.program]
  split
  · exact h
  · exact h.closeAppearance p _ _

theorem startEntry (h : SameRotation s t) (p : Nat) (e : RotEntry) : SameRotation (s.startEntry p e) (t.startEntry p e) := by
  unfold State.startEntry
  rw [h.chooses.toFrames]
  exact (h.mapProgram p _).tellStart e

theorem startSlate (h : SameRotation s t) (p : Nat) : SameRotation (s.startSlate p) (t.startSlate p) := by
  have hr {u : State} {c : Cond} {d : Detail} : SameRotation u (u.raise c d) := ⟨rfl, rfl, rfl, rfl, rfl, rfl⟩
  unfold State.startSlate
  dsimp only
  rw [h.chooses.toFrames]
  exact (hr.symm.trans (h.mapProgram p _)).trans hr

theorem raiseSkippeds (s : State) (p : Nat) (es : List RotEntry) :
    SameRotation s (es.foldl (fun s e => s.raiseSkipped p e) s) := by
  obtain ⟨h1, h2, h3⟩ := raiseSkippeds_keep s p es
  exact ⟨h2.specs, h2.config, h2.assets, h2.size, by rw [h1], h3⟩

theorem select (h : SameRotation s t) (p : Nat) : SameRotation (s.select p) (t.select p) := by
  have hk := ((raiseSkippeds s p (s.examined (s.program p).candidates)).symm.trans h).trans
    (raiseSkippeds t p (t.examined (t.program p).candidates))
  unfold State.select
  dsimp only
  rw [h.program] at hk ⊢
  rw [h.chooses.choose]
  split
  · exact hk.startEntry p _
  · exact hk.startSlate p

theorem restartProgram (h : SameRotation s t) (p : Nat) : SameRotation (s.restartProgram p) (t.restartProgram p) := by
  have hk := (h.dropAppearance p).mapProgram p fun g => { g with pointer := 0 }
  unfold State.restartProgram
  dsimp only
  rw [hk.chooses.active]
  split
  · exact hk.select p
  · exact hk

theorem restartPrograms (h : SameRotation s t) (ps : List Nat) :
    SameRotation (ps.foldl (fun u p => u.restartProgram p) s) (ps.foldl (fun u p => u.restartProgram p) t) := by
  induction ps generalizing s t with
  | nil => exact h
  | cons p ps ih => exact ih (h.restartProgram p)

end SameRotation

/-! ## Each program after all have restarted -/

theorem restartPrograms_others (ps : List Nat) {q : Nat} (hq : q ∉ ps) (s : State) :
    (ps.foldl (fun u p => u.restartProgram p) s).program q = s.program q := by
  induction ps generalizing s with
  | nil => rfl
  | cons p ps ih =>
    simp only [List.mem_cons, not_or] at hq
    exact (ih hq.2 _).trans ((restartProgram_one s p).others q hq.1)

/-- Each program restarts from a state that agrees with the first in what a choice reads, and the others leave it. -/
theorem restartPrograms_each (ps : List Nat) (hn : ps.Nodup) {q : Nat} (hq : q ∈ ps) (s : State) :
    ∃ u, Chooses s u ∧ u.program q = s.program q ∧ u.rotation.programs.length = s.rotation.programs.length ∧
      (ps.foldl (fun u p => u.restartProgram p) s).program q = (u.restartProgram q).program q := by
  induction ps generalizing s with
  | nil => cases hq
  | cons p ps ih =>
    obtain ⟨hp, hn⟩ := List.nodup_cons.mp hn
    have h1 := restartProgram_one s p
    by_cases h : q = p
    · subst h
      exact ⟨s, .refl s, rfl, rfl, restartPrograms_others ps hp (s.restartProgram q)⟩
    · obtain ⟨u, hc, hu, hl, he⟩ := ih hn ((List.mem_cons.mp hq).resolve_left h) (s.restartProgram p)
      exact ⟨u, h1.chooses.trans hc, hu.trans (h1.others q h), hl.trans h1.length, he⟩

/-- What RESTART makes of each program (R179). -/
theorem restartPrograms_values {s : State} (hl : s.rotation.programs.length = 4) {p : Nat} (hp : p < 4) :
    let g := s.program p
    let n := ([0, 1, 2, 3].foldl (fun u p => u.restartProgram p) s).program p
    n.mode = g.mode ∧ n.cover = g.cover ∧ n.entries = g.entries ∧
      (s.active p = false → n.onAir = none ∧ n.pointer = 0 ∧ n.slates = g.slates) ∧
      (s.active p = true →
        (∀ e, s.choose g.entries = some e → n.onAir = some ⟨some e, s.toFrames e.dwell, 0, 0, 0⟩ ∧ n.slates = g.slates ∧
          n.pointer = (if g.mode = .fixed then indexAfter g.entries e.id else 0)) ∧
        (s.choose g.entries = none → n.onAir = some ⟨none, s.toFrames 5000, 0, 0, 0⟩ ∧
          n.slates = min 65535 (g.slates + 1) ∧ n.pointer = 0)) := by
  obtain ⟨u, hc, hu, hlu, he⟩ := restartPrograms_each [0, 1, 2, 3] (by decide) (q := p) (by simp; omega) s
  have hpu : p < u.rotation.programs.length := by omega
  dsimp only
  rw [he]
  cases ha : s.active p with
  | false =>
    rw [restartProgram_inactive hpu (by rw [hc.active, ha]), hu]
    exact ⟨rfl, rfl, rfl, fun _ => ⟨rfl, rfl, rfl⟩, nofun⟩
  | true =>
    have hau : u.active p = true := by rw [hc.active, ha]
    have hch : u.choose (u.program p).entries = s.choose (s.program p).entries := by rw [hc.choose, hu]
    cases hx : s.choose (s.program p).entries with
    | some e =>
      rw [restartProgram_chosen hpu hau (hch.trans hx), hu, hc.toFrames]
      exact ⟨rfl, rfl, rfl, nofun, fun _ => ⟨fun e he => by cases he; exact ⟨rfl, rfl, rfl⟩, nofun⟩⟩
    | none =>
      rw [restartProgram_slate hpu hau (hch.trans hx), hu, hc.toFrames]
      exact ⟨rfl, rfl, rfl, nofun, fun _ => ⟨nofun, fun _ => ⟨rfl, rfl, rfl⟩⟩⟩

end Sys2Proof.Machine
end

section
namespace Sys2Proof.Machine

set_option Elab.async false

/-! ## Where the feature list is empty, or no card stands -/

section
variable {s : State}

theorem tellOwner_rotation_of_nil (h : s.rotation.features = []) (zone level : Nat) (o : Outcome) :
    (s.tellOwner zone level o).rotation = s.rotation := by
  have hc (ch : Channel) : (s.channelEnded ch zone o).rotation = s.rotation := by
    have k := channelEnded_frame s ch zone o
    obtain ⟨h1, h2, h3, h4⟩ := k.same .features (by decide)
    obtain ⟨h5, h6⟩ := k.same .sponsors (by decide)
    have h7 : _ = _ := k.same .programs (by decide)
    cases hs : s.rotation
    cases ht : (s.channelEnded ch zone o).rotation
    simp_all
  unfold State.tellOwner
  split
  · rfl
  · rfl
  · exact hc _
  · exact hc _
  · rw [mapRotation_rotation]
    unfold Rotation.levelEnded
    rw [h]
    cases hs : s.rotation
    simp_all
  · rfl
  · rfl

theorem Frame.rotation {P : List Part} {s t : State} (h : Frame P s t)
    (hP : [Part.sponsors, .programs, .features].all (fun p => !P.contains p) = true := by decide) :
    t.rotation = s.rotation := by
  simp only [List.all_cons, List.all_nil, Bool.and_true, Bool.and_eq_true, Bool.not_eq_true'] at hP
  obtain ⟨hs, hp, hf⟩ := hP
  obtain ⟨h1, h2, h3, h4⟩ := h.same .features (by simpa using hf)
  obtain ⟨h5, h6⟩ := h.same .sponsors (by simpa using hs)
  have h7 : t.rotation.programs = s.rotation.programs := h.same .programs (by simpa using hp)
  cases hs : s.rotation
  cases ht : t.rotation
  simp_all

theorem Frame.crawlSame {P : List Part} {s t : State} (h : Frame P s t)
    (hP : (P.contains .crawl || P.contains .crawlConfig) = false := by decide) : t.crawl = s.crawl := by
  simp only [Bool.or_eq_false_iff] at hP
  have h1 := h.same .crawl (by simpa using hP.1)
  have h2 := h.same .crawlConfig (by simpa using hP.2)
  simp only [samePart, Crawl.mk.injEq] at h1 h2
  cases hs : s.crawl
  cases ht : t.crawl
  simp_all

theorem endOne_rotation_of_nil (h : s.rotation.features = []) (o : Outcome) (zone level : Nat) :
    (s.endOne o zone level).rotation = s.rotation := by
  unfold State.endOne
  split
  · exact tellOwner_rotation_of_nil (s := (s.mapArb zone (ZoneArb.remove level)).raise _ _) h _ _ _
  · rfl

theorem endEach_rotation_of_nil (h : s.rotation.features = []) (o : Outcome) (items : List (Nat × Nat)) :
    (s.endEach o items).rotation = s.rotation := by
  induction items generalizing s with
  | nil => rfl
  | cons i items ih =>
    have h1 := endOne_rotation_of_nil h o i.1 i.2
    exact (ih (by rw [h1]; exact h)).trans h1

/-- With an empty feature list the ends of an event leave the rotation unit. -/
theorem endAll_rotation_of_nil (h : s.rotation.features = []) (o : Outcome) (items : List (Nat × Nat)) :
    (s.endAll o items).rotation = s.rotation := by
  have h1 := endEach_rotation_of_nil h o items
  have h2 := (evaluateAll_frame (s.endEach o items) (items.map (·.1))).rotation
  have hf : ((s.endEach o items).evaluateAll (items.map (·.1))).rotation.features = [] := by rw [h2, h1]; exact h
  unfold State.endAll State.followUps
  rw [featureFollow_of_nil hf, (cardFollow_frame _).rotation, h2, h1]

theorem tellOwner_crawl_of_none (h : s.crawl.card = none) (zone level : Nat) (o : Outcome) :
    (s.tellOwner zone level o).crawl = s.crawl := by
  unfold State.tellOwner
  split
  · rfl
  · rfl
  · exact (channelEnded_frame s _ _ _).crawlSame
  · exact (channelEnded_frame s _ _ _).crawlSame
  · rfl
  · rw [mapCrawl_crawl]
    unfold Crawl.levelEnded
    rw [h]
    cases hs : s.crawl
    simp_all
  · rfl

theorem endEach_crawl_of_none (h : s.crawl.card = none) (o : Outcome) (items : List (Nat × Nat)) :
    (s.endEach o items).crawl = s.crawl := by
  induction items generalizing s with
  | nil => rfl
  | cons i items ih =>
    have h1 : (s.endOne o i.1 i.2).crawl = s.crawl := by
      unfold State.endOne
      split
      · exact tellOwner_crawl_of_none (s := (s.mapArb i.1 (ZoneArb.remove i.2)).raise _ _) h _ _ _
      · rfl
    exact (ih (by rw [h1]; exact h)).trans h1

theorem cardFollow_of_none (h : s.crawl.card = none) : s.cardFollow = s := by
  unfold State.cardFollow
  rw [h]

/-- With no card standing, evaluations and follow-ups leave the crawl unit. -/
theorem follow_crawl_of_none (h : s.crawl.card = none) (zones : List Nat) : (s.evaluateAll zones).followUps.crawl = s.crawl := by
  have h1 := (evaluateAll_frame s zones).crawlSame.symm
  have h2 := (featureFollow_frame (s.evaluateAll zones)).crawlSame
  unfold State.followUps
  rw [cardFollow_of_none (by rw [h2, ← h1, h]), h2, ← h1]

theorem endAll_crawl_of_none (h : s.crawl.card = none) (o : Outcome) (items : List (Nat × Nat)) :
    (s.endAll o items).crawl = s.crawl := by
  have h1 := endEach_crawl_of_none h o items
  exact (follow_crawl_of_none (by rw [h1]; exact h) _).trans h1

end

/-! ## Channels emptied and features emptied -/

section
variable (s : State)

theorem emptyChannels_chan (ch : Channel) : (((s.emptyChannel .a).emptyChannel .b).chan ch).state = .idle ∧
    (((s.emptyChannel .a).emptyChannel .b).chan ch).cues = [] := by cases ch <;> exact ⟨rfl, rfl⟩

theorem emptyChannels_readers : ((s.emptyChannel .a).emptyChannel .b).capture.readA = none ∧
    ((s.emptyChannel .a).emptyChannel .b).capture.readB = none := ⟨rfl, rfl⟩

theorem Frame.chan {P : List Part} {s t : State} (h : Frame P s t) (ch : Channel)
    (hP : P.contains .channels = false := by decide) : t.chan ch = s.chan ch := by
  obtain ⟨h1, h2⟩ := h.same .channels (by simpa using hP)
  cases ch
  · exact h1
  · exact h2

theorem Frame.readers {P : List Part} {s t : State} (h : Frame P s t) (hP : P.contains .readers = false := by decide) :
    t.capture.readSave = s.capture.readSave ∧ t.capture.readA = s.capture.readA ∧ t.capture.readB = s.capture.readB :=
  h.same .readers (by simpa using hP)

theorem emptyFeatures_replayKept : ReplayKept s s.emptyFeatures :=
  ReplayKept.trans (t := s.mapRotation fun r => { r with features := [], breakRecorded := none }) (.of_same rfl rfl)
    (replayKept_walk.endAll _ _)

theorem emptyFeatures_rotation : s.emptyFeatures.rotation = { s.rotation with features := [], breakRecorded := none } :=
  endAll_rotation_of_nil (s := s.mapRotation fun r => { r with features := [], breakRecorded := none }) rfl .released _

theorem emptyFeatures_crawl (h : s.crawl.card = none) : s.emptyFeatures.crawl = s.crawl :=
  endAll_crawl_of_none (s := s.mapRotation fun r => { r with features := [], breakRecorded := none }) h .released _

/-- The levels that an emptied feature list releases (R179). -/
def State.featureItems (s : State) : List (Nat × Nat) :=
  match s.rotation.features with
  | f :: _ => f.outstanding.map fun z => (z, 5)
  | [] => []

theorem emptyFeatures_eq : s.emptyFeatures =
    (s.mapRotation fun r => { r with features := [], breakRecorded := none }).endAll .released s.featureItems := rfl

theorem featureItems_level {s : State} {i : Nat × Nat} (hi : i ∈ s.featureItems) : i.2 = 5 := by
  unfold State.featureItems at hi
  split at hi
  · simp only [List.mem_map] at hi
    obtain ⟨_, -, rfl⟩ := hi
    rfl
  · cases hi

theorem featureItems_of_cover {s : State} (h : FeaturesCover s) {zone : Nat} (hs : (s.standsAt zone 5).isSome = true) :
    (zone, 5) ∈ s.featureItems := by
  obtain ⟨f, hf, hz⟩ := h zone hs
  unfold State.featureItems
  cases hr : s.rotation.features with
  | nil => rw [hr] at hf; cases hf
  | cons g rest =>
    rw [hr] at hf
    cases hf
    simpa using hz

/-- Once the list is emptied, level 5 stands nowhere. -/
theorem emptyFeatures_levelFive {s : State} (h : FeaturesCover s) (zone : Nat) : s.emptyFeatures.standsAt zone 5 = none := by
  rw [emptyFeatures_eq]
  generalize hu : (s.mapRotation fun r => { r with features := [], breakRecorded := none }) = u
  have hf : u.rotation.features = [] := by subst hu; rfl
  have hz : u.standsAt zone 5 = s.standsAt zone 5 := by subst hu; rfl
  have h1 : (u.endEach .released s.featureItems).standsAt zone 5 = none := by
    cases hs : s.standsAt zone 5 with
    | some x => exact endEach_ends .released _ u (zone, 5) (featureItems_of_cover h (by rw [hs]; rfl))
    | none =>
      exact (endEach_zoneWise (staysFree_rule 5) u .released _ fun _ _ f a => staysFree_remove _ _ f a).standsAt (hz.trans hs)
  have h2 := (evaluateAll_zoneWise (staysFree_rule 5) (u.endEach .released s.featureItems)
    (s.featureItems.map (·.1))).standsAt h1
  have hr : ((u.endEach .released s.featureItems).evaluateAll (s.featureItems.map (·.1))).rotation.features = [] := by
    rw [(evaluateAll_frame _ _).rotation, endEach_rotation_of_nil hf]
    exact hf
  unfold State.endAll State.followUps
  rw [featureFollow_of_nil hr]
  exact (cardFollow_zoneWise (staysFree_rule 5) (fun f a r hr => staysFree_record f a r (by omega)) _).standsAt h2

/-- A relation that neither ends of level 5 nor requests of owners break holds across the emptying of the list. -/
theorem emptyFeatures_zoneWise {R : Nat → ZoneArb → ZoneArb → Prop} (hR : ArbRule R) (h5 : ∀ f a, R f a (a.remove 5))
    (hr : ∀ f a (r : Request), r.level = 5 ∨ r.level = 6 → R f a (a.record r)) (s : State) : ZoneWise R s s.emptyFeatures := by
  have h1 : ZoneWise R s (s.mapRotation fun r => { r with features := [], breakRecorded := none }) :=
    .of_frame hR (mapFeatures_frame s _ fun _ => ⟨rfl, rfl, rfl⟩)
  rw [emptyFeatures_eq]
  exact h1.trans hR (endAll_zoneWise hR _ _ _ (fun i hi f a => by rw [featureItems_level hi]; exact h5 f a) hr)

theorem emptyFeatures_timing : s.emptyFeatures.timing = s.timing ∧ s.emptyFeatures.record = s.record := by
  rw [emptyFeatures_eq]
  exact ⟨endAll_timing _ _ _ fun i hi => by rw [featureItems_level hi]; decide,
    endAll_record _ _ _ fun i hi => by rw [featureItems_level hi]; decide⟩

/-! ## What RESTART records -/

theorem dropAppearance_reports (p : Nat) : Reports [] s (s.dropAppearance p) [] := by
  unfold State.dropAppearance State.closeAppearance
  split
  · exact .refl _ s
  · dsimp only
    split
    · unfold State.tellEnd
      split
      · split <;> exact .of_links rfl rfl
      · exact .of_links rfl rfl
    · exact .of_links rfl rfl

theorem startEntry_reports (p : Nat) (e : RotEntry) : Reports [] s (s.startEntry p e) [] := by
  unfold State.startEntry State.tellStart
  split <;> exact .of_links rfl rfl

theorem startSlate_reports (p : Nat) : Reports [.rotationEmpty] s (s.startSlate p) [] := by
  unfold State.startSlate
  exact .raise_quiet (by decide) (s.mapProgram p _) _

theorem select_reports (p : Nat) : Reports [.assetState, .rotationEmpty] s (s.select p) [] := by
  have h : Reports [.assetState, .rotationEmpty] s _ [] :=
    Reports.foldl (fun s e => s.raiseSkipped p e) (s.examined (s.program p).candidates) (fun s e => by
      unfold State.raiseSkipped
      split
      · exact .raise_quiet (by decide) _ _
      · exact .refl _ s) s
  unfold State.select
  dsimp only
  split
  · exact h.quiet (startEntry_reports _ p _)
  · exact h.quiet (startSlate_reports _ p)

theorem restartProgram_reports (p : Nat) : Reports [.assetState, .rotationEmpty] s (s.restartProgram p) [] := by
  have h : Reports [.assetState, .rotationEmpty] s ((s.dropAppearance p).mapProgram p fun g => { g with pointer := 0 }) [] :=
    (dropAppearance_reports s p).mono.next (.of_links rfl rfl)
  unfold State.restartProgram
  dsimp only
  split
  · exact h.next (select_reports _ p)
  · exact h

theorem emptyFeatures_reports : Reports (endKinds .released) s s.emptyFeatures [] := by
  rw [emptyFeatures_eq]
  exact (mapRotation_reports s _).next (endAll_reports _ .released _)

/-- The kinds that a RESTART may record (R114, R158, R168, R171, R199). -/
def restartKinds : List Cond := [.takeoverEnded, .messageDone, .channelState, .assetState, .rotationEmpty]

/-- RESTART before the programs restart: the production link cleared, the arbiter's ends, and both channels emptied. -/
def State.restartEnds (s : State) : State :=
  ((s.mapLink .production LinkState.restart).arbiterRestart.emptyChannel .a).emptyChannel .b

/-- RESTART with the programs restarted. -/
def State.restartProgrammed (s : State) : State := [0, 1, 2, 3].foldl (fun s p => s.restartProgram p) s.restartEnds

theorem restart_eq : s.restart = s.restartProgrammed.emptyFeatures.clearStrip := rfl

theorem restartEnds_reports : Reports restartKinds (s.mapLink .production LinkState.restart) s.restartEnds [] :=
  ((arbiterRestart_reports _).mono.next ((cutCues_reports _ .a fun _ => []).mono)).next
    ((cutCues_reports _ .b fun _ => []).mono)

theorem restart_reports : Reports restartKinds (s.mapLink .production LinkState.restart) s.restart [] := by
  have h2 : Reports restartKinds s.restartEnds s.restartProgrammed [] :=
    Reports.foldl (fun s p => s.restartProgram p) [0, 1, 2, 3] (fun s p => (restartProgram_reports s p).mono) _
  rw [restart_eq]
  exact (((restartEnds_reports s).next h2).quiet (emptyFeatures_reports _)).next (mapCrawl_reports _ _)

/-- A kind that is not recorded keeps its entry. -/
theorem Reports.entry_same {K : List Cond} {s t : State} (h : Reports K s t []) {c : Cond} (hc : K.contains c = false)
    (link : Link) : (t.link link).entry c = (s.link link).entry c := by
  obtain ⟨es, hp, ht, hn⟩ := h
  have hl (l : LinkState) : (l.occurs es).entry c = l.entry c := by
    have hk : ∀ e ∈ es, c ≠ e.1 := by
      rintro e he rfl
      have := List.filter_eq_nil_iff.mp hn e he
      simp only [Bool.not_eq_true, Bool.not_eq_false'] at this
      rw [this] at hc
      cases hc
    clear hp ht hn
    induction es generalizing l with
    | nil => rfl
    | cons e es ih =>
      exact (ih (l.occur e.1 e.2) fun e he => hk e (by simp [he])).trans (entry_occur_other l _ _ (hk e (by simp)))
  cases link
  · exact (congrArg (LinkState.entry · c) hp).trans (hl _)
  · exact (congrArg (LinkState.entry · c) ht).trans (hl _)

end

end Sys2Proof.Machine
end

section
namespace Sys2Proof.Machine

set_option Elab.async false

/-! ## RESTART, unit by unit -/

section
variable (s : State)

/-- The items that RESTART's arbiter ends are of level 0 or above 2. -/
theorem restartItems_level {s : State} {i : Nat × Nat} (hi : i ∈ s.standingItems fun _ l => l == 0 || 3 ≤ l) :
    i.2 ≠ 1 ∧ i.2 ≠ 2 := by
  obtain ⟨z, -, -, hp⟩ := mem_standingItems hi
  simp at hp
  omega

theorem arbiterRestart_timing : s.arbiterRestart.timing = s.timing :=
  ((followUps_frame _).timing.trans (evaluateAll_frame _ _).timing).trans
    (endEach_timing s .restart _ fun _ hi => (restartItems_level hi).1)

theorem arbiterRestart_record : s.arbiterRestart.record = s.record :=
  ((followUps_frame _).record.trans (evaluateAll_frame _ _).record).trans
    (endEach_record s .restart _ fun _ hi => (restartItems_level hi).2)

theorem emptyChannels_frame : Frame [.channels, .readers] s ((s.emptyChannel .a).emptyChannel .b) :=
  (emptyChannel_frame s .a).next (emptyChannel_frame _ .b)

theorem restartEnds_frame : Frame endParts (s.mapLink .production LinkState.restart) s.restartEnds :=
  (arbiterRestart_frame _).next (emptyChannels_frame _)

theorem restartProgrammed_frame : Frame [.programs, .exposure] s.restartEnds s.restartProgrammed :=
  Frame.foldl (fun s p => s.restartProgram p) (fun s p => restartProgram_frame s p) [0, 1, 2, 3] _

theorem clearStrip_replayKept : ReplayKept s s.clearStrip := .of_same rfl rfl

theorem emptyChannel_entriesCut (ch : Channel) : EntriesCut s (s.emptyChannel ch) := cutCues_entriesCut s ch _

theorem clearLink_entriesCut : EntriesCut s (s.mapLink .production LinkState.restart) := .of_same rfl rfl

theorem restartEnds_entriesCut : EntriesCut s s.restartEnds :=
  (clearLink_entriesCut s).trans ((entriesCut_walk.restart _).trans
    ((emptyChannel_entriesCut _ .a).trans (emptyChannel_entriesCut _ .b)))

theorem restartEnds_idle (ch : Channel) : (s.restartEnds.chan ch).state = .idle ∧ (s.restartEnds.chan ch).cues = [] :=
  emptyChannels_chan _ ch

theorem restart_timing : s.restart.timing = s.timing ∧ s.restart.record = s.record := by
  rw [restart_eq]
  have h1 := arbiterRestart_timing (s.mapLink .production LinkState.restart)
  have h2 := arbiterRestart_record (s.mapLink .production LinkState.restart)
  have h3 := emptyChannels_frame (s.mapLink .production LinkState.restart).arbiterRestart
  have h4 := restartProgrammed_frame s
  obtain ⟨h5, h6⟩ := emptyFeatures_timing s.restartProgrammed
  exact ⟨(clearStrip_frame _).timing.trans (h5.trans (h4.timing.trans (h3.timing.trans h1))),
    (clearStrip_frame _).record.trans (h6.trans (h4.record.trans (h3.record.trans h2)))⟩

/-- Channels and readers from the emptied channels on. -/
theorem restart_replayKept : ReplayKept s.restartEnds s.restart := by
  have h4 := restartProgrammed_frame s
  have h : ReplayKept s.restartEnds s.restartProgrammed := by
    obtain ⟨h1, h2, h3⟩ := h4.readers
    obtain ⟨h5, h6⟩ := h4.same .clips (by decide)
    have h7 : s.restartProgrammed.capture.rings = s.restartEnds.capture.rings := h4.same .rings (by decide)
    refine ⟨fun ch => .inl (h4.chan ch), ?_, h5, h6⟩
    cases hs : s.restartEnds.capture
    cases ht : s.restartProgrammed.capture
    simp_all
  rw [restart_eq]
  exact h.trans ((emptyFeatures_replayKept _).trans (clearStrip_replayKept _))

theorem restart_channels (ch : Channel) : (s.restart.chan ch).state = .idle ∧ (s.restart.chan ch).cues = [] ∧
    (s.restart.chan ch).chain = (s.chan ch).chain ∧ (s.restart.chan ch).nextCue = (s.chan ch).nextCue := by
  obtain ⟨hi, hc⟩ := restartEnds_idle s ch
  have hk : s.restart.chan ch = s.restartEnds.chan ch := (restart_replayKept s).idle hi
  rw [hk]
  exact ⟨hi, hc, (restartEnds_entriesCut s).chans ch⟩

theorem restart_readers : s.restart.capture.readSave = s.capture.readSave ∧ s.restart.capture.readA = none ∧
    s.restart.capture.readB = none := by
  rw [(restart_replayKept s).capture]
  exact ⟨(restartEnds_entriesCut s).save, emptyChannels_readers _⟩

theorem restart_nearOvertake : s.restart.production.entry .nearOvertake = ⟨false, 0, .zero, .zero⟩ ∧
    s.restart.table.entry .nearOvertake = s.table.entry .nearOvertake :=
  ⟨((restart_reports s).entry_same (c := .nearOvertake) (by decide) .production).trans rfl,
    (restart_reports s).entry_same (c := .nearOvertake) (by decide) .table⟩

theorem masksKept_specs {s t : State} (h : MasksKept s t) : t.canvas.zones.map (·.spec) = s.canvas.zones.map (·.spec) := by
  have h1 := congrArg (List.map Prod.fst) h
  simpa only [List.map_map, Function.comp_def] using h1

theorem clearLink_masks : MasksKept s (s.mapLink .production LinkState.restart) := rfl

theorem restartEnds_masks : MasksKept s s.restartEnds :=
  (masksKept_walk .restart).trans (clearLink_masks s) ((masksKept_walk .restart).trans
    ((masksKept_walk .restart).restart _) (.of_frame (emptyChannels_frame _)))

theorem restartProgrammed_masks : MasksKept s.restartEnds s.restartProgrammed := .of_frame (restartProgrammed_frame s)

theorem emptyFeatures_masks : MasksKept s s.emptyFeatures := by
  have h : MasksKept s (s.mapRotation fun r => { r with features := [], breakRecorded := none }) :=
    .of_frame (mapFeatures_frame s _ fun _ => ⟨rfl, rfl, rfl⟩)
  rw [emptyFeatures_eq]
  exact (masksKept_walk .released).trans h ((masksKept_walk .released).endAll _ s.featureItems)

theorem restart_masks : MasksKept s s.restart := by
  have w := masksKept_walk .released
  rw [restart_eq]
  exact w.trans (restartEnds_masks s) (w.trans (restartProgrammed_masks s)
    (w.trans (emptyFeatures_masks _) (.of_frame (clearStrip_frame _))))

theorem clearLink_sameRotation : SameRotation s (s.mapLink .production LinkState.restart) := ⟨rfl, rfl, rfl, rfl, rfl, rfl⟩

/-- What the programs' restarts read stands as before the RESTART. -/
theorem SameRotation.of_ends {s t : State} (h : Frame endParts s t) (hm : MasksKept s t) : SameRotation s t where
  specs := masksKept_specs hm
  config := h.same .crawlConfig (by decide)
  assets := (h.same .assets (by decide)).1
  size := (h.same .canvas (by decide)).1
  programs := h.same .programs (by decide)
  exposure := h.exposure

theorem restartEnds_sameRotation : SameRotation s s.restartEnds :=
  (clearLink_sameRotation s).trans (.of_ends (restartEnds_frame s) (restartEnds_masks s))

theorem Frame.programs {P : List Part} {s t : State} (h : Frame P s t) (hP : P.contains .programs = false := by decide) :
    t.rotation.programs = s.rotation.programs := h.same .programs (by simpa using hP)

theorem Frame.nextFeature {P : List Part} {s t : State} (h : Frame P s t) (hP : P.contains .features = false := by decide) :
    t.rotation.nextFeature = s.rotation.nextFeature := (h.same .features (by simpa using hP)).2.2.1

theorem restartProgrammed_eq :
    s.restartProgrammed = [0, 1, 2, 3].foldl (fun s p => s.restartProgram p) s.restartEnds := rfl

theorem restart_programs :
    s.restart.rotation.programs = ([0, 1, 2, 3].foldl (fun u p => u.restartProgram p) s).rotation.programs ∧
      s.restart.exposure = ([0, 1, 2, 3].foldl (fun u p => u.restartProgram p) s).exposure := by
  have h := (restartEnds_sameRotation s).restartPrograms [0, 1, 2, 3]
  rw [← restartProgrammed_eq] at h
  have hf := emptyFeatures_frame s.restartProgrammed
  have hc := clearStrip_frame s.restartProgrammed.emptyFeatures
  rw [restart_eq, hc.programs, hf.programs, hc.exposure, hf.exposure]
  exact ⟨h.programs, h.exposure⟩

theorem emptyFeatures_features : s.emptyFeatures.rotation.features = [] ∧ s.emptyFeatures.rotation.breakRecorded = none ∧
    s.emptyFeatures.rotation.nextFeature = s.rotation.nextFeature := by
  rw [emptyFeatures_rotation]
  exact ⟨rfl, rfl, rfl⟩

theorem restartEnds_nextFeature : s.restartEnds.rotation.nextFeature = s.rotation.nextFeature := by
  have h : _ = s.rotation.nextFeature := (nextFeature_walk .restart).restart (s.mapLink .production LinkState.restart)
  rw [State.restartEnds, (emptyChannels_frame _).nextFeature, h]

theorem restart_features : s.restart.rotation.features = [] ∧ s.restart.rotation.breakRecorded = none ∧
    s.restart.rotation.nextFeature = s.rotation.nextFeature := by
  have h := emptyFeatures_features s.restartProgrammed
  rw [(restartProgrammed_frame s).nextFeature, restartEnds_nextFeature] at h
  rw [restart_eq, (clearStrip_frame s.restartProgrammed.emptyFeatures).rotation]
  exact h

theorem arbiterRestart_crawl (h : s.crawl.card = none) : s.arbiterRestart.crawl = s.crawl := by
  have h1 := endEach_crawl_of_none h .restart (s.standingItems fun _ l => l == 0 || 3 ≤ l)
  exact (follow_crawl_of_none (by rw [h1]; exact h) _).trans h1

theorem restart_strip : s.restart.crawl.strip = [] := rfl

theorem restart_order (h : s.crawl.card = none) : s.restart.crawl.order = s.crawl.strip.map (·.id) ++ s.crawl.order := by
  have h1 : (s.mapLink .production LinkState.restart).arbiterRestart.crawl = s.crawl :=
    arbiterRestart_crawl (s.mapLink .production LinkState.restart) h
  have h2 : s.restartEnds.crawl = s.crawl := (emptyChannels_frame _).crawlSame.trans h1
  have h3 : s.restartProgrammed.crawl = s.crawl := (restartProgrammed_frame s).crawlSame.trans h2
  have h4 : s.restartProgrammed.emptyFeatures.crawl = s.crawl :=
    (emptyFeatures_crawl s.restartProgrammed (by rw [h3]; exact h)).trans h3
  rw [restart_eq]
  show s.restartProgrammed.emptyFeatures.crawl.strip.map (·.id) ++ s.restartProgrammed.emptyFeatures.crawl.order = _
  rw [h4]

end

end Sys2Proof.Machine
end

section
namespace Sys2Proof.Machine

set_option Elab.async false

section
variable (s : State)

/-! ## The arrival numbers through a RESTART -/

/-- Every zone's next arrival number stands. -/
def ArrivalsKept (s t : State) : Prop := t.canvas.zones.map (·.arb.nextArrival) = s.canvas.zones.map (·.arb.nextArrival)

theorem ArrivalsKept.of_frame {P : List Part} {s t : State} (h : Frame P s t) (hP : P.contains .zones = false := by decide) :
    ArrivalsKept s t := by
  unfold ArrivalsKept
  rw [h.zones hP]

theorem ArrivalsKept.trans {s t u : State} (h : ArrivalsKept s t) (k : ArrivalsKept t u) : ArrivalsKept s u :=
  Eq.trans k h

theorem mapArb_arrivals (zone : Nat) (f : ZoneArb → ZoneArb) (hf : ∀ a, (f a).nextArrival = a.nextArrival) :
    ArrivalsKept s (s.mapArb zone f) := zones_mapArb _ s zone f fun z => hf z.arb

theorem evaluate_arrivals (zone : Nat) : ArrivalsKept s (s.evaluate zone) := by
  unfold State.evaluate
  split
  · exact (mapArb_arrivals s zone (ZoneArb.grant _ _) fun _ => rfl).trans (.of_frame (noteGrant_frame _ _ _))
  · rfl

theorem evaluateAll_arrivals (zones : List Nat) : ArrivalsKept s (s.evaluateAll zones) := by
  induction zones generalizing s with
  | nil => rfl
  | cons z zones ih => exact (evaluate_arrivals s z).trans (ih _)

theorem endOne_arrivals (o : Outcome) (zone level : Nat) : ArrivalsKept s (s.endOne o zone level) := by
  have tell (u : State) : ArrivalsKept u (u.tellOwner zone level o) := by
    unfold State.tellOwner
    split
    · rfl
    · rfl
    · exact .of_frame (channelEnded_frame u _ _ _)
    · exact .of_frame (channelEnded_frame u _ _ _)
    · rfl
    · rfl
    · rfl
  unfold State.endOne
  split
  · exact ((mapArb_arrivals s zone (ZoneArb.remove level) fun _ => rfl).trans (.of_frame (raise_frame _ _ _))).trans (tell _)
  · rfl

theorem endEach_arrivals (o : Outcome) (items : List (Nat × Nat)) : ArrivalsKept s (s.endEach o items) := by
  induction items generalizing s with
  | nil => rfl
  | cons i items ih => exact (endOne_arrivals s o i.1 i.2).trans (ih _)

/-- Where no feature stands and no card, an event's ends are followed by no request. -/
theorem endsFollowed_arrivals {s : State} (hf : s.rotation.features = []) (hc : s.crawl.card = none) (o : Outcome)
    (items : List (Nat × Nat)) (zones : List Nat) :
    ((s.endEach o items).evaluateAll zones).followUps = (s.endEach o items).evaluateAll zones ∧
      ArrivalsKept s ((s.endEach o items).evaluateAll zones) := by
  have hr := (evaluateAll_frame (s.endEach o items) zones).rotation
  have hk := (evaluateAll_frame (s.endEach o items) zones).crawlSame
  rw [endEach_rotation_of_nil hf] at hr
  rw [endEach_crawl_of_none hc] at hk
  exact ⟨followUps_of_none (by rw [hr, hf]) (by rw [hk, hc]), (endEach_arrivals s o items).trans (evaluateAll_arrivals _ _)⟩

theorem arbiterRestart_arrivals {s : State} (hf : s.rotation.features = []) (hc : s.crawl.card = none) :
    ArrivalsKept s s.arbiterRestart := by
  obtain ⟨h1, h2⟩ := endsFollowed_arrivals hf hc .restart (s.standingItems fun _ l => l == 0 || 3 ≤ l) s.zoneIds
  unfold State.arbiterRestart
  rw [h1]
  exact h2

theorem emptyFeatures_arrivals {s : State} (hc : s.crawl.card = none) : ArrivalsKept s s.emptyFeatures := by
  have h0 : ArrivalsKept s (s.mapRotation fun r => { r with features := [], breakRecorded := none }) := rfl
  obtain ⟨h1, h2⟩ := endsFollowed_arrivals (s := s.mapRotation fun r => { r with features := [], breakRecorded := none })
    rfl hc .released s.featureItems (s.featureItems.map (·.1))
  rw [emptyFeatures_eq, State.endAll, h1]
  exact h0.trans h2

theorem restartProgrammed_crawl (hc : s.crawl.card = none) : s.restartProgrammed.crawl = s.crawl := by
  rw [(restartProgrammed_frame s).crawlSame, State.restartEnds, (emptyChannels_frame _).crawlSame]
  exact arbiterRestart_crawl (s.mapLink .production LinkState.restart) hc

theorem clearLink_arrivals : ArrivalsKept s (s.mapLink .production LinkState.restart) := rfl

theorem restart_arrivals {s : State} (hf : s.rotation.features = []) (hc : s.crawl.card = none) : ArrivalsKept s s.restart := by
  have h1 : ArrivalsKept s (s.mapLink .production LinkState.restart).arbiterRestart :=
    (clearLink_arrivals s).trans (arbiterRestart_arrivals (s := s.mapLink .production LinkState.restart) hf hc)
  have h2 : ArrivalsKept s s.restartEnds := h1.trans (.of_frame (emptyChannels_frame _))
  have h3 : ArrivalsKept s s.restartProgrammed := h2.trans (.of_frame (restartProgrammed_frame s))
  rw [restart_eq]
  exact (h3.trans (emptyFeatures_arrivals (by rw [restartProgrammed_crawl s hc, hc]))).trans (.of_frame (clearStrip_frame _))

/-! ## The levels that a RESTART ends -/

theorem Frame.featuresCover {P : List Part} {s t : State} (h : Frame P s t) (hs : FeaturesCover s)
    (hP : (P.contains .zones || P.contains .features) = false := by decide) : FeaturesCover t := by
  simp only [Bool.or_eq_false_iff] at hP
  intro zone hz
  rw [(h.same .features (by simpa using hP.2)).1]
  refine hs zone ?_
  rw [← hz]
  unfold State.standsAt
  rw [zone_of_canvas (h.zones hP.1)]

/-- The level ended by a RESTART's arbiter stands nowhere before owners request again. -/
theorem restartEvaluated_free {level : Nat} (hl : level ∈ [0, 3, 4, 5, 7]) (zone : Nat) :
    ((s.endEach .restart (s.standingItems fun _ l => l == 0 || 3 ≤ l)).evaluateAll s.zoneIds).standsAt zone level = none := by
  have hp : (level == 0 || decide (3 ≤ level)) = true ∧ level < 8 := by
    simp only [List.mem_cons, List.not_mem_nil, or_false] at hl
    rcases hl with rfl | rfl | rfl | rfl | rfl <;> decide
  exact (evaluateAll_zoneWise (staysFree_rule level) _ _).standsAt
    (endEach_standingItems s .restart (fun l => l == 0 || decide (3 ≤ l)) hp.1 hp.2)

theorem arbiterRestart_cover : FeaturesCover s.arbiterRestart :=
  followUps_cover _ fun zone => restartEvaluated_free s (by decide) zone

theorem arbiterRestart_free {level : Nat} (hl : level ∈ [0, 3, 4, 7]) (zone : Nat) :
    s.arbiterRestart.standsAt zone level = none := by
  simp only [List.mem_cons, List.not_mem_nil, or_false] at hl
  exact (followUps_zoneWise (staysFree_rule level) (fun f a r hr => staysFree_record f a r (by omega)) _).standsAt
    (restartEvaluated_free s (by simp; omega) zone)

theorem restartProgrammed_ends : Frame [.channels, .readers, .programs, .exposure]
    (s.mapLink .production LinkState.restart).arbiterRestart s.restartProgrammed := by
  have h : Frame [.channels, .readers, .programs, .exposure] (s.mapLink .production LinkState.restart).arbiterRestart
      s.restartEnds := .mono (emptyChannels_frame _)
  exact h.next (restartProgrammed_frame s)

theorem restart_free {level : Nat} (hl : level ∈ [0, 3, 4, 5, 7]) (zone : Nat) : s.restart.standsAt zone level = none := by
  have hk := restartProgrammed_ends s
  rw [restart_eq, (clearStrip_frame _).standsAt]
  by_cases h5 : level = 5
  · subst h5
    exact emptyFeatures_levelFive (hk.featuresCover (arbiterRestart_cover _)) zone
  · have hm : level ∈ [0, 3, 4, 7] := by
      simp only [List.mem_cons, List.not_mem_nil, or_false] at hl ⊢
      omega
    refine (emptyFeatures_zoneWise (staysFree_rule level) (fun f a => staysFree_remove _ _ f a)
      (fun f a r hr => staysFree_record f a r ?_) _).standsAt ?_
    · simp only [List.mem_cons, List.not_mem_nil, or_false] at hm
      omega
    · rw [hk.standsAt]
      exact arbiterRestart_free _ hm zone

/-! ## The levels that a RESTART leaves -/

theorem clearLink_zoneWise {R : Nat → ZoneArb → ZoneArb → Prop} (hR : ArbRule R) :
    ZoneWise R s (s.mapLink .production LinkState.restart) := ⟨rfl, fun _ => ZoneRel.refl hR _ _⟩

theorem restart_levelKept {level : Nat} (hl : level = 1 ∨ level = 2) : ZoneWise (LevelKept level) s s.restart := by
  have hR := levelKept_rule level
  have hreq : ∀ f a (r : Request), r.level = 5 ∨ r.level = 6 → LevelKept level f a (a.record r) :=
    fun f a r hr => levelKept_record (by omega) f a
  have ends (u : State) : ZoneWise (LevelKept level) u u.arbiterRestart :=
    ((endEach_zoneWise hR u .restart _ fun i hi f a => levelKept_remove (by
      have := restartItems_level hi
      omega) f a).trans hR (evaluateAll_zoneWise hR _ _)).trans hR (followUps_zoneWise hR hreq _)
  have h1 := (clearLink_zoneWise s hR).trans hR (ends _)
  have h2 := h1.frame_next hR (restartProgrammed_ends s)
  rw [restart_eq]
  exact (h2.trans hR (emptyFeatures_zoneWise hR (fun f a => levelKept_remove (by omega) f a) hreq _)).frame_next hR
    (clearStrip_frame _)

theorem zone_of_zonesWf {s : State} (hs : s.zonesWf) {z : Zone} (hz : z ∈ s.canvas.zones) : s.zone? z.spec.id = some z := by
  have h := hs.ids
  unfold State.zone?
  generalize s.canvas.zones = zs at h hz
  induction zs with
  | nil => cases hz
  | cons y zs ih =>
    rw [List.map_cons, List.pairwise_cons] at h
    rcases List.mem_cons.mp hz with rfl | hm
    · exact List.find?_cons_of_pos (by simp)
    · have := h.1 _ (List.mem_map_of_mem hm)
      rw [List.find?_cons_of_neg (by simp; omega)]
      exact ih h.2 hm

theorem mem_pending_of_pendingAt {a : ZoneArb} {l : Nat} {r : PendingReq} (h : a.pendingAt l = some r) :
    r ∈ a.pending ∧ r.level = l :=
  ⟨List.mem_of_find?_eq_some h, by simpa using List.find?_some h⟩

theorem mem_service_of_serviceAt {a : ZoneArb} {l : Nat} {k : InService} (h : a.serviceAt l = some k) :
    k ∈ a.service ∧ k.level = l :=
  ⟨List.mem_of_find?_eq_some h, by simpa using List.find?_some h⟩

/-- A pending level of a well-formed zone is neither in service nor yielded (R90). -/
theorem ZoneArb.wf.of_pending {a : ZoneArb} (h : a.wf) {l : Nat} {r : PendingReq} (hr : a.pendingAt l = some r) :
    a.serviceAt l = none ∧ l ∉ a.yielded := by
  have hn : a.serviceAt l = none := by
    cases hs : a.serviceAt l with
    | none => rfl
    | some k =>
      obtain ⟨hk, hkl⟩ := mem_service_of_serviceAt hs
      obtain ⟨hm, hrl⟩ := mem_pending_of_pendingAt hr
      exact absurd (hrl.trans hkl.symm) (h.apart r hm k hk)
  refine ⟨hn, fun hy => ?_⟩
  have := h.yielded.2 l hy
  rw [hn] at this
  cases this

/-- What a level that an event does not end shows of its zone (R113). -/
theorem LevelKept.values {l f : Nat} {a b : ZoneArb} (h : LevelKept l f a b) (ha : a.wf) :
    (l ∈ b.yielded ↔ l ∈ a.yielded) ∧ (∀ k ∈ a.serviceAt l, b.serviceAt l = some k) ∧
      (∀ r ∈ a.pendingAt l, b.pendingAt l = some r ∨ b.serviceAt l = some ⟨l, r.content, r.frames, f, 0, r.credit, 0⟩) ∧
      (a.standing l = none → b.standing l = none) := by
  rcases h with h | ⟨r, hr, h⟩
  · have hst := standing_of_level h
    simp only [ZoneArb.level, Prod.mk.injEq] at h
    obtain ⟨hp, hs, hy⟩ := h
    rw [hp, hs]
    refine ⟨?_, fun k hk => hk, fun r hr => .inl hr, hst⟩
    rw [← List.contains_iff_mem, ← List.contains_iff_mem, hy]
  · obtain ⟨hn, hy⟩ := ha.of_pending hr
    simp only [ZoneArb.level, Prod.mk.injEq] at h
    obtain ⟨-, hs, hb⟩ := h
    obtain ⟨-, hrl⟩ := mem_pending_of_pendingAt hr
    rw [hn, hr]
    refine ⟨?_, nofun, fun q hq => ?_, fun hst => ?_⟩
    · exact iff_of_false (by simpa using hb) hy
    · cases hq
      exact .inr (hrl ▸ hs)
    · rw [standing_eq_none, hr] at hst
      cases hst.1

theorem ZoneWise.zone {R : Nat → ZoneArb → ZoneArb → Prop} {s t : State} (h : ZoneWise R s t) {k : Nat} {z : Zone}
    (hz : s.zone? k = some z) : ∃ y, t.zone? k = some y ∧ R (s.canvas.frame + 1) z.arb y.arb := by
  have hk := h.zones k
  rw [hz] at hk
  cases ht : t.zone? k with
  | none => rw [ht] at hk; exact hk.elim
  | some y => rw [ht] at hk; exact ⟨y, rfl, hk.2⟩

theorem restart_levels {s : State} (hs : s.zonesWf) {z : Zone} (hz : z ∈ s.canvas.zones) :
    ∃ y, s.restart.zone? z.spec.id = some y ∧ ∀ level ∈ [1, 2],
      (level ∈ y.arb.yielded ↔ level ∈ z.arb.yielded) ∧ (∀ k ∈ z.arb.serviceAt level, y.arb.serviceAt level = some k) ∧
      (∀ r ∈ z.arb.pendingAt level, y.arb.pendingAt level = some r ∨
        y.arb.serviceAt level = some ⟨level, r.content, r.frames, s.canvas.frame + 1, 0, r.credit, 0⟩) ∧
      (z.arb.standing level = none → y.arb.standing level = none) := by
  have hz' := zone_of_zonesWf hs hz
  obtain ⟨y, hy, h1⟩ := (restart_levelKept s (level := 1) (.inl rfl)).zone hz'
  obtain ⟨x, hx, h2⟩ := (restart_levelKept s (level := 2) (.inr rfl)).zone hz'
  obtain rfl := Option.some.inj (hx.symm.trans hy)
  refine ⟨x, hx, fun level hl => ?_⟩
  rcases show level = 1 ∨ level = 2 by simpa using hl with rfl | rfl
  · exact h1.values (hs.arb z hz)
  · exact h2.values (hs.arb z hz)

end

end Sys2Proof.Machine
end

section
namespace Sys2Proof

set_option Elab.async false

open Machine

/-- Settles O11, block by block along `State.restart`. -/
theorem restartReachesEveryBlock : Obligations.RestartReachesEveryBlock := by
  intro h s ha
  have he : exec (.restart h) s = .next (s.take h 0x06 true restartOwner) := rfl
  rw [he, take_admitted ha _ (restartOwner_replies s h.link)]
  obtain ⟨hprog, hexp⟩ := restart_programs s
  obtain ⟨hsave, hreadA, hreadB⟩ := restart_readers s
  obtain ⟨hnearP, hnearT⟩ := restart_nearOvertake s
  refine ⟨s.restart, rfl, restart_frame s, restart_timing s, restart_channels s, ⟨hsave, hreadA, hreadB, hnearP, hnearT⟩,
    ⟨hprog, hexp⟩, fun ht p hp => ?_, restart_features s, ⟨restart_strip s, restart_order s⟩, restart_masks s,
    fun hf hc => restart_arrivals hf hc, fun zone level hl => restart_free s hl zone, fun hz z hm => restart_levels hz hm⟩
  obtain ⟨hmode, hcover, hentries, hidle, hactive⟩ := restartPrograms_values ht.programs hp
  have hp : s.restart.program p = ([0, 1, 2, 3].foldl (fun u p => u.restartProgram p) s).program p := by
    unfold State.program
    rw [hprog]
  dsimp only
  rw [hp]
  refine ⟨hmode, hcover, hentries, hidle, fun hact => ?_⟩
  obtain ⟨hchosen, hslate⟩ := hactive hact
  cases hc : s.choose (s.program p).entries with
  | some e => exact hchosen e hc
  | none => exact hslate hc

end Sys2Proof
end

section
namespace Sys2Proof.Machine

set_option Elab.async false

/-! ## Readers, one by one -/

section
variable (s : State)

theorem reader_setReader (name other : ReaderName) (r : Option Reader) :
    (s.setReader name r).reader other = if other = name then r else s.reader other := by
  cases name <;> cases other <;> rfl

theorem reader_setReader_same (name : ReaderName) (r : Option Reader) : (s.setReader name r).reader name = r := by
  rw [reader_setReader, if_pos rfl]

theorem ring_setReader (name : ReaderName) (r : Option Reader) (n : Nat) : (s.setReader name r).ring n = s.ring n := by
  cases name <;> rfl

theorem Frame.ring {P : List Part} {s t : State} (h : Frame P s t) (n : Nat) (hP : P.contains .rings = false := by decide) :
    t.ring n = s.ring n := by
  have hr : t.capture.rings = s.capture.rings := h.same .rings (by simpa using hP)
  unfold State.ring
  rw [hr]

theorem Frame.reader {P : List Part} {s t : State} (h : Frame P s t) (name : ReaderName)
    (hP : P.contains .readers = false := by decide) : t.reader name = s.reader name := by
  obtain ⟨h1, h2, h3⟩ := h.readers hP
  cases name
  · exact h1
  · exact h2
  · exact h3

/-! ## Margins, tests and warnings look at the rings alone (R135, R136) -/

variable {s} {t : State}

theorem marginOf_congr (h : ∀ n, t.ring n = s.ring n) (w : Reader) : t.marginOf w = s.marginOf w := by
  unfold State.marginOf
  rw [h]

theorem thresholdOf_congr (h : ∀ n, t.ring n = s.ring n) (w : Reader) : t.thresholdOf w = s.thresholdOf w := by
  unfold State.thresholdOf
  rw [h]

theorem readerAfter_congr (h : ∀ n, t.ring n = s.ring n) : t.readerAfter = s.readerAfter := by
  funext old want
  unfold State.readerAfter
  simp only [marginOf_congr h, thresholdOf_congr h]

theorem warningOf_congr (h : ∀ n, t.ring n = s.ring n) : t.warningOf = s.warningOf := by
  funext name old want
  unfold State.warningOf
  simp only [marginOf_congr h, thresholdOf_congr h]

variable (s)

/-- The reading that a test leaves armed or disarmed, by its margin (R136). -/
def State.tested (s : State) (w : Reader) : Reader := { w with armed := decide (s.thresholdOf w ≤ s.marginOf w) }

/-- The warning of a reading whose reader is armed (R136). -/
def State.warns (s : State) (name : ReaderName) (w : Reader) : List (Cond × Detail) :=
  if s.marginOf w < s.thresholdOf w then
    [(.nearOvertake, .nearOvertake w.input name w.clip (s.marginOf w) (s.thresholdOf w).toNat)]
  else []

theorem tested_armed (w : Reader) (b : Bool) : s.tested { w with armed := b } = s.tested w := rfl

theorem warns_armed (name : ReaderName) (w : Reader) (b : Bool) : s.warns name { w with armed := b } = s.warns name w := rfl

theorem testReader_of_some {r : Reader} {name : ReaderName} (hr : s.reader name = some r) :
    (s.testReader name).reader name = some (s.tested r) ∧
      (∀ other, other ≠ name → (s.testReader name).reader other = s.reader other) ∧
      Reports [] s (s.testReader name) (if r.armed = true then s.warns name r else []) := by
  have hm : s.margin r = s.marginOf r := rfl
  have ht : ((thresholdFrames (s.ring r.input).threshold : Nat) : Int) = s.thresholdOf r := rfl
  have hn : thresholdFrames (s.ring r.input).threshold = (s.thresholdOf r).toNat := rfl
  have hset (q : Option Reader) (other : ReaderName) (ho : other ≠ name) : (s.setReader name q).reader other = s.reader other := by
    rw [reader_setReader, if_neg ho]
  unfold State.testReader State.tested State.warns
  rw [hr]
  simp only [hm, ht]
  by_cases ha : r.armed = true
  · rw [if_pos ha, if_pos ha]
    by_cases hw : s.marginOf r < s.thresholdOf r
    · rw [if_pos hw, if_pos hw, hn]
      refine ⟨?_, hset _, (setReader_reports s _ _).next (.raise (by rfl) _ _)⟩
      rw [decide_eq_false (by omega)]
      exact reader_setReader_same s name _
    · rw [if_neg hw, if_neg hw]
      refine ⟨?_, fun _ _ => rfl, .refl _ s⟩
      rw [hr, decide_eq_true (by omega), ← ha]
  · rw [if_neg ha, if_neg ha]
    by_cases hw : s.thresholdOf r ≤ s.marginOf r
    · rw [if_pos hw, decide_eq_true hw]
      exact ⟨reader_setReader_same s name _, hset _, setReader_reports s _ _⟩
    · rw [if_neg hw, decide_eq_false hw]
      refine ⟨?_, fun _ _ => rfl, .refl _ s⟩
      rw [hr, ← Bool.eq_false_iff.mpr ha]

/-- What a reader's synchronisation with a reading does: its own reader follows, the others stand, and its warning is all that
is recorded. -/
structure Synced (name : ReaderName) (want : Option Reader) (s t : State) : Prop where
  own : t.reader name = s.readerAfter (s.reader name) want
  others : ∀ other, other ≠ name → t.reader other = s.reader other
  reports : Reports [] s t (s.warningOf name (s.reader name) want)

/-- Of another input, clip or entry, or none: what a reading attaches to afresh. -/
def freshFor (w : Reader) (old : Option Reader) : Prop := (old.any fun r => sameReader r w) = false

theorem readerAfter_fresh {w : Reader} {old : Option Reader} (h : freshFor w old) :
    s.readerAfter old (some w) = if 0 ≤ s.marginOf w then some (s.tested w) else none := by
  unfold freshFor at h
  simp [State.readerAfter, State.tested, h]

theorem readerAfter_same {w r : Reader} (h : sameReader r w = true) : s.readerAfter (some r) (some w) = some (s.tested w) := by
  simp [State.readerAfter, State.tested, h]

theorem warningOf_fresh {w : Reader} {old : Option Reader} (h : freshFor w old) (name : ReaderName) :
    s.warningOf name old (some w) = if 0 ≤ s.marginOf w then s.warns name w else [] := by
  unfold freshFor at h
  unfold State.warningOf State.warns
  cases old with
  | none => by_cases hm : 0 ≤ s.marginOf w <;> simp [hm]
  | some r =>
    have hr : sameReader r w = false := by simpa using h
    by_cases hm : 0 ≤ s.marginOf w <;> simp [hm, hr]

theorem warningOf_same {w r : Reader} (h : sameReader r w = true) (name : ReaderName) :
    s.warningOf name (some r) (some w) = if r.armed = true then s.warns name w else [] := by
  unfold State.warningOf State.warns
  by_cases ha : r.armed = true <;> simp [h, ha]

/-- Setting a reader and testing it (R136). -/
theorem setTest_values (name : ReaderName) (r : Reader) :
    ((s.setReader name (some r)).testReader name).reader name = some (s.tested r) ∧
      (∀ other, other ≠ name → ((s.setReader name (some r)).testReader name).reader other = s.reader other) ∧
      Reports [] s ((s.setReader name (some r)).testReader name) (if r.armed = true then s.warns name r else []) := by
  obtain ⟨h1, h2, h3⟩ := testReader_of_some (s.setReader name (some r)) (reader_setReader_same s name (some r))
  have hring := ring_setReader s name (some r)
  have ht : (s.setReader name (some r)).tested r = s.tested r := by
    unfold State.tested
    rw [marginOf_congr hring, thresholdOf_congr hring]
  have hw : (s.setReader name (some r)).warns name r = s.warns name r := by
    unfold State.warns
    rw [marginOf_congr hring, thresholdOf_congr hring]
  refine ⟨h1.trans (congrArg some ht), fun other hne => ?_, ?_⟩
  · rw [h2 other hne, reader_setReader, if_neg hne]
  · rw [← hw]
    exact (setReader_reports s name (some r)).next h3

theorem attachReader_synced {name : ReaderName} {w : Reader} (hf : freshFor w (s.reader name)) (hn : 0 ≤ s.marginOf w ∨ s.reader name = none)
    (hw : w.armed = true) : Synced name (some w) s (s.attachReader name w) := by
  unfold State.attachReader
  have hm : ((s.ring w.input).oldest : Int) ≤ w.seq ↔ 0 ≤ s.marginOf w := by
    unfold State.marginOf
    omega
  by_cases h : 0 ≤ s.marginOf w
  · rw [if_pos (hm.mpr h)]
    obtain ⟨h1, h2, h3⟩ := setTest_values s name w
    rw [if_pos hw] at h3
    refine ⟨?_, h2, ?_⟩
    · rw [h1, readerAfter_fresh s hf, if_pos h]
    · rw [warningOf_fresh s hf, if_pos h]
      exact h3
  · rw [if_neg (mt hm.mp h)]
    refine ⟨?_, fun _ _ => rfl, ?_⟩
    · rw [readerAfter_fresh s hf, if_neg h]
      exact hn.resolve_left h
    · rw [warningOf_fresh s hf, if_neg h]
      exact .refl _ s

/-- A reader of another reading detaches first. -/
theorem reattach_synced {name : ReaderName} {w : Reader} (hf : freshFor w (s.reader name)) (hw : w.armed = true) :
    Synced name (some w) s ((s.setReader name none).attachReader name w) := by
  have hring := ring_setReader s name none
  have hnone : (s.setReader name none).reader name = none := reader_setReader_same s name none
  have hf' : freshFor w ((s.setReader name none).reader name) := by rw [hnone]; rfl
  have k := attachReader_synced (s.setReader name none) hf' (.inr hnone) hw
  refine ⟨k.own.trans ?_, fun other hne => ?_, ?_⟩
  · rw [readerAfter_congr hring, readerAfter_fresh s hf', readerAfter_fresh s hf]
  · rw [k.others other hne, reader_setReader, if_neg hne]
  · have h := (setReader_reports s name none).next k.reports
    rw [warningOf_congr hring, warningOf_fresh s hf'] at h
    rw [warningOf_fresh s hf]
    exact h

/-- What `syncReader` does with a reading, which is handed over as armed (R135, R136). -/
theorem syncReader_synced (name : ReaderName) {want : Option Reader} (hw : ∀ w ∈ want, w.armed = true) :
    Synced name want s (s.syncReader name want) := by
  unfold State.syncReader
  cases hr : s.reader name with
  | none =>
    cases want with
    | none => exact ⟨by rw [hr]; rfl, fun _ _ => rfl, .refl _ s⟩
    | some w => exact attachReader_synced s (by rw [hr]; rfl) (.inr hr) (hw w rfl)
  | some r =>
    cases want with
    | none =>
      exact ⟨reader_setReader_same s name none, fun other hne => by rw [reader_setReader, if_neg hne],
        setReader_reports s name none⟩
    | some w =>
      dsimp only
      by_cases hsame : r.input = w.input ∧ r.clip = w.clip ∧ r.cue = w.cue
      · rw [if_pos hsame]
        obtain ⟨hi, hc, hq⟩ := hsame
        have hs : sameReader r w = true := by simp [sameReader, hi, hc, hq]
        have he : { r with seq := w.seq } = { w with armed := r.armed } := by rw [hi, hc, hq]
        obtain ⟨h1, h2, h3⟩ := setTest_values s name { w with armed := r.armed }
        rw [he]
        refine ⟨?_, h2, ?_⟩
        · rw [h1, hr, readerAfter_same s hs, tested_armed]
        · rw [hr, warningOf_same s hs, ← warns_armed s name w r.armed]
          exact h3
      · rw [if_neg hsame]
        refine reattach_synced s ?_ (hw w rfl)
        rw [hr]
        simpa [freshFor, sameReader, and_assoc] using hsame

/-! ## Every reader follows -/

/-- What the readings look at: the clips, the save queue, and each channel's list and position. -/
structure SameReads (s t : State) : Prop where
  clips : t.replay.clips = s.replay.clips
  queue : t.replay.saveQueue = s.replay.saveQueue
  chans : ∀ ch, (t.chan ch).cues = (s.chan ch).cues ∧ (t.chan ch).pos = (s.chan ch).pos

theorem SameReads.clip {s t : State} (h : SameReads s t) (id : Nat) : t.clip? id = s.clip? id := by
  unfold State.clip?
  rw [h.clips]

theorem SameReads.trans {s t u : State} (h : SameReads s t) (k : SameReads t u) : SameReads s u :=
  ⟨k.clips.trans h.clips, k.queue.trans h.queue,
    fun ch => ⟨(k.chans ch).1.trans (h.chans ch).1, (k.chans ch).2.trans (h.chans ch).2⟩⟩

theorem SameReads.symm {s t : State} (h : SameReads s t) : SameReads t s :=
  ⟨h.clips.symm, h.queue.symm, fun ch => ⟨(h.chans ch).1.symm, (h.chans ch).2.symm⟩⟩

theorem SameReads.of_frame {P : List Part} {s t : State} (h : Frame P s t)
    (hP : (P.contains .clips || P.contains .channels) = false := by decide) : SameReads s t := by
  simp only [Bool.or_eq_false_iff] at hP
  obtain ⟨h1, h2⟩ := h.same .clips (by simpa using hP.1)
  exact ⟨h1, h2, fun ch => by rw [h.chan ch hP.2]; exact ⟨rfl, rfl⟩⟩

theorem wantChannel_congr {s t : State} (h : SameReads s t) (ch : Channel) : t.wantChannel ch = s.wantChannel ch := by
  unfold State.wantChannel
  simp only [h.clip, h.chans]

theorem wantSave_congr {s t : State} (h : SameReads s t) : t.wantSave = s.wantSave := by
  have hc : t.clip? = s.clip? := funext h.clip
  unfold State.wantSave
  rw [h.queue, hc]

theorem reads_save : s.reads .save = s.wantSave := rfl

theorem channelReads_eq (ch : Channel) : State.reads.channelReads s (s.chan ch) = s.wantChannel ch := by
  unfold State.reads.channelReads State.wantChannel
  cases (s.chan ch).cues with
  | nil => rfl
  | cons e rest =>
    dsimp only
    cases s.clip? e.fields.clip with
    | none => rfl
    | some c =>
      dsimp only
      cases hc : c.state with
      | saving start copied => simp [Clip.inStore, hc]
      | _ => simp [Clip.inStore, hc]

theorem reads_channel (ch : Channel) : s.reads (channelReader ch) = s.wantChannel ch := by
  cases ch
  · exact channelReads_eq s .a
  · exact channelReads_eq s .b

theorem reads_congr {s t : State} (h : SameReads s t) : t.reads = s.reads := by
  funext name
  cases name
  · rw [reads_save, reads_save, wantSave_congr h]
  · exact (reads_channel t .a).trans ((wantChannel_congr h .a).trans (reads_channel s .a).symm)
  · exact (reads_channel t .b).trans ((wantChannel_congr h .b).trans (reads_channel s .b).symm)

theorem wantSave_armed {w : Reader} (h : w ∈ s.wantSave) : w.armed = true := by
  unfold State.wantSave at h
  split at h
  · split at h
    · cases h
      rfl
    · cases h
  · cases h

theorem wantChannel_armed {ch : Channel} {w : Reader} (h : w ∈ s.wantChannel ch) : w.armed = true := by
  unfold State.wantChannel at h
  split at h
  · cases h
  · split at h
    · split at h
      · cases h
      · cases h
        rfl
    · cases h

/-- All readers follow what a state gives them to read, each with its warning, and nothing else changes (R135, R136). -/
structure AllSynced (s t : State) : Prop where
  follow : ∀ name, t.reader name = s.readerAfter (s.reader name) (s.reads name)
  reports : Reports [] s t (warnings s s)

theorem syncReaders_synced : AllSynced s s.syncReaders := by
  have k1 := syncReader_synced s .save fun w => wantSave_armed s (w := w)
  have f1 := syncReader_frame s .save s.wantSave
  unfold State.syncReaders
  dsimp only
  generalize s.syncReader .save s.wantSave = s1 at k1 f1 ⊢
  have k2 := syncReader_synced s1 .channelA fun w => wantChannel_armed s1 (ch := .a) (w := w)
  have f2 := f1.next (syncReader_frame s1 .channelA (s1.wantChannel .a))
  generalize s1.syncReader .channelA (s1.wantChannel .a) = s2 at k2 f2 ⊢
  have k3 := syncReader_synced s2 .channelB fun w => wantChannel_armed s2 (ch := .b) (w := w)
  generalize s2.syncReader .channelB (s2.wantChannel .b) = t at k3 ⊢
  have hA : s1.wantChannel .a = s.reads .channelA := (wantChannel_congr (.of_frame f1) .a).trans (reads_channel s .a).symm
  have hB : s2.wantChannel .b = s.reads .channelB := (wantChannel_congr (.of_frame f2) .b).trans (reads_channel s .b).symm
  have rA : s1.reader .channelA = s.reader .channelA := k1.others _ (by decide)
  have rB : s2.reader .channelB = s.reader .channelB := (k2.others _ (by decide)).trans (k1.others _ (by decide))
  have g1 := f1.ring
  have g2 := f2.ring
  constructor
  · intro name
    cases name
    · exact (k3.others _ (by decide)).trans ((k2.others _ (by decide)).trans k1.own)
    · rw [k3.others _ (by decide), k2.own, readerAfter_congr g1, rA, hA]
    · rw [k3.own, readerAfter_congr g2, rB, hB]
  · have h := (k1.reports.next k2.reports).next k3.reports
    rw [warningOf_congr g1, warningOf_congr g2, rA, rB, hA, hB] at h
    simpa [warnings, reads_save] using h

end

end Sys2Proof.Machine
end

section
namespace Sys2Proof.Machine

set_option Elab.async false

/-! ## A head entry leaves, and the next is loaded -/

section
variable (s : State)

theorem chan_mapChan_same (ch : Channel) (f : Chan → Chan) : (s.mapChan ch f).chan ch = f (s.chan ch) := by cases ch <;> rfl

theorem chan_mapChan_other {ch other : Channel} (h : other ≠ ch) (f : Chan → Chan) :
    (s.mapChan ch f).chan other = s.chan other := by
  cases ch <;> cases other
  · exact absurd rfl h
  · rfl
  · rfl
  · exact absurd rfl h

/-- Where an entry starts, 0 for one whose clip is not in the table (R149). -/
def State.startOf (s : State) (e : Cue) : Int :=
  match s.clip? e.fields.clip with
  | some clip => startPosition clip e.fields
  | none => 0

/-- The position and state of a channel whose list is `left` when its head is placed (R149). -/
def State.placed (s : State) (left : List Cue) : Int := (left.head?.map s.startOf).getD 0
def placedState (left : List Cue) : ChanState := if left = [] then .idle else .cued

theorem placeHead_chan (ch : Channel) : (s.placeHead ch).chan ch =
    { s.chan ch with
      state := placedState (s.chan ch).cues, pos := s.placed (s.chan ch).cues, acc := 0, passes := 0, shown := 0 } := by
  unfold State.placeHead
  rw [chan_mapChan_same]
  obtain ⟨state, cues, chain, next, pos, acc, passes, shown⟩ := s.chan ch
  cases cues with
  | nil => rfl
  | cons e rest => rfl

theorem placeHead_other {ch other : Channel} (h : other ≠ ch) : (s.placeHead ch).chan other = s.chan other :=
  chan_mapChan_other s h _

theorem detached_eq (ch : Channel) : s.detached ch = s.setReader (channelReader ch) none := by cases ch <;> rfl

theorem chan_setReader (name : ReaderName) (r : Option Reader) (ch : Channel) : (s.setReader name r).chan ch = s.chan ch :=
  (setReader_frame s name r).chan ch

/-- What a head entry's leaving makes of its channel (R150, R151, R158). -/
theorem leaveHead_chan (ch : Channel) : (s.leaveHead ch).chan ch =
    { s.chan ch with
      cues := (s.chan ch).cues.tail, state := if (s.chan ch).cues.tail = [] then .idle else (s.chan ch).state } := by
  unfold State.leaveHead
  rw [chan_setReader, chan_mapChan_same]

theorem leaveHead_other {ch other : Channel} (h : other ≠ ch) : (s.leaveHead ch).chan other = s.chan other := by
  unfold State.leaveHead
  rw [chan_setReader, chan_mapChan_other s h]

theorem leaveHead_reader (ch : Channel) : (s.leaveHead ch).reader = (s.detached ch).reader := by
  funext name
  unfold State.leaveHead
  rw [detached_eq, reader_setReader, reader_setReader]
  split
  · rfl
  · exact (mapChan_frame s ch _).reader name

end

section
variable {s t u : State}

theorem warnings_congr {s' t' : State} (hr : s'.reader = s.reader) (hd : t'.reads = t.reads) (hg : ∀ n, t'.ring n = t.ring n) :
    warnings s' t' = warnings s t := by
  unfold warnings
  rw [hr, hd, warningOf_congr hg]

theorem ReadersFollow.congr {s' t' : State} (h : ReadersFollow s t) (hs : s'.reader = s.reader) (ht : t'.reader = t.reader)
    (hd : t'.reads = t.reads) (hg : ∀ n, t'.ring n = t.ring n) : ReadersFollow s' t' := by
  intro name
  rw [ht, hs, hd, readerAfter_congr hg]
  exact h name

/-- A head that has left its list and the next entry loaded: what `t` is, seen from the state `s` before, where `told` is what
is raised between the two (R149, R150, R151, R158). -/
structure Popped (ch : Channel) (s : State) (told : List (Cond × Detail)) (t : State) : Prop where
  frame : Frame [.channels, .readers] s t
  own : t.chan ch =
    { s.chan ch with
      cues := (s.chan ch).cues.tail, state := placedState (s.chan ch).cues.tail, pos := s.placed (s.chan ch).cues.tail
      acc := 0, passes := 0, shown := 0 }
  others : ∀ other, other ≠ ch → t.chan other = s.chan other
  follow : ReadersFollow (s.detached ch) t
  reports : Reports [] s t (told ++ warnings (s.detached ch) t)

/-- The next head is loaded after the head has left and something was told. -/
theorem loadHead_popped {ch : Channel} {told : List (Cond × Detail)} (hf : Frame [] (s.leaveHead ch) u)
    (hr : Reports [] (s.leaveHead ch) u told) : Popped ch s told (u.loadHead ch) := by
  have hl := leaveHead_frame s ch
  have k := syncReaders_synced (u.placeHead ch)
  have fp := placeHead_frame u ch
  have fs := syncReaders_frame (u.placeHead ch)
  have hchan : u.chan = (s.leaveHead ch).chan := funext fun c => hf.chan c
  have hclip (id : Nat) : u.clip? id = s.clip? id := by
    have h1 : u.replay.clips = (s.leaveHead ch).replay.clips := (hf.same .clips (by decide)).1
    have h2 : (s.leaveHead ch).replay.clips = s.replay.clips := (hl.same .clips (by decide)).1
    unfold State.clip?
    rw [h1, h2]
  have hstart : u.startOf = s.startOf := by
    funext e
    unfold State.startOf
    rw [hclip]
  have hread : (u.placeHead ch).reader = (s.detached ch).reader := by
    rw [← leaveHead_reader]
    funext name
    exact (fp.reader name).trans (hf.reader name)
  have hreads : (u.loadHead ch).reads = (u.placeHead ch).reads := reads_congr (.of_frame fs)
  have hring (n : Nat) : (u.loadHead ch).ring n = (u.placeHead ch).ring n := fs.ring n
  refine ⟨(hl.next hf).next (loadHead_frame u ch), ?_, fun other hne => ?_, fun name => ?_, ?_⟩
  · rw [State.loadHead, fs.chan, placeHead_chan, hchan, leaveHead_chan]
    unfold State.placed
    rw [hstart]
  · rw [State.loadHead, fs.chan, placeHead_other u hne, hchan, leaveHead_other s hne]
  · rw [hreads, readerAfter_congr hring, ← hread]
    exact k.follow name
  · rw [warnings_congr (t := u.placeHead ch) (s := u.placeHead ch) hread.symm hreads hring]
    have hall := (((leaveHead_reports s ch).next hr).next (placeHead_reports u ch)).next k.reports
    rw [List.nil_append, List.append_nil] at hall
    exact hall

theorem popHead_popped (s : State) (ch : Channel) : Popped ch s [] (s.popHead ch) :=
  loadHead_popped (.refl [] _) (.refl [] _)

/-- A dropped head's report names the state its leaving makes (R151). -/
theorem dropHead_popped (s : State) (ch : Channel) (e : Cue) (o : CueOutcome) (hs : (s.chan ch).state = .cued) :
    Popped ch s [(.channelState, .channelState ch e.number e.fields.clip o (s.chan ch).pos 0 0
      (placedState (s.chan ch).cues.tail))] (s.dropHead ch e o) := by
  have hstate : ((s.leaveHead ch).chan ch).state = placedState (s.chan ch).cues.tail := by
    rw [leaveHead_chan, hs]
    rfl
  unfold State.dropHead State.raiseChannel
  rw [hstate]
  exact loadHead_popped (raise_frame _ _ _) (.raise (by rfl) _ _)

end

end Sys2Proof.Machine
end

section
namespace Sys2Proof.Machine

set_option Elab.async false

/-! ## Readers that have followed -/

section
variable (s : State)

/-- A reader that has followed a reading follows it again as it is (R135). -/
theorem readerAfter_again (old want : Option Reader) :
    s.readerAfter (s.readerAfter old want) want = s.readerAfter old want := by
  cases want with
  | none => rfl
  | some w =>
    by_cases h : (old.any fun r => sameReader r w) = true ∨ 0 ≤ s.marginOf w
    · have ho : s.readerAfter old (some w) = some (s.tested w) := if_pos h
      rw [ho]
      exact readerAfter_same s (by simp [sameReader, State.tested])
    · have ho : s.readerAfter old (some w) = none := if_neg h
      rw [ho]
      exact if_neg fun hn => h (.inr (hn.resolve_left (by simp)))

/-- A reader that has followed a reading warns of nothing more (R136). -/
theorem warningOf_again (name : ReaderName) (old want : Option Reader) :
    s.warningOf name (s.readerAfter old want) want = [] := by
  cases want with
  | none => rfl
  | some w =>
    by_cases h : (old.any fun r => sameReader r w) = true ∨ 0 ≤ s.marginOf w
    · have ho : s.readerAfter old (some w) = some (s.tested w) := if_pos h
      rw [ho, warningOf_same s (by simp [sameReader, State.tested])]
      by_cases ht : s.thresholdOf w ≤ s.marginOf w
      · exact (if_pos (by simp [State.tested, ht])).trans (if_neg (by omega))
      · exact if_neg (by simp [State.tested, ht])
    · have ho : s.readerAfter old (some w) = none := if_neg h
      rw [ho, warningOf_fresh s (old := none) rfl]
      exact if_neg fun hn => h (.inr hn)

theorem detached_reader (ch : Channel) (name : ReaderName) :
    (s.detached ch).reader name = if name = channelReader ch then none else s.reader name := by
  rw [detached_eq, reader_setReader]

/-- Two states that differ in one channel alone give the other readers the same to read. -/
theorem reads_other {s t : State} {ch : Channel} (hc : t.replay.clips = s.replay.clips)
    (hq : t.replay.saveQueue = s.replay.saveQueue) (ho : ∀ other, other ≠ ch → t.chan other = s.chan other)
    {name : ReaderName} (hn : name ≠ channelReader ch) : t.reads name = s.reads name := by
  have hclip : t.clip? = s.clip? := by
    funext id
    unfold State.clip?
    rw [hc]
  have chan (other : Channel) (h : other ≠ ch) : t.wantChannel other = s.wantChannel other := by
    unfold State.wantChannel
    rw [ho other h, hclip]
  cases name with
  | save =>
    rw [reads_save, reads_save]
    unfold State.wantSave
    rw [hq, hclip]
  | channelA => exact (reads_channel t .a).trans ((chan .a fun h => hn (h ▸ rfl)).trans (reads_channel s .a).symm)
  | channelB => exact (reads_channel t .b).trans ((chan .b fun h => hn (h ▸ rfl)).trans (reads_channel s .b).symm)

/-! ## The drops of a roll, one by one -/

theorem dropHeads_chan (ch : Channel) (n : Nat) : (s.dropHeads ch n).chan ch =
    { s.chan ch with cues := (s.chan ch).cues.drop n, pos := s.placed ((s.chan ch).cues.drop n) } := by
  unfold State.dropHeads
  rw [chan_mapChan_same, detached_eq, chan_setReader]
  rfl

theorem dropHeads_other {ch other : Channel} (h : other ≠ ch) (n : Nat) : (s.dropHeads ch n).chan other = s.chan other := by
  unfold State.dropHeads
  rw [chan_mapChan_other _ h, detached_eq, chan_setReader]

theorem dropHeads_frame (ch : Channel) (n : Nat) : Frame [.readers, .channels] s (s.dropHeads ch n) := by
  have h : Frame [.readers, .channels] s (s.detached ch) := by
    rw [detached_eq]
    exact .mono (setReader_frame s _ _)
  unfold State.dropHeads
  exact h.next (mapChan_frame _ ch _)

/-- What a roll of channel `ch` in the state `s` raises for its dropped entry `e`, the `k`-th of its list (R151). -/
def State.dropDetail (ch : Channel) (e : Cue) (k : Nat) (s : State) : Detail :=
  .channelState ch e.number e.fields.clip ((s.dropCause e).getD .clipGone)
    (if k = 0 then (s.chan ch).pos else s.startOf e) 0 0 (if k + 1 < (s.chan ch).cues.length then .cued else .idle)

/-- `u` is what `k` drops make of `s`, whose channel is CUED (R151). -/
structure Reached (ch : Channel) (s : State) (k : Nat) (u : State) : Prop where
  frame : Frame [.channels, .readers] s u
  cues : (u.chan ch).cues = (s.chan ch).cues.drop k
  others : ∀ other, other ≠ ch → u.chan other = s.chan other
  state : (u.chan ch).state = if k = 0 then .cued else placedState ((s.chan ch).cues.drop k)
  pos : (u.chan ch).pos = if k = 0 then (s.chan ch).pos else s.placed ((s.chan ch).cues.drop k)
  readers : if k = 0 then u.reader = s.reader else ReadersFollow (s.detached ch) u

theorem Reached.start {s : State} {ch : Channel} (h : (s.chan ch).state = .cued) : Reached ch s 0 s :=
  ⟨.refl _ s, by simp, fun _ _ => rfl, by simp [h], by simp, by simp⟩

section
variable {s u t : State} {ch : Channel} {k : Nat} (h : Reached ch s k u)
include h

theorem Reached.clips : u.replay.clips = s.replay.clips ∧ u.replay.saveQueue = s.replay.saveQueue :=
  h.frame.same .clips (by decide)

theorem Reached.startOf : u.startOf = s.startOf := by
  funext e
  unfold State.startOf State.clip?
  rw [h.clips.1]

theorem Reached.dropCause (e : Cue) : u.dropCause e = s.dropCause e := by
  unfold State.dropCause State.clip? State.replayTarget
  rw [h.clips.1, zone_of_canvas h.frame.zones]

/-- The readers of a reached state after the next entry is loaded. -/
theorem Reached.next_readers {told : List (Cond × Detail)} (k' : Popped ch u told t) :
    ReadersFollow (s.detached ch) t ∧ warnings (u.detached ch) t = s.dropWarning ch k := by
  have hring (n : Nat) : t.ring n = s.ring n := (k'.frame.ring n).trans (h.frame.ring n)
  have hur (n : Nat) : u.ring n = s.ring n := h.frame.ring n
  obtain ⟨hc, hq⟩ := k'.frame.same .clips (by decide)
  have hother {name : ReaderName} (hn : name ≠ channelReader ch) : t.reads name = u.reads name :=
    reads_other hc hq k'.others hn
  have hfollow (name : ReaderName) : t.reader name = s.readerAfter ((u.detached ch).reader name) (t.reads name) := by
    rw [k'.follow name, readerAfter_congr hring]
  have hdrop : t.reads = (s.dropHeads ch (k + 1)).reads := by
    obtain ⟨dc, dq⟩ := (dropHeads_frame s ch (k + 1)).same .clips (by decide)
    refine reads_congr ⟨hc.trans (h.clips.1.trans dc.symm), hq.trans (h.clips.2.trans dq.symm), fun c => ?_⟩
    by_cases hcc : c = ch
    · subst hcc
      rw [k'.own, dropHeads_chan, h.cues]
      unfold State.placed
      rw [h.startOf, List.tail_drop]
      exact ⟨rfl, rfl⟩
    · rw [k'.others c hcc, h.others c hcc, dropHeads_other s hcc]
      exact ⟨rfl, rfl⟩
  have hdring (n : Nat) : (s.dropHeads ch (k + 1)).ring n = s.ring n := (dropHeads_frame s ch (k + 1)).ring n
  have hr := h.readers
  by_cases hk : k = 0
  · subst hk
    rw [if_pos rfl] at hr
    have hd : (u.detached ch).reader = (s.detached ch).reader := by
      funext name
      rw [detached_reader, detached_reader, hr]
    refine ⟨fun name => ?_, ?_⟩
    · rw [hfollow, hd, readerAfter_congr hring]
    · rw [State.dropWarning, if_pos rfl]
      exact warnings_congr hd hdrop fun n => (hring n).trans (hdring n).symm
  · rw [if_neg hk] at hr
    have hold {name : ReaderName} (hn : name ≠ channelReader ch) :
        u.reader name = s.readerAfter ((s.detached ch).reader name) (t.reads name) := by
      rw [hr name, readerAfter_congr hur, hother hn]
    refine ⟨fun name => ?_, ?_⟩
    · rw [hfollow, readerAfter_congr hring]
      by_cases hn : name = channelReader ch
      · rw [detached_reader, detached_reader, if_pos hn, if_pos hn]
      · rw [detached_reader u, if_neg hn, hold hn, readerAfter_again]
    · have hw {name : ReaderName} (hn : name ≠ channelReader ch) :
          t.warningOf name ((u.detached ch).reader name) (t.reads name) = [] := by
        rw [detached_reader, if_neg hn, hold hn, warningOf_congr hring, warningOf_again]
      have ho : t.warningOf (channelReader ch) ((u.detached ch).reader (channelReader ch)) (t.reads (channelReader ch)) =
          s.dropWarning ch k := by
        rw [detached_reader, if_pos rfl, State.dropWarning, if_neg hk, warningOf_congr hring, hdrop]
      cases ch
      · simpa [warnings, hw (name := .save) (by decide), hw (name := .channelB) (by decide), channelReader] using ho
      · simpa [warnings, hw (name := .save) (by decide), hw (name := .channelA) (by decide), channelReader] using ho

/-- One more drop (R151). -/
theorem Reached.next {e : Cue} {rest : List Cue} (he : (s.chan ch).cues.drop k = e :: rest) {o : CueOutcome}
    (ho : s.dropCause e = some o) :
    Reached ch s (k + 1) (u.dropHead ch e o) ∧
      Reports [] u (u.dropHead ch e o) ((.channelState, s.dropDetail ch e k) :: s.dropWarning ch k) := by
  have hrest : (s.chan ch).cues.drop (k + 1) = rest := by rw [← List.tail_drop, he, List.tail_cons]
  have hcued : (u.chan ch).state = .cued := by
    rw [h.state, he]
    split
    · rfl
    · rfl
  have kp := dropHead_popped u ch e o hcued
  obtain ⟨hreaders, hwarn⟩ := h.next_readers kp
  have hdetail : Detail.channelState ch e.number e.fields.clip o (u.chan ch).pos 0 0 (placedState (u.chan ch).cues.tail) =
      s.dropDetail ch e k := by
    have hlen : k + 1 < (s.chan ch).cues.length ↔ rest ≠ [] := by
      rw [← hrest, ← List.length_pos_iff, List.length_drop]
      omega
    unfold State.dropDetail placedState
    rw [h.pos, h.cues, he, ho]
    by_cases hr : rest = []
    · simp [hlen, hr, State.placed]
    · simp [hlen, hr, State.placed]
  have htail : (u.chan ch).cues.tail = (s.chan ch).cues.drop (k + 1) := by rw [h.cues, List.tail_drop]
  have kr := kp.reports
  rw [hwarn, hdetail] at kr
  refine ⟨⟨h.frame.next kp.frame, ?_, fun other hne => (kp.others other hne).trans (h.others other hne), ?_, ?_, ?_⟩, kr⟩
  · rw [kp.own, htail]
  · rw [kp.own, htail, if_neg (by omega)]
  · rw [kp.own, htail, if_neg (by omega)]
    unfold State.placed
    rw [h.startOf]
  · rw [if_neg (by omega)]
    exact hreaders

end

/-- The entries that a roll drops, of a list of entries: those before the first that can be shown (R151). -/
def State.goneOf (s : State) (cues : List Cue) : List Cue := cues.takeWhile fun e => (s.dropCause e).isSome

/-- What a roll raises for its dropped entries, the first of them the `k`-th of the list (R136, R151). -/
def State.dropsTold (ch : Channel) (k : Nat) (gone : List Cue) (s : State) : List (Cond × Detail) :=
  (gone.zipIdx k).flatMap fun (e, i) => (.channelState, s.dropDetail ch e i) :: s.dropWarning ch i

/-- All drops of a roll (R151). -/
theorem rollDrops_reached {s : State} {ch : Channel} (cues : List Cue) (k : Nat) (u : State) (h : Reached ch s k u)
    (he : (s.chan ch).cues.drop k = cues) :
    (u.rollDrops ch cues).2 = (s.goneOf cues).length ∧
      Reached ch s (k + (s.goneOf cues).length) (u.rollDrops ch cues).1 ∧
      Reports [] u (u.rollDrops ch cues).1 (s.dropsTold ch k (s.goneOf cues)) := by
  induction cues generalizing k u with
  | nil => exact ⟨rfl, h, .refl _ u⟩
  | cons e rest ih =>
    unfold State.rollDrops State.goneOf
    rw [h.dropCause]
    cases ho : s.dropCause e with
    | none =>
      rw [List.takeWhile_cons_of_neg (by simp [ho])]
      exact ⟨rfl, h, .refl _ u⟩
    | some o =>
      obtain ⟨h1, h2⟩ := h.next he ho
      obtain ⟨i1, i2, i3⟩ := ih (k + 1) _ h1 (by rw [← List.tail_drop, he, List.tail_cons])
      rw [List.takeWhile_cons_of_pos (by simp [ho])]
      refine ⟨congrArg (· + 1) i1, ?_, ?_⟩
      · rw [List.length_cons, ← Nat.add_assoc, Nat.add_right_comm]
        exact i2
      · exact h2.next i3

end

end Sys2Proof.Machine
end

section
namespace Sys2Proof.Machine

set_option Elab.async false

/-! ## The request of a roll -/

section
variable {s t : State} {ch : Channel} {zone : Nat}

theorem levelChannel_channelLevel (ch : Channel) : levelChannel (channelLevel ch) = some ch := by cases ch <;> rfl

theorem channelLevel_of_levelChannel {level : Nat} (h : levelChannel level = some ch) : level = channelLevel ch := by
  unfold levelChannel at h
  split at h
  · cases h
    assumption
  · split at h
    · cases h
      assumption
    · cases h

/-- A grant at a channel's level moves the channel from REQUESTED to COVERED (R152). -/
theorem noteGrant_covers (hc : (s.chan ch).state = .requested) (hh : (s.chan ch).headIn zone = true) :
    ((s.noteGrant zone (channelLevel ch)).chan ch).state = .covered := by
  unfold State.noteGrant
  rw [levelChannel_channelLevel]
  dsimp only
  rw [if_pos ⟨hc, hh⟩, chan_mapChan_same]

/-- A grant at another level leaves the channel. -/
theorem noteGrant_other {level : Nat} (h : level ≠ channelLevel ch) : (s.noteGrant zone level).chan ch = s.chan ch := by
  unfold State.noteGrant
  cases hl : levelChannel level with
  | none => rfl
  | some other =>
    have hne : ch ≠ other := by
      rintro rfl
      exact h (channelLevel_of_levelChannel hl)
    dsimp only
    split
    · exact chan_mapChan_other s hne _
    · rfl

/-- An evaluation of the zone in which a REQUESTED channel's head is pending grants the request or leaves it (R108, R152). -/
theorem evaluate_channel {y : Zone} {q : PendingReq} (hz : s.zone? zone = some y)
    (hq : y.arb.pendingAt (channelLevel ch) = some q) (hs : y.arb.serviceAt (channelLevel ch) = none)
    (hc : (s.chan ch).state = .requested) (hh : (s.chan ch).headIn zone = true) :
    ∃ x, (s.evaluate zone).zone? zone = some x ∧
      ((x.arb.serviceAt (channelLevel ch) = some ⟨q.level, q.content, q.frames, s.canvas.frame + 1, 0, q.credit, 0⟩ ∧
          ((s.evaluate zone).chan ch).state = .covered) ∨
        (x.arb.pendingAt (channelLevel ch) = some q ∧ x.arb.serviceAt (channelLevel ch) = none ∧
          ((s.evaluate zone).chan ch).state = .requested)) := by
  unfold State.evaluate
  rw [hz, Option.bind_some]
  cases hg : y.nextGrant s.timing.run with
  | none => exact ⟨y, hz, .inr ⟨hq, hs, hc⟩⟩
  | some p =>
    dsimp only
    refine ⟨{ y with arb := y.arb.grant p (s.canvas.frame + 1) }, ?_, ?_⟩
    · rw [zone_of_canvas (noteGrant_frame _ zone p.level).zones, zone_mapArb, hz]
      simp
    · have hlevel := level_grant y.arb (channelLevel ch) p (s.canvas.frame + 1)
      by_cases hl : channelLevel ch = p.level
      · obtain rfl := Option.some.inj ((hl ▸ pendingAt_of_nextGrant hg).symm.trans hq)
        rw [if_pos hl] at hlevel
        simp only [ZoneArb.level, Prod.mk.injEq] at hlevel
        obtain ⟨-, hsv, -⟩ := hlevel
        refine .inl ⟨hsv, ?_⟩
        rw [← hl]
        exact noteGrant_covers (s := s.mapArb zone (ZoneArb.grant p (s.canvas.frame + 1))) hc hh
      · rw [if_neg hl] at hlevel
        simp only [ZoneArb.level, Prod.mk.injEq] at hlevel
        obtain ⟨hp, hsv, -⟩ := hlevel
        refine .inr ⟨hp.trans hq, hsv.trans hs, ?_⟩
        rw [noteGrant_other (s := s.mapArb zone (ZoneArb.grant p (s.canvas.frame + 1))) (Ne.symm hl)]
        exact hc

/-- What a roll's request of the entry `e` answers and leaves: the takeover granted and the channel COVERED, or the request
pending and the channel REQUESTED (R104, R152). -/
def HeadRequested (ch : Channel) (e : Cue) (t : State) (result : RollResult) : Prop :=
  (result = .granted e.number ∧ (t.chan ch).state = .covered ∧
      ∃ z, t.zone? e.fields.zone = some z ∧ ∃ k, z.arb.serviceAt (channelLevel ch) = some k ∧
        k.content = .channel ch ∧ k.remaining = none ∧ k.credit = e.fields.tag) ∨
    (result = .pending e.number ∧ (t.chan ch).state = .requested ∧
      ∃ z, t.zone? e.fields.zone = some z ∧ ∃ r, z.arb.pendingAt (channelLevel ch) = some r ∧
        r.content = .channel ch ∧ r.frames = none ∧ r.credit = e.fields.tag)

theorem HeadRequested.stands {e : Cue} {result : RollResult} (h : HeadRequested ch e t result) :
    (t.standsAt e.fields.zone (channelLevel ch)).isSome = true := by
  unfold State.standsAt
  rcases h with ⟨-, -, z, hz, k, hk, -⟩ | ⟨-, -, z, hz, r, hr, -⟩
  · rw [hz, Option.bind_some, standing_isSome, hk]
    exact .inr rfl
  · rw [hz, Option.bind_some, standing_isSome, hr]
    exact .inl rfl

/-- A roll requests its level for a head whose zone is there and whose level is free (R151, R152). -/
theorem rollHead_requests {e : Cue} {rest : List Cue} (he : (s.chan ch).cues = e :: rest) {z : Zone}
    (hz : s.zone? e.fields.zone = some z) (hn : s.standsAt e.fields.zone (channelLevel ch) = none) :
    HeadRequested ch e (s.rollHead ch).1 (s.rollHead ch).2 := by
  unfold State.rollHead
  rw [he]
  dsimp only
  have hc : ((s.mapChan ch fun c => { c with state := .requested }).chan ch).state = .requested := by rw [chan_mapChan_same]
  have hh : ((s.mapChan ch fun c => { c with state := .requested }).chan ch).headIn e.fields.zone = true := by
    rw [chan_mapChan_same]
    simp [Chan.headIn, he]
  have hf := mapChan_frame s ch fun c => { c with state := .requested }
  generalize s.mapChan ch (fun c => { c with state := .requested }) = u at hc hh hf
  have huz : u.zone? e.fields.zone = some z := (zone_of_canvas hf.zones _).trans hz
  have hst : z.arb.pendingAt (channelLevel ch) = none ∧ z.arb.serviceAt (channelLevel ch) = none :=
    (standing_eq_none _ _).mp (by simpa [State.standsAt, hz] using hn)
  obtain ⟨hp, hs⟩ := hst
  have hrec := level_record z.arb (channelLevel ch) ⟨channelLevel ch, .channel ch, none, e.fields.tag⟩
  rw [if_pos rfl] at hrec
  simp only [ZoneArb.level, Prod.mk.injEq] at hrec
  obtain ⟨hrp, hrs, -⟩ := hrec
  have hw : (u.mapArb e.fields.zone (ZoneArb.record ⟨channelLevel ch, .channel ch, none, e.fields.tag⟩)).zone? e.fields.zone =
      some { z with arb := z.arb.record ⟨channelLevel ch, .channel ch, none, e.fields.tag⟩ } := by
    rw [zone_mapArb, huz]
    simp
  have heval := evaluate_channel (ch := ch) hw hrp (hrs.trans hs) hc hh
  unfold State.request
  rw [huz]
  simp only [hp, hs, Option.isSome_none, Bool.false_eq_true, if_false]
  generalize (u.mapArb e.fields.zone (ZoneArb.record ⟨channelLevel ch, .channel ch, none, e.fields.tag⟩)).evaluate
    e.fields.zone = v at heval
  obtain ⟨x, hx, ⟨hsv, hst⟩ | ⟨hpd, hsv, hst⟩⟩ := heval
  · rw [hx, Option.bind_some, hsv]
    exact .inl ⟨rfl, hst, x, hx, _, hsv, rfl, rfl, rfl⟩
  · rw [hx, Option.bind_some, hsv]
    exact .inr ⟨rfl, hst, x, hx, _, hpd, rfl, rfl, rfl⟩

/-- A roll's request leaves what the readings look at (R152). -/
theorem rollHead_sameReads (s : State) (ch : Channel) : SameReads s (s.rollHead ch).1 := by
  have h (u : State) (zone : Nat) (r : Request) : SameReads u (u.request zone r false).1 := by
    have k := replayKept_walk.request u zone r false
    refine ⟨k.clips, k.queue, fun c => ?_⟩
    rcases k.chans c with hc | ⟨-, hc⟩ <;> rw [hc] <;> exact ⟨rfl, rfl⟩
  have hm : SameReads s (s.mapChan ch fun c => { c with state := .requested }) := by
    obtain ⟨hc, hq⟩ := (mapChan_frame s ch fun c => { c with state := .requested }).same .clips (by decide)
    refine ⟨hc, hq, fun c => ?_⟩
    by_cases hcc : c = ch
    · subst hcc
      rw [chan_mapChan_same]
      exact ⟨rfl, rfl⟩
    · rw [chan_mapChan_other s hcc]
      exact ⟨rfl, rfl⟩
  unfold State.rollHead
  split
  · exact ⟨rfl, rfl, fun _ => ⟨rfl, rfl⟩⟩
  · exact hm.trans (h _ _ _)

theorem rollHead_reports (s : State) (ch : Channel) : Reports [] s (s.rollHead ch).1 [] := by
  unfold State.rollHead
  split
  · exact .refl _ s
  · exact (mapChan_reports s ch _).next (request_reports _ _ _ _)

end

/-! ## A whole roll -/

theorem drop_goneOf (s : State) (cues : List Cue) :
    cues.drop (s.goneOf cues).length = cues.dropWhile fun e => (s.dropCause e).isSome := by
  have h := List.takeWhile_append_dropWhile (p := fun e => (s.dropCause e).isSome) (l := cues)
  calc cues.drop (s.goneOf cues).length
      = (s.goneOf cues ++ cues.dropWhile fun e => (s.dropCause e).isSome).drop (s.goneOf cues).length := by
        rw [State.goneOf, h]
    _ = _ := List.drop_left ..

/-- What a roll of a CUED channel makes of a state, where `gone` are the entries it drops and `left` the rest (R151). -/
structure Rolled (ch : Channel) (gone left : List Cue) (s t : State) (result : RollResult) : Prop where
  frame : Frame [.zones, .channels, .readers] s t
  cues : (t.chan ch).cues = left
  empty : left = [] → result = .empty ∧ ((s.chan ch).cues ≠ [] → (t.chan ch).state = .idle)
  kept : gone = [] → ∀ name, t.reader name = s.reader name
  follow : gone ≠ [] → ReadersFollow (s.detached ch) t
  reports : Reports [] s t (s.dropsTold ch 0 gone)
  pos : ∀ e, left.head? = some e → (t.chan ch).pos = if gone = [] then (s.chan ch).pos else s.startOf e
  head : ∀ e, left.head? = some e → s.standsAt e.fields.zone (channelLevel ch) = none → HeadRequested ch e t result

theorem roll_rolled {s : State} {ch : Channel} (hc : (s.chan ch).state = .cued) :
    ∃ t result, s.roll ch = (t, (s.goneOf (s.chan ch).cues).length, result) ∧
      Rolled ch (s.goneOf (s.chan ch).cues) ((s.chan ch).cues.dropWhile fun e => (s.dropCause e).isSome) s t result := by
  obtain ⟨hcount, hreach, hreports⟩ := rollDrops_reached (s.chan ch).cues 0 s (.start hc) List.drop_zero
  have hroll : s.roll ch = (((s.rollDrops ch (s.chan ch).cues).1.rollHead ch).1, (s.rollDrops ch (s.chan ch).cues).2,
    ((s.rollDrops ch (s.chan ch).cues).1.rollHead ch).2) := rfl
  rw [hcount] at hroll
  refine ⟨_, _, hroll, ?_⟩
  clear hroll hcount
  rw [Nat.zero_add] at hreach
  generalize (s.rollDrops ch (s.chan ch).cues).1 = u at hreach hreports
  have hf := rollHead_frame u ch
  have hr := rollHead_sameReads u ch
  have hleft := drop_goneOf s (s.chan ch).cues
  have hcues := hreach.cues.trans hleft
  have hnil : (s.goneOf (s.chan ch).cues).length = 0 ↔ s.goneOf (s.chan ch).cues = [] := List.length_eq_zero_iff
  refine ⟨(Frame.mono hreach.frame).next hf, (hr.chans ch).1.trans hcues, fun hl => ?_, fun hg name => ?_, fun hg => ?_, ?_,
    fun e he => ?_, fun e he hn => ?_⟩
  · have hnone : u.rollHead ch = (u, .empty) := by
      unfold State.rollHead
      rw [hcues, hl]
    rw [hnone]
    refine ⟨rfl, fun hne => ?_⟩
    have hpos : (s.goneOf (s.chan ch).cues).length ≠ 0 := by
      intro h0
      rw [h0, List.drop_zero, hl] at hleft
      exact hne hleft
    rw [hreach.state, if_neg hpos, hleft, hl]
    rfl
  · have hk := hreach.readers
    rw [if_pos (hnil.mpr hg)] at hk
    rw [hf.reader, hk]
  · have hk := hreach.readers
    rw [if_neg (mt hnil.mp hg)] at hk
    exact hk.congr rfl (funext fun name => hf.reader name) (reads_congr hr) fun n => hf.ring n
  · simpa using hreports.next (rollHead_reports u ch)
  · rw [(hr.chans ch).2, hreach.pos, hleft]
    simp only [hnil, State.placed, he, Option.map_some, Option.getD_some]
  · obtain ⟨rest, hrest⟩ : ∃ rest, (s.chan ch).cues.dropWhile (fun e => (s.dropCause e).isSome) = e :: rest :=
      List.head?_eq_some_iff.mp he
    have hcause : s.dropCause e = none := by
      have := List.head?_dropWhile_not (fun e => (s.dropCause e).isSome) (s.chan ch).cues
      rw [he] at this
      simpa using this
    obtain ⟨z, hz⟩ : ∃ z, s.zone? e.fields.zone = some z := by
      unfold State.dropCause State.replayTarget at hcause
      cases hz : s.zone? e.fields.zone with
      | some z => exact ⟨z, rfl⟩
      | none =>
        rw [hz] at hcause
        split at hcause
        · split at hcause
          · cases hcause
          · cases hcause
        · cases hcause
    have huz := hreach.frame.zones
    exact rollHead_requests (hcues.trans hrest) ((zone_of_canvas huz _).trans hz) ((standsAt_of_zones huz _ _).trans hn)

end Sys2Proof.Machine
end

section
namespace Sys2Proof.Machine

set_option Elab.async false

/-! ## What rolls and stops raise, kind by kind -/

section
variable {c : Cond} {es : List (Cond × Detail)}

theorem detailsOf_of_kind (h : ∀ e ∈ es, e.1 = c) : detailsOf c es = es.map (·.2) := by
  unfold detailsOf
  rw [List.filter_eq_self.mpr fun e he => by simpa using h e he]

theorem detailsOf_of_other {k : Cond} (h : ∀ e ∈ es, e.1 = k) (hk : k ≠ c) : detailsOf c es = [] := by
  unfold detailsOf
  rw [List.filter_eq_nil_iff.mpr fun e he => by simpa [h e he] using hk, List.map_nil]

/-- Exact occurrences are those of any kinds beside them. -/
theorem Reports.widen {K : List Cond} {s t : State} (h : Reports [] s t es) (hk : ∀ e ∈ es, K.contains e.1 = false) :
    Reports K s t es := by
  obtain ⟨all, hp, ht, rfl⟩ := h
  have ha : (all.filter fun e => !([] : List Cond).contains e.1) = all := List.filter_eq_self.mpr fun _ _ => rfl
  rw [ha] at hk ⊢
  exact ⟨all, hp, ht, List.filter_eq_self.mpr fun e he => by rw [hk e he]; rfl⟩

theorem Reports.link {s t : State} (h : Reports [] s t es) (link : Link) : t.link link = (s.link link).occurs es := by
  obtain ⟨all, hp, ht, rfl⟩ := h
  have ha : (all.filter fun e => !([] : List Cond).contains e.1) = all := List.filter_eq_self.mpr fun _ _ => rfl
  rw [ha]
  cases link
  · exact hp
  · exact ht

end

section
variable (s : State)

theorem warningOf_kind {name : ReaderName} {old want : Option Reader} {e : Cond × Detail} (h : e ∈ s.warningOf name old want) :
    e.1 = .nearOvertake := by
  unfold State.warningOf at h
  cases want with
  | none => cases h
  | some w =>
    obtain ⟨-, he⟩ := List.mem_ite_nil_right.mp h
    obtain rfl := List.mem_singleton.mp he
    rfl

theorem warnings_kind {t : State} {e : Cond × Detail} (h : e ∈ warnings s t) : e.1 = .nearOvertake := by
  obtain ⟨name, -, hn⟩ := List.mem_flatMap.mp h
  exact warningOf_kind t hn

theorem dropWarning_kind {ch : Channel} {k : Nat} {e : Cond × Detail} (h : e ∈ s.dropWarning ch k) : e.1 = .nearOvertake := by
  unfold State.dropWarning at h
  split at h
  · exact warnings_kind _ h
  · exact warningOf_kind s h

theorem dropsTold_cons (ch : Channel) (k : Nat) (e : Cue) (gone : List Cue) :
    s.dropsTold ch k (e :: gone) =
      (.channelState, s.dropDetail ch e k) :: (s.dropWarning ch k ++ s.dropsTold ch (k + 1) gone) := by
  simp [State.dropsTold, List.zipIdx_cons]

theorem dropsTold_warnings (ch : Channel) (gone : List Cue) (k : Nat) : detailsOf .nearOvertake (s.dropsTold ch k gone) =
    ((List.range' k gone.length).flatMap fun i => s.dropWarning ch i).map (·.2) := by
  induction gone generalizing k with
  | nil => rfl
  | cons e gone ih =>
    rw [dropsTold_cons, detailsOf_cons, if_neg (by simp), detailsOf_append, ih,
      detailsOf_of_kind fun _ he => dropWarning_kind s he, List.length_cons, List.range'_succ, List.flatMap_cons,
      List.map_append, List.nil_append]

theorem dropsTold_states (ch : Channel) (gone : List Cue) (k : Nat) : detailsOf .channelState (s.dropsTold ch k gone) =
    (gone.zipIdx k).map fun (e, i) => s.dropDetail ch e i := by
  induction gone generalizing k with
  | nil => rfl
  | cons e gone ih =>
    rw [dropsTold_cons, detailsOf_cons, if_pos rfl, detailsOf_append, ih,
      detailsOf_of_other (fun _ he => dropWarning_kind s he) (by decide), List.zipIdx_cons, List.map_cons, List.nil_append,
      List.singleton_append]

end

/-! ## A stop -/

section
variable {s : State} {ch : Channel} {e : Cue} {rest : List Cue}

/-- A level that is released stands no longer, unless it is one that owners request again (R113, R176, R198). -/
theorem release_frees (s : State) (zone : Nat) {level : Nat} (h5 : level ≠ 5) (h6 : level ≠ 6) :
    (s.release zone level).standsAt zone level = none := by
  unfold State.release
  by_cases h : (s.standsAt zone level).isSome = true
  · rw [if_pos h]
    exact endAll_ends s .released [(zone, level)] (List.mem_singleton_self _) h5 h6
  · rw [if_neg h]
    simpa using h

/-- What a stop makes of a channel on air with the head `e` (R136, R158, R159). -/
structure Stopped (ch : Channel) (e : Cue) (rest : List Cue) (s t : State) : Prop where
  cues : (t.chan ch).cues = rest
  state : (t.chan ch).state = placedState rest
  chain : (t.chan ch).chain = (s.chan ch).chain
  others : ∀ other, other ≠ ch → (t.chan other).cues = (s.chan other).cues
  free : t.standsAt e.fields.zone (channelLevel ch) = none
  follow : ReadersFollow (s.detached ch) t
  reports : Reports (endKinds .released) s t (warnings (s.detached ch) t ++
    [(.channelState, .channelState ch e.number e.fields.clip .stopped (s.chan ch).pos (s.chan ch).passes (s.chan ch).shown
      (t.chan ch).state)])

theorem ReplayKept.chan_fields {s t : State} (h : ReplayKept s t) (ch : Channel) :
    (t.chan ch).cues = (s.chan ch).cues ∧ (t.chan ch).chain = (s.chan ch).chain ∧ (t.chan ch).pos = (s.chan ch).pos ∧
      (t.chan ch).passes = (s.chan ch).passes ∧ (t.chan ch).shown = (s.chan ch).shown := by
  rcases h.chans ch with hc | ⟨-, hc⟩ <;> rw [hc] <;> exact ⟨rfl, rfl, rfl, rfl, rfl⟩

theorem ReplayKept.reader {s t : State} (h : ReplayKept s t) : t.reader = s.reader := by
  funext name
  cases name <;> simp only [State.reader, h.capture]

theorem releaseEntry_stopped (he : (s.chan ch).cues = e :: rest) : Stopped ch e rest s (s.releaseEntry ch .stopped) := by
  have hkept := replayKept_walk.released s e.fields.zone (channelLevel ch)
  have hreports := release_reports s e.fields.zone (channelLevel ch)
  have hfree : (s.release e.fields.zone (channelLevel ch)).standsAt e.fields.zone (channelLevel ch) = none :=
    release_frees s e.fields.zone (by cases ch <;> decide) (by cases ch <;> decide)
  unfold State.releaseEntry
  rw [he]
  dsimp only
  generalize s.release e.fields.zone (channelLevel ch) = u at hkept hreports hfree
  obtain ⟨hcues, hchain, hpos, hpasses, hshown⟩ := hkept.chan_fields ch
  unfold State.endEntry
  rw [hcues, he]
  dsimp only
  rw [if_neg (by decide), hpos, hpasses, hshown, State.raiseChannel]
  have hp := popHead_popped u ch
  generalize u.popHead ch = v at hp
  generalize hd : Detail.channelState ch e.number e.fields.clip .stopped (s.chan ch).pos (s.chan ch).passes (s.chan ch).shown
    (v.chan ch).state = d
  have hf := raise_frame v .channelState d
  have hchan : (v.raise .channelState d).chan = v.chan := rfl
  have htail : (u.chan ch).cues.tail = rest := by rw [hcues, he, List.tail_cons]
  have hdet : (s.detached ch).reader = (u.detached ch).reader := by
    funext name
    rw [detached_reader, detached_reader, hkept.reader]
  have hfollow : ReadersFollow (s.detached ch) v := hp.follow.congr hdet rfl rfl fun _ => rfl
  have hwarn : warnings (u.detached ch) v = warnings (s.detached ch) (v.raise .channelState d) :=
    warnings_congr hdet.symm (reads_congr (SameReads.of_frame hf).symm) fun n => (hf.ring n).symm
  refine ⟨?_, ?_, ?_, fun other hne => ?_, ?_, ?_, ?_⟩
  · rw [hchan, hp.own, htail]
  · rw [hchan, hp.own, htail]
  · rw [hchan, hp.own, hchain]
  · rw [hchan, hp.others other hne, (hkept.chan_fields other).1]
  · rw [hf.standsAt, hp.frame.standsAt]
    exact hfree
  · exact hfollow.congr rfl (funext fun name => hf.reader name) (reads_congr (.of_frame hf)) fun n => hf.ring n
  · rw [hchan, ← hwarn, hd]
    have hpr := hp.reports
    rw [List.nil_append] at hpr
    have hall := hreports.next ((hpr.widen fun e he => by rw [warnings_kind _ he]; rfl).next
      (.raise (K := endKinds .released) (c := .channelState) (by rfl) v d))
    rwa [List.nil_append] at hall

end

/-! ## The tests of the two records -/

theorem onAir_iff (c : Chan) : c.onAir = true ↔ c.state = .requested ∨ c.state = .playing ∨ c.state = .covered := by
  simp [Chan.onAir, or_assoc]

theorem exec_channelRoll {h : Hdr} {ch : Channel} {s : State} (ha : s.admits h 0x56 = true) :
    exec (.channelRoll h ch) s = .next ((channelRollOwner ch s).1.replied h 0x56 (channelRollOwner ch s).2.1
      (channelRollOwner ch s).2.2) :=
  congrArg Host.Outcome.next (take_admitted ha _ ((channelRollOwner_frame s ch).replies h.link))

theorem exec_channelStop {h : Hdr} {ch : Channel} {s : State} (ha : s.admits h 0x57 = true) :
    exec (.channelStop h ch) s = .next ((channelStopOwner ch s).1.replied h 0x57 (channelStopOwner ch s).2.1
      (channelStopOwner ch s).2.2) :=
  congrArg Host.Outcome.next (take_admitted ha _ ((channelStopOwner_frame s ch).replies h.link))

theorem channelRollOwner_eq (ch : Channel) (s : State) : channelRollOwner ch s =
    if (s.chan ch).state = .idle then s.refuse .notFound
    else if (s.chan ch).onAir = true ∨ s.canvas.awaitingConfig ≠ none then s.refuse .busy
    else ((s.roll ch).1, .ok, .roll (s.roll ch).2.1 (s.roll ch).2.2) := by
  unfold channelRollOwner
  rw [tests_cons, tests_cons, tests_cons, tests_nil]
  by_cases hi : (s.chan ch).state = .idle
  · simp [hi]
  · rw [if_neg (by simpa using hi), if_neg hi]
    by_cases ho : (s.chan ch).onAir = true
    · rw [if_pos ho, if_pos (.inl ho)]
    · rw [if_neg ho]
      cases hw : s.canvas.awaitingConfig with
      | some w => simp
      | none => simp [ho, State.okWith]

theorem channelStopOwner_eq (ch : Channel) (s : State) : channelStopOwner ch s =
    if (s.chan ch).onAir = true then (s.releaseEntry ch .stopped, .ok, .count (s.chan ch).headNumber)
    else s.refuse .notFound := by
  unfold channelStopOwner
  rw [tests_cons, tests_nil]
  cases (s.chan ch).onAir <;> rfl

end Sys2Proof.Machine

namespace Sys2Proof

set_option Elab.async false

open Machine

/-- A roll whose first head can be shown drops nothing and requests its level (R151). -/
theorem rolled_entries {ch : Channel} {s t : State} {result : RollResult}
    (h : Rolled ch (s.goneOf (s.chan ch).cues) ((s.chan ch).cues.dropWhile fun e => (s.dropCause e).isSome) s t result)
    {e : Cue} {rest : List Cue} (he : (s.chan ch).cues = e :: rest)
    (hclip : ∃ clip, s.clip? e.fields.clip = some clip ∧ clip.state ≠ .lost) (hzone : s.replayTarget e.fields.zone = true)
    (hn : s.standsAt e.fields.zone (channelLevel ch) = none) :
    (s.goneOf (s.chan ch).cues).length = 0 ∧ (t.chan ch).cues = (s.chan ch).cues ∧ (t.chan ch).pos = (s.chan ch).pos ∧
      HeadRequested ch e t result := by
  have hcause : s.dropCause e = none := by
    obtain ⟨clip, hc, hl⟩ := hclip
    unfold State.dropCause
    rw [hc]
    dsimp only
    rw [if_neg hl, if_pos hzone]
  have hgone : s.goneOf (s.chan ch).cues = [] := by rw [State.goneOf, he, List.takeWhile_cons_of_neg (by simp [hcause])]
  have hleft : (s.chan ch).cues.dropWhile (fun e => (s.dropCause e).isSome) = (s.chan ch).cues := by
    rw [he, List.dropWhile_cons_of_neg (by simp [hcause])]
  have hhead : ((s.chan ch).cues.dropWhile fun e => (s.dropCause e).isSome).head? = some e := by rw [hleft, he]; rfl
  refine ⟨by rw [hgone]; rfl, h.cues.trans hleft, ?_, h.head e hhead hn⟩
  rw [h.pos e hhead, if_pos hgone]

/-- Settles O46: the roll from `roll_rolled`, the stop from `releaseEntry_stopped`. -/
theorem channelsRollAndStop : Obligations.ChannelsRollAndStop := by
  constructor
  · intro h ch s ha hz
    dsimp only
    rw [exec_channelRoll ha, channelRollOwner_eq]
    by_cases hi : (s.chan ch).state = .idle
    · rw [if_pos hi, if_pos hi]
      rfl
    rw [if_neg hi, if_neg hi]
    have hbusy : ((s.chan ch).onAir = true ∨ s.canvas.awaitingConfig ≠ none) ↔ (s.chan ch).state = .requested ∨
        (s.chan ch).state = .playing ∨ (s.chan ch).state = .covered ∨ s.canvas.awaitingConfig ≠ none := by
      rw [onAir_iff]
      simp only [or_assoc]
    by_cases hb : (s.chan ch).onAir = true ∨ s.canvas.awaitingConfig ≠ none
    · rw [if_pos hb, if_pos (hbusy.mp hb)]
      rfl
    rw [if_neg hb, if_neg (mt hbusy.mpr hb)]
    have hcued : (s.chan ch).state = .cued := by
      have ho := mt Or.inl hb
      rw [onAir_iff] at ho
      cases hs : (s.chan ch).state with
      | idle => exact absurd hs hi
      | cued => rfl
      | requested => exact absurd (.inl hs) ho
      | playing => exact absurd (.inr (.inl hs)) ho
      | covered => exact absurd (.inr (.inr hs)) ho
    obtain ⟨t, result, hroll, hr⟩ := roll_rolled hcued
    rw [hroll]
    refine ⟨t, _, result, rfl, hr.frame, ⟨rfl, hr.cues, hr.empty, hr.kept, hr.follow, fun hw => ?_, fun e he hn => ?_,
      hr.reports.link, fun hw => ?_⟩, fun e rest he hclip hzone hn => ?_⟩
    · have hg := hr.reports.gains hw (c := .nearOvertake)
      rwa [dropsTold_warnings, ← List.range_eq_range'] at hg
    · have hq := hr.head e he hn
      exact ⟨hr.pos e he, hq.stands, hq.imp (fun ⟨h1, h2, _⟩ => ⟨h1, h2⟩) fun ⟨h1, h2, _⟩ => ⟨h1, h2⟩⟩
    · have hg := hr.reports.gains hw (c := .channelState)
      rwa [dropsTold_states] at hg
    · obtain ⟨h0, hc, hp, hq⟩ := rolled_entries hr he hclip hzone hn
      exact ⟨h0, hc, hp, hq.stands, hq⟩
  · intro h ch s ha hz
    dsimp only
    rw [exec_channelStop ha, channelStopOwner_eq]
    by_cases ho : (s.chan ch).onAir = true
    · rw [if_pos ho, if_neg (not_not.mpr ((onAir_iff _).mp ho))]
      refine ⟨_, rfl, ?_⟩
      cases hc : (s.chan ch).cues with
      | nil =>
        have he : s.releaseEntry ch .stopped = s := by
          unfold State.releaseEntry
          rw [hc]
        rw [he]
        exact ⟨rfl, fun _ _ => rfl, nofun, .refl _ s⟩
      | cons e rest =>
        have k := releaseEntry_stopped hc
        refine ⟨k.chain, k.others, fun e' rest' he => ?_, releaseEntry_frame s ch .stopped⟩
        obtain ⟨rfl, rfl⟩ := List.cons.inj he
        refine ⟨k.cues, k.state, k.free, k.follow, fun hw => ?_⟩
        have hnear := k.reports.gains hw (c := .nearOvertake)
        have hstate := k.reports.gains hw (c := .channelState)
        rw [detailsOf_append, detailsOf_of_kind fun _ he => warnings_kind _ he] at hnear
        rw [detailsOf_append, detailsOf_of_other (fun _ he => warnings_kind _ he) (by decide)] at hstate
        exact ⟨by simpa [detailsOf] using hnear, by simpa [detailsOf] using hstate⟩
    · rw [if_neg ho, if_pos (by rwa [← onAir_iff])]
      rfl

end Sys2Proof
end

section
namespace Sys2Proof.Machine

set_option Elab.async false

/-! ## An event row with its event at the front of what is due (log 2) -/

theorem perform_front {s : State} {e : DueEvent} {rest : List DueEvent} (hd : s.due = e :: rest) {p : DueEvent → Bool}
    (hp : p e = true) : s.perform p = State.runDue e { s with due := rest } := by
  unfold State.perform
  rw [hd, List.find?_cons_of_pos hp]
  dsimp only
  rw [List.erase_cons_head]

/-! ## The owners of the timing records, test by test -/

/-- An admitted record of the stated shape: its owner's answer decides the reply (R6 to R8). -/
theorem exec_admitted {c : Instr} {h : Hdr} {kind : Nat} {s : State} {owner : State → Answered} (ha : s.admits h kind = true)
    (he : exec c s = .next (s.take h kind true owner)) {P : List Part} (hf : Frame P s (owner s).1) :
    exec c s = .next ((owner s).1.replied h kind (owner s).2.1 (owner s).2.2) := by
  rw [he, take_admitted ha owner (hf.replies h.link)]

theorem within_eq_false (lo hi n : Nat) : (!within lo hi n) = true ↔ n < lo ∨ hi < n := by
  simp only [within, Bool.not_eq_true', Bool.and_eq_false_iff, decide_eq_false_iff_not]
  omega

theorem clampTrim_eq (x : Int) : clampTrim x = if x < -500 then -500 else if 500 < x then 500 else x := by
  unfold clampTrim
  split
  · omega
  · split <;> omega

theorem not_playChoiceOk (choice : PlayChoice) : (!playChoiceOk choice) =
    match choice with | .value n => n == 0 || decide (99 < n) | _ => false := by
  cases choice with
  | value n =>
    rw [Bool.eq_iff_iff]
    simp only [playChoiceOk, within_eq_false, Bool.or_eq_true, beq_iff_eq, decide_eq_true_eq]
    omega
  | primary => rfl
  | secondary => rfl

theorem playResetOwner_eq (choice : PlayChoice) (s : State) : playResetOwner choice s =
    if s.record.game.session = .final then s.refuse .closed
    else if (!playChoiceOk choice) = true then s.refuse .range
    else ((s.mapTiming fun t =>
      { t with play := playChoiceValue t.rules choice, playPending := false, playCounted := 0 }).sendClock .play).ok := by
  simp only [playResetOwner, tests_cons, tests_nil, beq_iff_eq]

theorem playEnableOwner_eq (on : Bool) (s : State) : playEnableOwner on s =
    if s.record.game.session = .final then s.refuse .closed
    else ((s.mapTiming fun t => { t with playEnabled := on }).sendClock .play).ok := by
  simp only [playEnableOwner, tests_cons, tests_nil, beq_iff_eq]

theorem breakStartOwner_eq (seconds : Nat) (hornFlag : Bool) (s : State) : breakStartOwner seconds hornFlag s =
    if s.record.game.session = .final then s.refuse .closed
    else if seconds = 0 ∨ 900 < seconds then s.refuse .range
    else if s.timing.brkRunning = true then s.refuse .busy
    else (((s.mapTiming (Timing.startBreak seconds hornFlag)).featureBreakStart seconds).sendClock .breakStart).ok := by
  simp only [breakStartOwner, tests_cons, tests_nil, beq_iff_eq, within_eq_false, Nat.lt_one_iff]

theorem breakCancelOwner_eq (s : State) : breakCancelOwner s =
    if s.record.game.session = .final then s.refuse .closed
    else if s.timing.brkRunning = false then s.refuse .notFound
    else ((s.mapTiming fun t =>
      { t with brkRunning := false, brkValue := 0 }).featureBreakCancel.sendClock .breakCancel).ok := by
  simp only [breakCancelOwner, tests_cons, tests_nil, beq_iff_eq, Bool.not_eq_true']

theorem hornOwner_eq (which : Horn) (d : Nat) (s : State) : hornOwner which d s =
    if d < 200 ∨ 5000 < d then s.refuse .range else (s.mapTiming (Timing.soundHorn which d)).ok := by
  simp only [hornOwner, tests_cons, tests_nil, within_eq_false]

/-! ## Expiries of timers that stand at 0 (R39, R42) -/

/-- A play expiry at 0 changes nothing of the clock but the pending flag (R39). -/
theorem playExpire_of_zero {s : State} (h : s.timing.play = 0) (blanked : Bool) :
    let u : State := (s.mapTiming fun t => { t with playPending := false }).raise .playExpired (.playExpired blanked s.timing.v)
    s.playExpire blanked =
      (if s.timing.rules.playHorn = true ∧ blanked = false then u.hornSounds .play else u).sendClock .play := by
  have ht : ({ s.timing with play := 0, playPending := false } : Timing) = { s.timing with playPending := false } := by rw [← h]
  have hu : (s.mapTiming fun t => { t with play := 0, playPending := false }) = s.mapTiming fun t => { t with playPending := false } :=
    congrArg (fun t => { s with timing := t }) ht
  have hh : (s.timing.rules.playHorn && !blanked) = true ↔ s.timing.rules.playHorn = true ∧ blanked = false := by simp
  unfold State.playExpire
  rw [hu]
  simp only [raise_timing, mapTiming_timing, hh]

/-- A break expiry at 0 changes nothing of the clock but that the break runs no more (R42). -/
theorem breakExpire_of_zero {s : State} (h : s.timing.brkValue = 0) :
    let u : State := (s.mapTiming fun t => { t with brkRunning := false }).raise .breakExpired
      (.breakExpired (s.timing.brkLength / 1000) s.timing.brkHorn)
    s.breakExpire = ((if s.timing.brkHorn = true then u.hornSounds .game else u).featureBreakExpiry).sendClock .breakEnd := by
  have ht : ({ s.timing with brkRunning := false, brkValue := 0 } : Timing) = { s.timing with brkRunning := false } := by rw [← h]
  have hu : (s.mapTiming fun t => { t with brkRunning := false, brkValue := 0 }) = s.mapTiming fun t => { t with brkRunning := false } :=
    congrArg (fun t => { s with timing := t }) ht
  unfold State.breakExpire
  rw [hu]
  rfl

/-! ## The log from an entry on (R66) -/

theorem headSeq_eq (log : List LogEntry) : headSeq log = (log.head?.map (·.seq)).getD 0 := by cases log <;> rfl

theorem findEntry_eq_none (seq : Nat) (log : List LogEntry) : findEntry seq log = none ↔ ∀ e ∈ log, e.seq ≠ seq := by
  simp [findEntry]

/-- What LOG_READ reports: at most 16 entries from the named one on, with what stands before and behind them. -/
theorem logFrom_split (start : Nat) (log : List LogEntry) (h : start = 0 ∨ ∃ e ∈ log, e.seq = start) :
    ∃ skipped rest, log = skipped ++ (logFrom start log).take 16 ++ rest ∧ (start = 0 → skipped = []) ∧
      (start ≠ 0 → (∀ e ∈ skipped, e.seq ≠ start) ∧ ((logFrom start log).take 16).head?.map (·.seq) = some start) ∧
      ((logFrom start log).take 16).length ≤ 16 ∧ (((logFrom start log).take 16).length < 16 → rest = []) := by
  refine ⟨if start = 0 then [] else log.takeWhile (·.seq != start), (logFrom start log).drop 16, ?_, fun h0 => if_pos h0,
    fun h0 => ?_, List.length_take_le 16 _, fun hl => ?_⟩
  · rw [List.append_assoc, List.take_append_drop]
    unfold logFrom
    split
    · rfl
    · exact List.takeWhile_append_dropWhile.symm
  · obtain ⟨e, he, hs⟩ := h.resolve_left h0
    have hne : log.dropWhile (·.seq != start) ≠ [] := fun hnil => by
      simpa [hs] using List.dropWhile_eq_nil_iff.mp hnil e he
    obtain ⟨x, xs, hx⟩ := List.exists_cons_of_ne_nil hne
    have hhead := List.head?_dropWhile_not (fun e : LogEntry => e.seq != start) log
    rw [if_neg h0, logFrom, if_neg h0, hx]
    rw [hx] at hhead
    refine ⟨fun y hy => ?_, by simpa using hhead⟩
    simpa using (List.mem_takeWhile_imp (p := fun e : LogEntry => e.seq != start) hy)
  · rw [List.length_take] at hl
    exact List.drop_eq_nil_of_le (by omega)

theorem logReadOwner_eq (start : Nat) (s : State) : logReadOwner start s =
    if start ≠ 0 ∧ findEntry start s.record.game.log = none then s.refuse .notFound
    else s.okWith (.logRead s.record.game.log.length (headSeq s.record.game.log) s.record.game.nextSeq
      ((logFrom start s.record.game.log).take 16)) := by
  simp only [logReadOwner, tests_cons, tests_nil, Bool.and_eq_true, bne_iff_ne, Option.isNone_iff_eq_none]

end Sys2Proof.Machine

namespace Sys2Proof

open Machine

/-- Settles O16. -/
theorem trimIsClamped : Obligations.TrimIsClamped := by
  intro h x s ha
  rw [exec_admitted (owner := trimOwner x) ha rfl (trimOwner_frame s x)]
  dsimp only
  rw [← clampTrim_eq]
  rfl

/-- Settles O20. -/
theorem playClockFollowsItsRecords : Obligations.PlayClockFollowsItsRecords := by
  refine ⟨fun h choice s ha => ?_, fun h on s ha => ?_, fun blanked rest s hd => ?_⟩
  · rw [exec_admitted (owner := playResetOwner choice) ha rfl (playResetOwner_frame s choice), playResetOwner_eq, not_playChoiceOk]
    by_cases hf : s.record.game.session = .final
    · simp only [if_pos hf]
      rfl
    · simp only [if_neg hf]
      cases choice with
      | value n => dsimp only; split <;> rfl
      | primary => rfl
      | secondary => rfl
  · rw [exec_admitted (owner := playEnableOwner on) ha rfl (playEnableOwner_frame s on), playEnableOwner_eq]
    split <;> rfl
  · have he : exec .playExpiry s = .next (s.perform fun e => e == .playExpiry true || e == .playExpiry false) := rfl
    rw [he, perform_front hd (by cases blanked <;> decide)]
    show Host.Outcome.next (if s.timing.play = 0 then _ else _) = _
    split
    · next h0 =>
      rw [playExpire_of_zero (by exact h0)]
      rfl
    · rfl

/-- Settles O21. -/
theorem breakTimerAndHornsRun : Obligations.BreakTimerAndHornsRun := by
  refine ⟨⟨fun h seconds hornFlag s ha => ?_, fun h s ha => ?_, fun rest s hd => ?_⟩, fun h which d s ha => ?_,
    fun rest s => ⟨fun hd => ?_, fun hd => ?_⟩⟩
  · rw [exec_admitted (owner := breakStartOwner seconds hornFlag) ha rfl (breakStartOwner_frame s seconds hornFlag),
      breakStartOwner_eq]
    split
    · rfl
    · split
      · rfl
      · split <;> rfl
  · rw [exec_admitted (owner := breakCancelOwner) ha rfl (breakCancelOwner_frame s), breakCancelOwner_eq]
    split
    · rfl
    · split <;> rfl
  · have he : exec .breakExpiry s = .next (s.perform fun e => e == .breakExpiry) := rfl
    rw [he, perform_front hd (by decide)]
    show Host.Outcome.next (if s.timing.brkRunning = true ∧ s.timing.brkValue = 0 then _ else _) = _
    split
    · next hb =>
      rw [breakExpire_of_zero (by exact hb.2)]
      rfl
    · rfl
  · rw [exec_admitted (owner := hornOwner which d) ha rfl (hornOwner_frame s which d), hornOwner_eq]
    split
    · rfl
    · cases which <;> rfl
  · have he : exec (.hornEnd .game) s = .next (s.perform fun e => e == .hornEnd .game) := rfl
    rw [he, perform_front hd (by decide)]
    simp only [State.runDue, Timing.hornEnds, State.mapTiming]
    split <;> rfl
  · have he : exec (.hornEnd .play) s = .next (s.perform fun e => e == .hornEnd .play) := rfl
    rw [he, perform_front hd (by decide)]
    simp only [State.runDue, Timing.hornEnds, State.mapTiming]
    split <;> rfl

/-- Settles O59. -/
theorem gameReadsReportWhatStands : Obligations.GameReadsReportWhatStands := by
  refine ⟨fun h s ha => ?_, ⟨fun h s ha => ?_, fun h start s ha => ?_⟩, fun h s ha => ?_⟩
  · refine ⟨s.clockReading, exec_admitted (owner := clockReadOwner) ha rfl (.refl [] s), ⟨rfl, rfl, rfl, rfl, rfl, rfl, rfl, rfl,
      rfl, rfl, rfl, rfl, ?_, ?_, rfl, rfl, rfl⟩, ?_, ?_, ?_⟩
    · simp [State.clockReading, Timing.playRuns, Bool.beq_eq_decide_eq, Bool.and_assoc]
    · simp [State.clockReading, Timing.blanked, Bool.beq_eq_decide_eq]
    · rfl
    · simp [State.clockReading, Timing.playText, Timing.blanked, ceilQuot]
    · rfl
  · exact exec_admitted (owner := recordReadOwner) ha rfl (.refl [] s)
  · have he := exec_admitted (c := .logRead h start) ha rfl (logReadOwner_frame s start)
    rw [logReadOwner_eq] at he
    refine ⟨fun h0 hn => ?_, fun hs => ?_⟩
    · rw [if_pos ⟨h0, (findEntry_eq_none _ _).mpr hn⟩] at he
      exact he
    · rw [if_neg fun hn => ?_, headSeq_eq] at he
      · obtain ⟨skipped, rest, hl, h1, h2, h3, h4⟩ := logFrom_split start s.record.game.log hs
        exact ⟨skipped, _, rest, hl, he, h1, h2, h3, h4⟩
      · obtain ⟨e, he, hseq⟩ := hs.resolve_left hn.1
        exact (findEntry_eq_none _ _).mp hn.2 e he hseq
  · exact exec_admitted (owner := twinStatusOwner) ha rfl (.refl [] s)

end Sys2Proof
end

section
namespace Sys2Proof.Machine

set_option Elab.async false

/-! ## One end, owner by owner (R114) -/

section
variable {s : State} {o : Outcome} {zone level : Nat}

theorem endOne_of_none (h : s.standsAt zone level = none) : s.endOne o zone level = s := by
  unfold State.standsAt at h
  unfold State.endOne
  rw [h]

/-- The state once a level has left its zone and its end is reported, before its owner is told (steps 1 and 2 of R114). -/
def State.endTold (o : Outcome) (zone level : Nat) (stage : Stage) (frames : Nat) (s : State) : State :=
  (s.mapArb zone (ZoneArb.remove level)).raise .takeoverEnded (.takeoverEnded zone level o stage frames)

theorem endOne_of_some {stage : Stage} {frames : Nat} (h : s.standsAt zone level = some (stage, frames)) :
    s.endOne o zone level = (s.endTold o zone level stage frames).tellOwner zone level o := by
  unfold State.standsAt at h
  unfold State.endOne
  rw [h]
  rfl

theorem tellOwner_one (o : Outcome) (zone : Nat) (s : State) :
    s.tellOwner zone 1 o = s.mapTiming (Timing.levelEnded zone) := rfl

theorem levelEnded_eq (zone : Nat) (t : Timing) :
    let out := t.outstanding.filter (· != zone)
    t.levelEnded zone =
      { t with
        outstanding := out
        phase := if out = [] ∧ (t.phase = .countdown ∨ t.phase = .periodEnd) then .spent else t.phase } := by
  simp only [Timing.levelEnded, Phase.spend, List.isEmpty_iff]

theorem tellOwner_channel (o : Outcome) (zone : Nat) (ch : Channel) (s : State) :
    s.tellOwner zone (channelLevel ch) o = s.channelEnded ch zone o := by cases ch <;> rfl

/-- A channel is told nothing of a release or an expiry of its level, nor of one that its head entry does not hold (R158). -/
theorem channelEnded_quiet {ch : Channel} (h : entryOutcome o = none ∨ ¬(s.chan ch).onAir = true ∨
    ∀ e ∈ (s.chan ch).cues.head?, e.fields.zone ≠ zone) : s.channelEnded ch zone o = s := by
  unfold State.channelEnded
  cases ho : entryOutcome o with
  | none => rfl
  | some why =>
    refine if_neg fun ⟨hair, hin⟩ => ?_
    rcases h with h | h | h
    · rw [ho] at h
      cases h
    · exact h hair
    · obtain ⟨e, he, hz⟩ := (Option.any_eq_true ..).mp hin
      exact h e he (by simpa using hz)

theorem channelEnded_of_head {ch : Channel} {why : CueOutcome} {e : Cue} {rest : List Cue} (ho : entryOutcome o = some why)
    (hair : (s.chan ch).onAir = true) (he : (s.chan ch).cues = e :: rest) (hz : e.fields.zone = zone) :
    s.channelEnded ch zone o = s.endEntry ch why := by
  unfold State.channelEnded
  rw [ho]
  exact if_pos ⟨hair, by simp [Chan.headIn, he, hz]⟩

end

/-! ## A head entry that the arbiter ends (R158) -/

/-- What the end of the head entry `e` makes of a channel whose list is `e :: rest` (R149, R150, R158). -/
structure EntryEnded (ch : Channel) (why : CueOutcome) (e : Cue) (rest : List Cue) (s t : State) : Prop where
  cues : (t.chan ch).cues = rest
  state : (t.chan ch).state = placedState rest
  follow : if why = .restart then t.reader (channelReader ch) = none else ReadersFollow (s.detached ch) t
  links : ∀ link, t.link link = (s.link link).occurs
    ((if why = .restart then [] else warnings (s.detached ch) t) ++
      [(.channelState, .channelState ch e.number e.fields.clip why (s.chan ch).pos (s.chan ch).passes (s.chan ch).shown
        (t.chan ch).state)])

/-- At RESTART the next entry is placed and attaches no reader (log 10). -/
theorem cutCues_tail (s : State) (ch : Channel) {e : Cue} {rest : List Cue} (he : (s.chan ch).cues = e :: rest) :
    ((s.cutCues ch List.tail).chan ch).cues = rest ∧ ((s.cutCues ch List.tail).chan ch).state = placedState rest ∧
      (s.cutCues ch List.tail).reader (channelReader ch) = none := by
  unfold State.cutCues
  rw [chan_setReader, placeHead_chan, chan_mapChan_same, he]
  exact ⟨rfl, rfl, reader_setReader_same _ _ _⟩

theorem endEntry_ended {s : State} {ch : Channel} (why : CueOutcome) {e : Cue} {rest : List Cue}
    (he : (s.chan ch).cues = e :: rest) : EntryEnded ch why e rest s (s.endEntry ch why) := by
  unfold State.endEntry State.raiseChannel
  rw [he]
  dsimp only
  by_cases hw : why = .restart
  · simp only [hw, if_true]
    obtain ⟨hc, hs, hr⟩ := cutCues_tail s ch he
    have hl := (cutCues_reports s ch List.tail).link
    generalize s.cutCues ch List.tail = v at hc hs hr hl
    refine ⟨hc, hs, ?_, fun link => ?_⟩
    · rw [if_pos rfl]
      exact hr
    · rw [raise_link, hl, if_pos rfl]
      rfl
  · simp only [if_neg hw]
    have hp := popHead_popped s ch
    generalize s.popHead ch = v at hp
    have htail : (s.chan ch).cues.tail = rest := by rw [he, List.tail_cons]
    generalize hd : Detail.channelState ch e.number e.fields.clip why (s.chan ch).pos (s.chan ch).passes (s.chan ch).shown
      (v.chan ch).state = d
    have hf := raise_frame v .channelState d
    have hchan : (v.raise .channelState d).chan = v.chan := rfl
    refine ⟨?_, ?_, ?_, fun link => ?_⟩
    · rw [hchan, hp.own, htail]
    · rw [hchan, hp.own, htail]
    · rw [if_neg hw]
      exact hp.follow.congr rfl (funext fun name => hf.reader name) (reads_congr (.of_frame hf)) fun n => hf.ring n
    · have hpr := hp.reports.link link
      rw [List.nil_append] at hpr
      rw [if_neg hw, hchan, hd, warnings_congr rfl (reads_congr (SameReads.of_frame hf)) fun n => hf.ring n, occurs_append, ← hpr]
      exact raise_link v _ d link

/-! ## The ends of one event, as they are reported (R114) -/

/-- The kinds that ends bring with them, but for TAKEOVER_ENDED itself. -/
def endBeside : List Cond := [.messageDone, .channelState, .nearOvertake]

/-- The report of the end of one level of a zone, where it stands (R114). -/
def State.endReport (o : Outcome) (s : State) (i : Nat × Nat) : Option Detail :=
  (s.standsAt i.1 i.2).map fun stood => .takeoverEnded i.1 i.2 o stood.1 stood.2

section
variable (s : State)

theorem tellOwner_stands (zone level : Nat) (o : Outcome) : (s.tellOwner zone level o).canvas.zones = s.canvas.zones := by
  unfold State.tellOwner
  split
  · rfl
  · rfl
  · exact (channelEnded_frame s _ _ _).zones
  · exact (channelEnded_frame s _ _ _).zones
  · rfl
  · rfl
  · rfl

theorem standing_of_levelEq {a b : ZoneArb} {l : Nat} (h : b.level l = a.level l) : b.standing l = a.standing l := by
  simp only [ZoneArb.level, Prod.mk.injEq] at h
  obtain ⟨hp, hs, -⟩ := h
  unfold ZoneArb.standing
  rw [hp, hs]

/-- The end of one level leaves every other level and every other zone as they stand (R114). -/
theorem endOne_standsAt_other (o : Outcome) {i j : Nat × Nat} (h : j ≠ i) :
    (s.endOne o i.1 i.2).standsAt j.1 j.2 = s.standsAt j.1 j.2 := by
  cases hst : s.standsAt i.1 i.2 with
  | none => rw [endOne_of_none hst]
  | some k =>
    rw [endOne_of_some (stage := k.1) (frames := k.2) hst, standsAt_of_zones (tellOwner_stands _ _ _ _)]
    show ((s.mapArb i.1 (ZoneArb.remove i.2)).zone? j.1).bind (·.arb.standing j.2) = (s.zone? j.1).bind (·.arb.standing j.2)
    rw [zone_mapArb]
    cases s.zone? j.1 with
    | none => rfl
    | some z =>
      by_cases hz : j.1 = i.1
      · have hl : j.2 ≠ i.2 := fun hl => h (Prod.ext hz hl)
        simpa [hz] using standing_of_levelEq (by rw [level_remove, if_neg hl])
      · simp [hz]

theorem channelEnded_beside (ch : Channel) (zone : Nat) (o : Outcome) : Reports endBeside s (s.channelEnded ch zone o) [] := by
  unfold State.channelEnded
  split
  · split
    · exact (endEntry_reports s ch _).mono (by split <;> decide)
    · exact .refl _ s
  · exact .refl _ s

theorem tellOwner_beside (zone level : Nat) (o : Outcome) : Reports endBeside s (s.tellOwner zone level o) [] := by
  unfold State.tellOwner
  split
  · exact .of_links rfl rfl
  · exact .of_links rfl rfl
  · exact channelEnded_beside s _ _ _
  · exact channelEnded_beside s _ _ _
  · exact .of_links rfl rfl
  · exact .of_links rfl rfl
  · exact .refl _ s

theorem endOne_told (o : Outcome) (i : Nat × Nat) :
    Reports endBeside s (s.endOne o i.1 i.2) ((s.endReport o i).toList.map fun d => (.takeoverEnded, d)) := by
  unfold State.endReport
  cases h : s.standsAt i.1 i.2 with
  | none =>
    rw [endOne_of_none h]
    exact .refl _ s
  | some k =>
    rw [endOne_of_some (stage := k.1) (frames := k.2) h]
    exact ((Reports.of_links rfl rfl).next (.raise (by rfl) (s.mapArb i.1 _) _)).quiet (tellOwner_beside _ _ _ _)

/-- One event reports each end that it makes, in order (R114). -/
theorem endEach_told (o : Outcome) (items : List (Nat × Nat)) (hn : items.Nodup) :
    Reports endBeside s (s.endEach o items) ((items.filterMap (s.endReport o)).map fun d => (.takeoverEnded, d)) := by
  induction items generalizing s with
  | nil => exact .refl _ s
  | cons i items ih =>
    obtain ⟨hi, hn⟩ := List.nodup_cons.mp hn
    have hrest : items.filterMap ((s.endOne o i.1 i.2).endReport o) = items.filterMap (s.endReport o) :=
      List.filterMap_congr fun j hj => by
        unfold State.endReport
        rw [endOne_standsAt_other s o fun (hji : j = i) => hi (hji ▸ hj)]
    have h := (endOne_told s o i).next (ih (s.endOne o i.1 i.2) hn)
    rw [hrest, ← List.map_append] at h
    rw [List.filterMap_cons]
    cases hr : s.endReport o i <;> rw [hr] at h <;> exact h

theorem endAll_told (o : Outcome) (items : List (Nat × Nat)) (hn : items.Nodup) :
    Reports endBeside s (s.endAll o items) ((items.filterMap (s.endReport o)).map fun d => (.takeoverEnded, d)) :=
  ((endEach_told s o items hn).quiet (evaluateAll_reports _ _)).quiet (followUps_reports _)

theorem detailsOf_kind_map (c : Cond) (ds : List Detail) : detailsOf c (ds.map fun d => (c, d)) = ds := by
  rw [detailsOf_of_kind fun e he => by obtain ⟨d, -, rfl⟩ := List.mem_map.mp he; rfl, List.map_map]
  exact List.map_id' ds

end

/-! ## The takeovers of a zone that have no frame left (R113) -/

/-- Among zones of distinct ids, what one id gives is what the zone found by it gives. -/
theorem flatMap_one_zone {α : Type} (zone : Nat) (g : Zone → List α) (zs : List Zone)
    (h : (zs.map (·.spec.id)).Pairwise (· < ·)) :
    (zs.flatMap fun z => if z.spec.id = zone then g z else []) = ((zs.find? (·.spec.id == zone)).map g).getD [] := by
  induction zs with
  | nil => rfl
  | cons z zs ih =>
    rw [List.map_cons, List.pairwise_cons] at h
    rw [List.flatMap_cons]
    by_cases hz : z.spec.id = zone
    · have hrest : (zs.flatMap fun y => if y.spec.id = zone then g y else []) = [] := by
        rw [List.flatMap_eq_nil_iff]
        intro y hy
        have hlt := h.1 y.spec.id (List.mem_map_of_mem hy)
        exact if_neg (by omega)
      rw [if_pos hz, hrest, List.find?_cons_of_pos (by simpa using hz)]
      simp
    · rw [if_neg hz, List.find?_cons_of_neg (by simpa using hz), ← ih h.2]
      rfl

theorem serviceItems_zone {s : State} (hw : s.zonesWf) (zone : Nat) (p : InService → Bool) :
    (s.serviceItems fun z t => z.spec.id == zone && p t) =
      ((s.zone? zone).map fun z => (z.arb.service.filter p).map fun t => (zone, t.level)).getD [] := by
  rw [State.zone?, ← flatMap_one_zone zone _ _ hw.ids]
  refine List.flatMap_congr fun z _ => ?_
  by_cases hz : z.spec.id = zone
  · simp [hz]
  · simp [hz]

end Sys2Proof.Machine

namespace Sys2Proof

open Machine

/-- Settles O40. -/
theorem endsAreReportedToTheirOwners : Obligations.EndsAreReportedToTheirOwners := by
  refine ⟨fun o zone level s => ⟨endOne_of_none, fun stage frames hst => ?_⟩, fun o items s => ⟨?_, fun hw hn => ?_⟩,
    fun zone rest s hd hw => ?_⟩
  · have he := endOne_of_some (o := o) hst
    refine ⟨he, endOne_ends s o zone level, ?_⟩
    dsimp only
    rw [he]
    refine ⟨?_, ?_, ?_, ?_, ?_, fun ch hl => ?_⟩
    · rintro (rfl | rfl) <;> rfl
    · rintro rfl
      rw [tellOwner_one, State.mapTiming, levelEnded_eq]
      rfl
    · rintro rfl
      rfl
    · rintro rfl
      rfl
    · rintro rfl
      rfl
    · subst hl
      rw [tellOwner_channel]
      refine ⟨fun hq => ?_, fun e rest hcues hon hz why hwhy => ?_⟩
      · refine channelEnded_quiet ?_
        rcases hq with rfl | rfl | hn | hn
        · exact .inl rfl
        · exact .inl rfl
        · exact .inr (.inl (mt (onAir_iff _).mp hn))
        · exact .inr (.inr hn)
      · have hair : (s.chan ch).onAir = true := (onAir_iff _).mpr hon
        have hwhy' : entryOutcome o = some why := by
          rcases hwhy with ⟨rfl, rfl⟩ | ⟨rfl, rfl⟩ | ⟨rfl, rfl⟩ | ⟨rfl, rfl⟩ <;> rfl
        have hr : o = .restart ↔ why = .restart := by
          rcases hwhy with ⟨rfl, rfl⟩ | ⟨rfl, rfl⟩ | ⟨rfl, rfl⟩ | ⟨rfl, rfl⟩ <;> decide
        rw [channelEnded_of_head hwhy' (by exact hair) (by exact hcues) hz]
        have k := endEntry_ended (s := s.endTold o zone (channelLevel ch) stage frames) why hcues
        have hf := endEntry_frame (s.endTold o zone (channelLevel ch) stage frames) ch why
        have hdet : (s.detached ch).reader = ((s.endTold o zone (channelLevel ch) stage frames).detached ch).reader := by
          funext name
          rw [detached_reader, detached_reader]
          rfl
        simp only [hr]
        generalize State.endEntry ch why _ = t at k hf
        refine ⟨k.cues, k.state, ?_, fun link => ?_, hf⟩
        · have hk := k.follow
          split at hk
          · next hw =>
            rw [if_pos hw]
            exact hk
          · next hw =>
            rw [if_neg hw]
            exact hk.congr hdet rfl rfl fun _ => rfl
        · rw [warnings_congr hdet rfl fun _ => rfl]
          exact k.links link
  · unfold State.endAll State.evaluateAll
    rw [List.foldl_map]
    rfl
  · have h := (endAll_told s o items hn).gains hw (c := .takeoverEnded)
    rwa [detailsOf_kind_map] at h
  · have he : exec (.takeoverExpiry zone) s = .next (s.perform fun e => e == .takeoverExpiry zone) := rfl
    have hi := serviceItems_zone (s := { s with due := rest }) ⟨hw.ids, hw.small, hw.arb, hw.awaiting⟩ zone
      fun k => k.remaining == some 0
    have hz : ({ s with due := rest } : State).zone? zone = s.zone? zone := rfl
    rw [hz] at hi
    rw [he, perform_front hd (by simp)]
    show Host.Outcome.next (State.expireZone zone { s with due := rest }) = _
    unfold State.expireZone State.expireTakeovers
    rw [hi]
    cases s.zone? zone with
    | none => rfl
    | some z =>
      dsimp only [Option.map_some, Option.getD_some]
      simp only [List.isEmpty_iff]

end Sys2Proof
end

section
namespace Sys2Proof.Machine

set_option Elab.async false

/-! ## One request reaches its own zone alone (R104 to R106) -/

section
variable {s : State} {zone k : Nat}

theorem mapArb_zone_other (h : k ≠ zone) (f : ZoneArb → ZoneArb) : (s.mapArb zone f).zone? k = s.zone? k := by
  rw [zone_mapArb]
  cases s.zone? k <;> simp [h]

theorem mapArb_zone_same {z : Zone} (hz : s.zone? zone = some z) (f : ZoneArb → ZoneArb) :
    (s.mapArb zone f).zone? zone = some { z with arb := f z.arb } := by
  rw [zone_mapArb, hz]
  simp

theorem evaluate_zone_other (h : k ≠ zone) : (s.evaluate zone).zone? k = s.zone? k := by
  unfold State.evaluate
  split
  · rw [zone_of_canvas (noteGrant_frame _ _ _).zones, mapArb_zone_other h]
  · rfl

theorem request_zone_other (h : k ≠ zone) (r : Request) (b : Bool) : (s.request zone r b).1.zone? k = s.zone? k := by
  have he : ((s.mapArb zone (ZoneArb.record r)).evaluate zone).zone? k = s.zone? k :=
    (evaluate_zone_other h).trans (mapArb_zone_other h _)
  unfold State.request
  split
  · rfl
  · split
    · split
      · exact mapArb_zone_other h _
      · rfl
    · split
      · split
        · exact he
        · rfl
      · dsimp only
        split <;> exact he

/-- A request stands at its level, granted with its first frame, or pending. -/
def ZoneArb.Holds (r : Request) (frame : Nat) (a : ZoneArb) : Prop :=
  a.serviceAt r.level = some ⟨r.level, r.content, r.frames, frame, 0, r.credit, 0⟩ ∨
    ∃ q, a.pendingAt r.level = some q ∧ q.content = r.content ∧ q.frames = r.frames ∧ q.credit = r.credit

/-- A request that is recorded stands after its zone's evaluation (R104, R108, R110). -/
theorem record_evaluate_holds {z : Zone} (hz : s.zone? zone = some z) (r : Request) :
    ∃ y, ((s.mapArb zone (ZoneArb.record r)).evaluate zone).zone? zone = some y ∧ y.arb.Holds r (s.canvas.frame + 1) := by
  have hrec := level_record z.arb r.level r
  rw [if_pos rfl] at hrec
  obtain ⟨y, hy, hk⟩ := (evaluate_zoneWise (levelKept_rule r.level) (s.mapArb zone (ZoneArb.record r)) zone).zone
    (mapArb_zone_same hz _)
  simp only [ZoneArb.level, Prod.mk.injEq] at hrec
  obtain ⟨hp, -⟩ := hrec
  refine ⟨y, hy, ?_⟩
  rcases hk with hk | ⟨q, hq, hk⟩
  · simp only [ZoneArb.level, Prod.mk.injEq] at hk
    exact .inr ⟨_, hk.1.trans hp, rfl, rfl, rfl⟩
  · obtain rfl := Option.some.inj (hp.symm.trans hq)
    simp only [ZoneArb.level, Prod.mk.injEq] at hk
    exact .inl hk.2.1

/-- A request at a level that nothing holds is recorded, its zone evaluated, and the zone joins (R104). -/
theorem request_of_free {z : Zone} (hz : s.zone? zone = some z) {r : Request} (hn : s.standsAt zone r.level = none) (b : Bool) :
    (s.request zone r b).1 = (s.mapArb zone (ZoneArb.record r)).evaluate zone ∧ (s.request zone r b).2.joins = true := by
  obtain ⟨hp, hs⟩ := (standing_eq_none _ _).mp (show z.arb.standing r.level = none by simpa [State.standsAt, hz] using hn)
  unfold State.request
  rw [hz]
  simp only [hp, hs, Option.isSome_none, Bool.false_eq_true, if_false]
  split <;> exact ⟨rfl, rfl⟩

/-- A plain request at a level that stands changes nothing, and its zone does not join (R105). -/
theorem request_of_standing {r : Request} (h : (s.standsAt zone r.level).isSome = true) :
    (s.request zone r false).1 = s ∧ (s.request zone r false).2.joins = false := by
  cases hz : s.zone? zone with
  | none => simp [State.standsAt, hz] at h
  | some z =>
    have hst := (standing_isSome z.arb r.level).mp (by simpa [State.standsAt, hz] using h)
    unfold State.request
    rw [hz]
    dsimp only
    by_cases hs : (z.arb.serviceAt r.level).isSome = true
    · rw [if_pos hs]
      exact ⟨rfl, rfl⟩
    · rw [if_neg hs, if_pos (hst.resolve_right hs)]
      exact ⟨rfl, rfl⟩

end

/-! ## Plain requests in several zones -/

theorem standsAt_of_zone {s t : State} {k : Nat} (h : t.zone? k = s.zone? k) (level : Nat) :
    t.standsAt k level = s.standsAt k level := by
  unfold State.standsAt
  rw [h]

/-- Plain requests in distinct zones: those where the level does not stand join, and hold the request; every other zone stands
(R104, R105). -/
theorem requestAll_plain (r : Request) (zones : List Nat) (s : State) (hn : zones.Nodup)
    (hz : ∀ k ∈ zones, (s.zone? k).isSome = true) :
    let free := zones.filter fun k => (s.standsAt k r.level).isNone
    let t := (s.requestAll r false zones).1
    (s.requestAll r false zones).2 = free ∧ (∀ k, k ∉ free → t.zone? k = s.zone? k) ∧
      ∀ k ∈ free, ∃ y, t.zone? k = some y ∧ y.arb.Holds r (s.canvas.frame + 1) := by
  induction zones generalizing s with
  | nil => exact ⟨rfl, fun _ _ => rfl, nofun⟩
  | cons z zones ih =>
    obtain ⟨hm, hn⟩ := List.nodup_cons.mp hn
    have hother (k : Nat) (hk : k ≠ z) := request_zone_other (s := s) hk r false
    have hframe : (s.request z r false).1.canvas.frame = s.canvas.frame := (request_frame s z r false).canvasFrame
    have hne (k : Nat) (hk : k ∈ zones) : k ≠ z := fun he => hm (he ▸ hk)
    have hfree : (zones.filter fun k => ((s.request z r false).1.standsAt k r.level).isNone) =
        zones.filter fun k => (s.standsAt k r.level).isNone :=
      List.filter_congr fun k hk => by rw [standsAt_of_zone (hother k (hne k hk))]
    obtain ⟨i1, i2, i3⟩ := ih (s.request z r false).1 hn fun k hk => by
      rw [hother k (hne k hk)]
      exact hz k (by simp [hk])
    simp only [hfree, hframe] at i1 i2 i3
    have hzfree : z ∉ zones.filter fun k => (s.standsAt k r.level).isNone := fun h => hm (List.mem_of_mem_filter h)
    rw [requestAll_cons]
    dsimp only
    cases hs : s.standsAt z r.level with
    | none =>
      obtain ⟨y, hy⟩ := Option.isSome_iff_exists.mp (hz z (by simp))
      obtain ⟨he, hj⟩ := request_of_free hy hs false
      rw [List.filter_cons_of_pos (by simp [hs]), hj, i1]
      refine ⟨rfl, fun k hk => ?_, fun k hk => ?_⟩
      · simp only [List.mem_cons, not_or] at hk
        rw [i2 k hk.2, hother k hk.1]
      · rcases List.mem_cons.mp hk with rfl | hk
        · rw [i2 _ hzfree, he]
          exact record_evaluate_holds hy r
        · exact i3 k hk
    | some x =>
      obtain ⟨he, hj⟩ := request_of_standing (s := s) (zone := z) (r := r) (by rw [hs]; rfl)
      rw [List.filter_cons_of_neg (by simp [hs]), hj, i1]
      refine ⟨rfl, fun k hk => ?_, i3⟩
      rw [i2 k hk, he]

/-! ## Level-1 requests in the countdown zones (R45 to R47) -/

/-- The zones stand in ascending id. -/
def State.idsAscend (s : State) : Prop := (s.canvas.zones.map (·.spec.id)).Pairwise (· < ·)

/-- The countdown zones in which level 1 does not stand (R45). -/
def State.freeTakers (s : State) : List Nat := s.countdownZones.filter fun zone => (s.standsAt zone 1).isNone

theorem countdownZones_nodup {s : State} (h : s.idsAscend) : s.countdownZones.Nodup :=
  ((h.imp (fun hlt => Nat.ne_of_lt hlt) : List.Nodup _).sublist (List.filter_sublist.map _) : List.Nodup _)

theorem countdownZones_found {s : State} {k : Nat} (h : k ∈ s.countdownZones) : (s.zone? k).isSome = true := by
  obtain ⟨z, hz, rfl⟩ := List.mem_map.mp h
  exact List.find?_isSome.mpr ⟨z, List.mem_of_mem_filter hz, by simp⟩

/-- What a level-1 request in every countdown zone makes (R45, R46). -/
theorem requestLevelOne_spec {s : State} (h : s.idsAscend) (asset : Nat) (frames : Option Nat) (phase : Phase) :
    let t := s.requestLevelOne asset frames phase
    t.timing =
      { s.timing with outstanding := s.freeTakers, phase := if s.freeTakers = [] then .spent else phase } ∧
    (∀ k, k ∉ s.freeTakers → t.zone? k = s.zone? k) ∧
      ∀ k ∈ s.freeTakers, ∃ y, t.zone? k = some y ∧ y.arb.Holds ⟨1, .asset asset, frames, none⟩ (s.canvas.frame + 1) := by
  obtain ⟨h1, h2, h3⟩ := requestAll_plain ⟨1, .asset asset, frames, none⟩ s.countdownZones s (countdownZones_nodup h)
    fun k hk => countdownZones_found hk
  refine ⟨?_, h2, h3⟩
  unfold State.requestLevelOne
  dsimp only
  rw [h1, mapTiming_timing, (requestAll_frame s _ _ _).timing]
  simp only [List.isEmpty_iff]
  rfl

/-! ## What ends leave of zones and levels -/

theorem MasksKept.map_spec {s t : State} (h : MasksKept s t) {β : Type} (g : ZoneSpec → β) :
    (t.canvas.zones.map fun z => g z.spec) = s.canvas.zones.map fun z => g z.spec := by
  have hm := congrArg (List.map fun p : ZoneSpec × List Nat => g p.1) h
  rwa [List.map_map, List.map_map] at hm

theorem MasksKept.idsAscend {s t : State} (h : MasksKept s t) (hs : s.idsAscend) : t.idsAscend := by
  unfold State.idsAscend
  rw [h.map_spec (·.id)]
  exact hs

theorem countdownZones_eq (s : State) :
    s.countdownZones = ((s.canvas.zones.map (·.spec)).filter (·.attrs.countdown)).map (·.id) := by
  rw [List.filter_map, List.map_map]
  rfl

theorem MasksKept.countdownZones {s t : State} (h : MasksKept s t) : t.countdownZones = s.countdownZones := by
  rw [countdownZones_eq, countdownZones_eq]
  exact congrArg (fun l : List ZoneSpec => (l.filter (·.attrs.countdown)).map (·.id)) (h.map_spec fun n => n)

theorem endEach_standsAt_other (o : Outcome) (items : List (Nat × Nat)) (s : State) {j : Nat × Nat} (h : j ∉ items) :
    (s.endEach o items).standsAt j.1 j.2 = s.standsAt j.1 j.2 := by
  induction items generalizing s with
  | nil => rfl
  | cons i items ih =>
    rw [List.mem_cons, not_or] at h
    exact (ih _ h.2).trans (endOne_standsAt_other s o h.1)

theorem LevelKept.isSome {l f : Nat} {a b : ZoneArb} (h : LevelKept l f a b) :
    (b.standing l).isSome = (a.standing l).isSome := by
  rcases h with h | ⟨r, hr, h⟩
  · rw [standing_of_levelEq h]
  · simp only [ZoneArb.level, Prod.mk.injEq] at h
    rw [(standing_isSome a l).mpr (.inl (by rw [hr]; rfl)), (standing_isSome b l).mpr (.inr (by rw [h.2.1]; rfl))]

theorem ZoneWise.standsAt_isSome {l : Nat} {s t : State} (h : ZoneWise (LevelKept l) s t) (zone : Nat) :
    (t.standsAt zone l).isSome = (s.standsAt zone l).isSome := by
  have hz := h.zones zone
  unfold State.standsAt
  cases hs : s.zone? zone with
  | none =>
    cases ht : t.zone? zone with
    | none => rfl
    | some y => rw [hs, ht] at hz; exact hz.elim
  | some z =>
    cases ht : t.zone? zone with
    | none => rw [hs, ht] at hz; exact hz.elim
    | some y =>
      rw [hs, ht] at hz
      exact LevelKept.isSome hz.2

/-- A level that one event does not end, and that no owner requests in answer, stands where it stood (R114). -/
theorem endAll_standsAt_isSome (s : State) (o : Outcome) (items : List (Nat × Nat)) {zone l : Nat} (h : (zone, l) ∉ items)
    (h5 : l ≠ 5) (h6 : l ≠ 6) : ((s.endAll o items).standsAt zone l).isSome = (s.standsAt zone l).isSome := by
  have hR := levelKept_rule l
  have hk := (evaluateAll_zoneWise hR (s.endEach o items) (items.map (·.1))).trans hR
    (followUps_zoneWise hR (fun f a r hr => levelKept_record (by omega) f a) _)
  exact (hk.standsAt_isSome zone).trans (congrArg Option.isSome (endEach_standsAt_other o items s (j := (zone, l)) h))

theorem releaseLevelOne_masks (s : State) (phase : Phase) : MasksKept s (s.releaseLevelOne phase) :=
  (masksKept_walk .released).endAll s _

/-- A release of the outstanding zones leaves level 1 where it stood in every other zone (R46). -/
theorem releaseLevelOne_other (s : State) (phase : Phase) {zone : Nat} (h : zone ∉ s.timing.outstanding) :
    ((s.releaseLevelOne phase).standsAt zone 1).isSome = (s.standsAt zone 1).isSome :=
  endAll_standsAt_isSome s .released _ (by simpa using h) (by decide) (by decide)

/-! ## The countdown check (R45, R47) -/

theorem requestCountdown_of_asset {s : State} {a : Nat} (h : s.timing.rules.countdownAsset = some a) :
    s.requestCountdown = s.requestLevelOne a none .countdown := by
  unfold State.requestCountdown
  rw [h]

/-- The countdown zones in which a request of R45 is made in the phase given. -/
def State.countdownJoins (phase : Phase) (s : State) : List Nat :=
  s.countdownZones.filter fun zone =>
    (s.standsAt zone 1).isNone || (phase == .periodEnd && s.timing.outstanding.contains zone)

theorem countdownJoins_idle (s : State) : s.countdownJoins .idle = s.freeTakers :=
  List.filter_congr fun _ _ => by simp

theorem countdownJoins_periodEnd (s : State) : (s.releaseLevelOne .idle).freeTakers = s.countdownJoins .periodEnd := by
  unfold State.freeTakers State.countdownJoins
  rw [(releaseLevelOne_masks s .idle).countdownZones]
  refine List.filter_congr fun zone _ => ?_
  by_cases hz : zone ∈ s.timing.outstanding
  · simp [releaseLevelOne_ends s .idle hz, hz]
  · have h := releaseLevelOne_other s .idle hz
    rw [← Option.not_isSome, h]
    simp [hz]

/-- What the level-1 sends of an event that found the countdown conditions make of its state (R45, R47). -/
theorem sendCountdown_checked (s : State) {asks : Bool} (ha : asks = true → s.timing.rules.countdownAsset ≠ none) :
    CountdownChecked asks s.timing.phase s (s.sendCountdown asks) := by
  refine ⟨fun hq => ?_, fun has hp hw => ?_⟩
  · rcases sendCountdown_cases s asks with ⟨h1, h2, -⟩ | ⟨h1, h2, -⟩ | ⟨-, h⟩
    · simp [h1, h2] at hq
    · simp [h1, h2] at hq
    · rw [h]
      exact ⟨rfl, rfl, rfl⟩
  · obtain ⟨a, hasset⟩ := Option.ne_none_iff_exists'.mp (ha has)
    subst has
    have hids : s.idsAscend := hw.ids
    rcases hp with hp | hp
    · have he : s.sendCountdown true = s.requestLevelOne a none .countdown := by
        rw [← requestCountdown_of_asset hasset]
        simp [State.sendCountdown, hp]
      obtain ⟨h1, h2, h3⟩ := requestLevelOne_spec hids a none .countdown
      rw [he, hp]
      show _ = s.countdownJoins .idle ∧ _ = (if s.countdownJoins .idle = [] then Phase.spent else .countdown) ∧
        (_ → ∀ z ∈ s.canvas.zones, z.spec.id ∉ s.countdownJoins .idle → _) ∧
        (_ → ∀ zone ∈ s.timing.outstanding, zone ∉ s.countdownJoins .idle → _) ∧
        ∀ b ∈ s.timing.rules.countdownAsset, ∀ zone ∈ s.countdownJoins .idle, _
      rw [countdownJoins_idle, h1]
      refine ⟨rfl, rfl, fun _ z hz hn => ?_, nofun, fun b hb zone hz => ?_⟩
      · rw [h2 _ hn, zone_of_zonesWf hw hz]
      · obtain rfl := Option.some.inj (hasset.symm.trans hb)
        exact h3 zone hz
    · have he : s.sendCountdown true = (s.releaseLevelOne .idle).requestLevelOne a none .countdown := by
        rw [← requestCountdown_of_asset (by rw [releaseLevelOne_timing]; exact hasset)]
        simp [State.sendCountdown, hp]
      obtain ⟨h1, h2, h3⟩ := requestLevelOne_spec ((releaseLevelOne_masks s .idle).idsAscend hids) a none .countdown
      have hframe : (s.releaseLevelOne .idle).canvas.frame = s.canvas.frame := (releaseLevelOne_frame s .idle).canvasFrame
      rw [countdownJoins_periodEnd] at h1 h2 h3
      rw [hframe] at h3
      rw [he, hp]
      show _ = s.countdownJoins .periodEnd ∧ _ = (if s.countdownJoins .periodEnd = [] then Phase.spent else .countdown) ∧
        (_ → ∀ z ∈ s.canvas.zones, z.spec.id ∉ s.countdownJoins .periodEnd → _) ∧
        (_ → ∀ zone ∈ s.timing.outstanding, zone ∉ s.countdownJoins .periodEnd → _) ∧
        ∀ b ∈ s.timing.rules.countdownAsset, ∀ zone ∈ s.countdownJoins .periodEnd, _
      rw [h1]
      refine ⟨rfl, rfl, nofun, fun _ zone hz hn => ?_, fun b hb zone hz => ?_⟩
      · rw [standsAt_of_zone (h2 zone hn)]
        exact releaseLevelOne_ends s .idle hz
      · obtain rfl := Option.some.inj (hasset.symm.trans hb)
        exact h3 zone hz

/-- The check reads no more of the state before than canvas, outstanding zones and countdown asset, and no more of the state
after than its phase, outstanding zones and zones. -/
theorem CountdownChecked.congr {asks : Bool} {phase : Phase} {s t s' t' : State} (h : CountdownChecked asks phase s t)
    (hc : s'.canvas = s.canvas) (ho : s'.timing.outstanding = s.timing.outstanding)
    (ha : s'.timing.rules.countdownAsset = s.timing.rules.countdownAsset) (hp : t'.timing.phase = t.timing.phase)
    (hq : t'.timing.outstanding = t.timing.outstanding) (hz : t'.canvas.zones = t.canvas.zones) :
    CountdownChecked asks phase s' t' := by
  have hs (k l : Nat) : s'.standsAt k l = s.standsAt k l := standsAt_of_zones (congrArg _ hc) k l
  have ht (k l : Nat) : t'.standsAt k l = t.standsAt k l := standsAt_of_zones hz k l
  have hy (k : Nat) : t'.zone? k = t.zone? k := zone_of_canvas hz k
  unfold CountdownChecked at h ⊢
  simp only [hs, ht, hy, hc, ho, ha, hp, hq, hz]
  refine ⟨h.1, fun h1 h2 h3 => h.2 h1 h2 ⟨hc ▸ h3.ids, hc ▸ h3.small, hc ▸ h3.arb, hc ▸ h3.awaiting⟩⟩

end Sys2Proof.Machine
end

section
namespace Sys2Proof.Machine

set_option Elab.async false

/-! ## One step of the timing unit, field by field (R21, R23) -/

theorem countToward_eq (r : ClockRules) (v n : Nat) : countToward r v n =
    match r.direction with
    | .down => v - n
    | .up => if clockLimit r ≤ v then v else min (v + n) (clockLimit r) := rfl

theorem isAtLimit_iff (t : Timing) : t.isAtLimit = true ↔ t.v = clockLimit t.rules := by simp [Timing.isAtLimit]

/-- A clock at its limit counts nothing (R23). -/
theorem countToward_limit (r : ClockRules) (n : Nat) : countToward r (clockLimit r) n = clockLimit r := by
  unfold countToward
  cases hd : r.direction with
  | down => simp [clockLimit, hd]
  | up => exact if_pos (Nat.le_refl _)

/-- V after `c` counted ms (R23). -/
def Timing.counts (c : Nat) (t : Timing) : Nat := if t.run = .running then countToward t.rules t.v c else t.v

theorem countClock_eq (c : Nat) (own : Bool) (t : Timing) : t.countClock c own =
    { t with
      v := t.counts c
      counted := if decide (t.run = .running) && decide (t.gate = .stopPending) && own then
        t.counted + distance t.v (t.counts c) else t.counted
      expiryPending := t.expiryPending || (decide (t.run = .running) && decide (t.gate = .stopPending) &&
        decide (t.v ≠ clockLimit t.rules) && decide (t.counts c = clockLimit t.rules)) } := by
  unfold Timing.countClock
  by_cases hr : t.run = .running
  · have hv : t.counts c = countToward t.rules t.v c := if_pos hr
    by_cases hl : t.isAtLimit = true
    · have hlim := (isAtLimit_iff t).mp hl
      have hsame : t.counts c = t.v := by rw [hv, hlim, countToward_limit]
      rw [if_neg (by simp [hl]), hsame]
      simp [hlim, distance]
      rw [← hlim]
    · have hlim := mt (isAtLimit_iff t).mpr hl
      rw [if_pos ⟨hr, by simpa using hl⟩, hv]
      simp [hr, hlim, Bool.beq_eq_decide_eq]
  · have hsame : t.counts c = t.v := if_neg hr
    rw [if_neg fun h => hr h.1, hsame]
    simp [hr]

/-- The timing unit after one step (R21, R23, R25, R27, R38, R42, R44). -/
theorem step_eq (own : Bool) (t : Timing) :
    let c := (trimStep t.trim t.trimAcc).1
    let playing := decide (t.run = .running) && t.playEnabled && decide (0 < t.play)
    let stopping := decide (t.gate = .stopPending)
    t.step own =
      { t with
        trimAcc := (trimStep t.trim t.trimAcc).2
        v := t.counts c
        counted := if decide (t.run = .running) && stopping && own then t.counted + distance t.v (t.counts c) else t.counted
        expiryPending := t.expiryPending || (decide (t.run = .running) && stopping &&
          decide (t.v ≠ clockLimit t.rules) && decide (t.counts c = clockLimit t.rules))
        play := if playing then t.play - c else t.play
        playCounted := if playing && stopping && own then t.playCounted + min t.play c else t.playCounted
        playPending := t.playPending || (playing && stopping && decide (t.play ≤ c))
        playZeroBlanked := if playing && stopping && decide (t.play ≤ c) then t.blanked else t.playZeroBlanked
        brkValue := if t.brkRunning then t.brkValue - c else t.brkValue
        gameHorn := t.gameHorn.map (· - c)
        playHorn := t.playHorn.map (· - c)
        window := if decide (t.gate ≠ .steady) && own then t.window + c else t.window } := by
  have hs : t.step own = { ((t.countClock (trimStep t.trim t.trimAcc).1 own).countPlay (trimStep t.trim t.trimAcc).1 own
    t.blanked t.playRuns).countRest (trimStep t.trim t.trimAcc).1 own with trimAcc := (trimStep t.trim t.trimAcc).2 } := rfl
  have hp : t.playRuns = (decide (t.run = .running) && t.playEnabled && decide (0 < t.play)) := by
    simp [Timing.playRuns, Bool.beq_eq_decide_eq]
  dsimp only
  rw [hs, countClock_eq, hp]
  generalize (decide (t.run = .running) && t.playEnabled && decide (0 < t.play)) = playing
  cases playing <;> simp [Timing.countPlay, Timing.countRest, Bool.beq_eq_decide_eq]

theorem trimStep_eq (trim : Int) (acc : Nat) : trimStep trim acc =
    (if acc + trim.natAbs < 1000000 then 1 else if 0 < trim then 2 else 0,
      if acc + trim.natAbs < 1000000 then acc + trim.natAbs else acc + trim.natAbs - 1000000) := by
  unfold trimStep
  by_cases h : acc + trim.natAbs < 1000000
  · rw [if_neg (by omega), if_pos h, if_pos h]
  · rw [if_pos (by omega), if_neg h, if_neg h]

/-! ## A regulation crossing within an event (R33) -/

/-- The timing unit with a regulation crossing made, where there is one (R33). -/
def Timing.regulated (t : Timing) : Timing :=
  { t with
    regulation := t.regulation || t.crosses
    gameHorn := if t.crosses then some (max (t.gameHorn.getD 0) t.rules.hornDuration) else t.gameHorn }

theorem checkRegulation_timing (s : State) : s.checkRegulation.timing = s.timing.regulated := by
  unfold State.checkRegulation Timing.regulated
  rw [show (upRunOn s.timing.rules && s.timing.run == .running && !s.timing.regulation &&
    decide (s.timing.rules.periodLength ≤ s.timing.v)) = s.timing.crosses from rfl]
  cases s.timing.crosses
  · simp
  · simp only [if_true, Bool.or_true]
    rfl

theorem checkRegulation_canvas (s : State) : s.checkRegulation.canvas = s.canvas := by
  unfold State.checkRegulation
  split <;> rfl

/-! ## What a step makes due (log 2) -/

theorem confirms_eq (gate : Gate) (own : Bool) (t : Timing) :
    t.confirms gate own = (own && decide (t.gate = gate) && decide (t.rules.debounce ≤ t.window)) := by
  simp [Timing.confirms, Bool.beq_eq_decide_eq]

theorem expires_eq (before after : Timing) (h : after.rules = before.rules) : before.expires after =
    (decide (before.run = .running) && decide (before.gate = .steady) && decide (before.v ≠ clockLimit before.rules) &&
      decide (after.v = clockLimit before.rules)) := by
  simp [Timing.expires, Timing.isAtLimit, Bool.beq_eq_decide_eq, h]

theorem playExpires_eq (before after : Timing) : before.playExpires after =
    (decide (before.run = .running) && before.playEnabled && decide (before.gate = .steady) && decide (0 < before.play) &&
      decide (after.play = 0)) := by
  simp [Timing.playExpires, Timing.playRuns, Bool.beq_eq_decide_eq, Bool.and_assoc, Bool.and_comm, Bool.and_left_comm]

theorem blanked_eq (t : Timing) : t.blanked = (decide (t.rules.direction = .down) && decide (t.v < t.play)) := by
  simp [Timing.blanked, Bool.beq_eq_decide_eq]

/-- The conditions of R45, as one proposition. -/
theorem countdownDue_eq (s : State) : s.countdownDue =
    decide (s.timing.rules.direction = .down ∧ s.timing.rules.regulationPeriods ≤ s.record.game.period ∧
      0 < s.timing.rules.countdownAt ∧ s.timing.rules.countdownAsset ≠ none ∧ s.timing.run = .running ∧
      s.timing.v ≤ s.timing.rules.countdownAt) := by
  rw [Bool.eq_iff_iff, decide_eq_true_eq]
  simp [State.countdownDue, and_assoc, Option.isSome_iff_ne_none]

theorem countdownDue_asset {s : State} (h : s.countdownDue = true) : s.timing.rules.countdownAsset ≠ none := by
  rw [countdownDue_eq, decide_eq_true_eq] at h
  exact h.2.2.2.1

/-- An event that does not find the countdown conditions leaves phase, outstanding zones and zones (R45). -/
theorem CountdownChecked.of_not {asks : Bool} {phase : Phase} {s t : State} (h : asks = false) (hp : t.timing.phase = phase)
    (ho : t.timing.outstanding = s.timing.outstanding) (hz : t.canvas.zones = s.canvas.zones) :
    CountdownChecked asks phase s t :=
  ⟨fun _ => ⟨hp, ho, hz⟩, fun ha => by rw [h] at ha; cases ha⟩

/-! ## One step of the time base -/

/-- The state in the middle of a step: everything has counted, and a regulation crossing is made (R21, R33). -/
def State.midStep (s : State) : State :=
  State.checkRegulation
    { s with
      timing := s.timing.step (s.twin.state != .follower)
      twin := s.twin.step (trimStep s.timing.trim s.timing.trimAcc).1 }

/-- The state of a step but for what it makes due. -/
def State.stepped (s : State) : State :=
  if s.timing.stops (s.timing.step (s.twin.state != .follower)) (s.twin.state != .follower) then s.midStep
  else s.midStep.checkCountdown

theorem timeStep_eq (s : State) : s.timeStep =
    { s.stepped with
      due := s.stepped.due ++ s.timing.dueAfter (s.timing.step (s.twin.state != .follower)) (s.twin.state != .follower) ++
        (s.twin.step (trimStep s.timing.trim s.timing.trimAcc).1).dueAfter } := rfl

theorem midStep_frame (s : State) : Frame [.clock, .horns, .twinOut, .twin] s s.midStep := by
  have h : Frame [.clock, .horns, .twinOut, .twin] s
      { s with
        timing := s.timing.step (s.twin.state != .follower)
        twin := s.twin.step (trimStep s.timing.trim s.timing.trimAcc).1 } :=
    .update ⟨rfl, rfl⟩ ⟨rfl, rfl⟩ fun p hp => by cases p <;> simp_all [samePart, step_eq]
  exact h.next (checkRegulation_frame _)

theorem stepped_frame (s : State) : Frame endParts s.midStep s.stepped :=
  .ite (.refl _ _) (checkCountdown_frame _)

theorem midStep_timing (s : State) : s.midStep.timing = (s.timing.step (s.twin.state != .follower)).regulated :=
  checkRegulation_timing _

theorem midStep_twin (s : State) : s.midStep.twin = s.twin.step (trimStep s.timing.trim s.timing.trimAcc).1 :=
  (checkRegulation_frame _).twin

theorem midStep_canvas (s : State) : s.midStep.canvas = s.canvas := checkRegulation_canvas _

/-- A step makes a confirmed stop or an expiry due exactly where these are among what is due. -/
theorem mem_dueAfter (before after : Timing) (own : Bool) (w : Twin) :
    (.stopConfirm ∈ before.dueAfter after own ++ w.dueAfter ∨ .gameExpiry ∈ before.dueAfter after own ++ w.dueAfter) ↔
      before.stops after own = true := by
  simp [Timing.dueAfter, Twin.dueAfter, Timing.stops]

/-- What a step makes due, event by event (R25, R32, R39, R42, R44, R71, R75, R77; the order, log 2). -/
theorem dueAfter_eq (before after : Timing) (own : Bool) (w : Twin) (hr : after.rules = before.rules) :
    before.dueAfter after own ++ w.dueAfter = List.flatten
     [(if own && decide (after.gate = .startPending) && decide (after.rules.debounce ≤ after.window) then [.startConfirm] else []),
      (if own && decide (after.gate = .stopPending) && decide (after.rules.debounce ≤ after.window) then [.stopConfirm] else []),
      (if decide (before.run = .running) && decide (before.gate = .steady) && decide (before.v ≠ clockLimit before.rules) &&
          decide (after.v = clockLimit before.rules) then [.gameExpiry] else []),
      (if decide (before.run = .running) && before.playEnabled && decide (before.gate = .steady) && decide (0 < before.play) &&
          decide (after.play = 0) then
        [.playExpiry (decide (before.rules.direction = .down) && decide (before.v < before.play))] else []),
      (if after.brkRunning && decide (after.brkValue = 0) then [.breakExpiry] else []),
      (if after.gameHorn = some 0 then [.hornEnd .game] else []),
      (if after.playHorn = some 0 then [.hornEnd .play] else []),
      (if w.helloTimer = some 0 then [.helloTimer] else []),
      (if w.heartbeatTimer = some 0 then [.heartbeatTimer] else []),
      (if w.clockTimer = some 0 then [.clockTimer] else []),
      (if w.lossTimer = some 0 then [.lossTimer] else [])] := by
  unfold Timing.dueAfter Twin.dueAfter
  rw [confirms_eq, confirms_eq, expires_eq before after hr, playExpires_eq, blanked_eq]
  simp only [Bool.beq_eq_decide_eq, List.flatten_cons, List.flatten_nil, List.append_nil, List.append_assoc,
    decide_eq_true_eq, Bool.and_eq_true]

theorem step_crosses (own : Bool) (t : Timing) : (t.step own).crosses =
    (upRunOn t.rules && decide (t.run = .running) && !t.regulation &&
      decide (t.rules.periodLength ≤ t.counts (trimStep t.trim t.trimAcc).1)) := by
  rw [Timing.crosses, step_eq]
  simp only [Bool.beq_eq_decide_eq]

theorem timeStep_due (s : State) (hd : s.due = []) :
    s.timeStep.due = s.timing.dueAfter (s.timing.step (s.twin.state != .follower)) (s.twin.state != .follower) ++
      (s.twin.step (trimStep s.timing.trim s.timing.trimAcc).1).dueAfter := by
  rw [timeStep_eq]
  dsimp only
  rw [(stepped_frame s).due, (midStep_frame s).due, hd, List.nil_append]

theorem timeStep_frame (s : State) (hd : s.due = []) :
    Frame ([.clock, .horns, .twinOut, .twin] ++ endParts) s { s.timeStep with due := [] } :=
  have h := ((midStep_frame s).mono (P := [.clock, .horns, .twinOut, .twin] ++ endParts)).next (stepped_frame s)
  ⟨h.pending, hd.symm, h.links, h.same⟩

/-- The countdown check of a step, judged on the clock that it has counted; one that makes a confirmed stop or an expiry due
leaves the check to that event (R31, R45). -/
theorem timeStep_checked (s : State) (hd : s.due = []) :
    CountdownChecked
      (decide (s.timing.rules.direction = .down ∧ s.timing.rules.regulationPeriods ≤ s.record.game.period ∧
        0 < s.timing.rules.countdownAt ∧ s.timing.rules.countdownAsset ≠ none ∧ s.timing.run = .running ∧
        s.timeStep.timing.v ≤ s.timing.rules.countdownAt ∧ .stopConfirm ∉ s.timeStep.due ∧ .gameExpiry ∉ s.timeStep.due))
      s.timing.phase s s.timeStep := by
  have hmem := mem_dueAfter s.timing (s.timing.step (s.twin.state != .follower)) (s.twin.state != .follower)
    (s.twin.step (trimStep s.timing.trim s.timing.trimAcc).1)
  rw [← timeStep_due s hd] at hmem
  have hm := midStep_timing s
  rw [step_eq] at hm
  have hphase : s.midStep.timing.phase = s.timing.phase := by rw [hm]; rfl
  have hout : s.midStep.timing.outstanding = s.timing.outstanding := by rw [hm]; rfl
  have hzones : s.midStep.canvas = s.canvas := midStep_canvas s
  by_cases hs : s.timing.stops (s.timing.step (s.twin.state != .follower)) (s.twin.state != .follower) = true
  · have ht : s.stepped = s.midStep := if_pos hs
    have hnot := hmem.mpr hs
    rw [timeStep_eq, ht]
    refine .of_not (decide_eq_false fun h => ?_) hphase hout (by rw [hzones])
    rw [← ht, ← timeStep_eq] at h
    tauto
  · have ht : s.stepped = s.midStep.checkCountdown := if_neg hs
    have hv : s.timeStep.timing.v = s.midStep.timing.v := by
      have h : s.stepped.timing = _ := (stepped_frame s).clock
      rw [ht] at h
      rw [timeStep_eq, ht, h]
    have hasks : decide (s.timing.rules.direction = .down ∧ s.timing.rules.regulationPeriods ≤ s.record.game.period ∧
        0 < s.timing.rules.countdownAt ∧ s.timing.rules.countdownAsset ≠ none ∧ s.timing.run = .running ∧
        s.timeStep.timing.v ≤ s.timing.rules.countdownAt ∧ .stopConfirm ∉ s.timeStep.due ∧ .gameExpiry ∉ s.timeStep.due) =
        s.midStep.countdownDue := by
      rw [countdownDue_eq, (midStep_frame s).record, hv, hm]
      have := mt hmem.mp hs
      simp only [Timing.regulated]
      exact decide_eq_decide.mpr (by tauto)
    rw [hasks]
    have h := sendCountdown_checked s.midStep (countdownDue_asset (s := s.midStep))
    rw [hphase] at h
    refine h.congr hzones.symm hout.symm (by rw [hm]; rfl) ?_ ?_ ?_
    all_goals rw [timeStep_eq, ht]; rfl

end Sys2Proof.Machine

namespace Sys2Proof

open Machine

/-- Settles O15. -/
theorem timeBaseCounts : Obligations.TimeBaseCounts := by
  intro s hd
  have he : exec .timeBaseStep s = .next s.timeStep := by
    show Host.Outcome.next s.settle.timeStep = _
    rw [settle_of_due_nil s hd]
  refine ⟨s.timeStep, he, ?_⟩
  have hown : decide (s.twin.state ≠ .follower) = (s.twin.state != .follower) := by
    simp [bne, Bool.beq_eq_decide_eq]
  have htwin : s.timeStep.twin = s.twin.step (trimStep s.timing.trim s.timing.trimAcc).1 :=
    (stepped_frame s).twin.trans (midStep_twin s)
  have hdue := timeStep_due s hd
  have hchecked := timeStep_checked s hd
  have hframe := timeStep_frame s hd
  have hn : s.timeStep.timing = _ := (stepped_frame s).clock
  rw [midStep_timing, Timing.regulated, step_crosses, step_eq] at hn
  have hc : (trimStep s.timing.trim s.timing.trimAcc).1 =
      if s.timing.trimAcc + s.timing.trim.natAbs < 1000000 then 1 else if 0 < s.timing.trim then 2 else 0 :=
    congrArg Prod.fst (trimStep_eq _ _)
  have ha : (trimStep s.timing.trim s.timing.trimAcc).2 = _ := congrArg Prod.snd (trimStep_eq _ _)
  rw [dueAfter_eq _ _ _ _ (by rw [step_eq]), step_eq] at hdue
  rw [ha] at hn
  rw [← htwin] at hdue
  dsimp only
  rw [← hc, hown]
  generalize (s.twin.state != .follower) = own at *
  generalize (trimStep s.timing.trim s.timing.trimAcc).1 = c at *
  have hv : s.timing.counts c = if decide (s.timing.run = .running) = true then
      match s.timing.rules.direction with
      | .down => s.timing.v - c
      | .up => if clockLimit s.timing.rules ≤ s.timing.v then s.timing.v else
        min (s.timing.v + c) (clockLimit s.timing.rules)
      else s.timing.v := by
    simp [Timing.counts, countToward_eq]
  have hcounts : s.timeStep.timing.v = s.timing.counts c := congrArg Timing.v hn
  have hplay : s.timeStep.timing.play = _ := congrArg Timing.play hn
  have hplayCounted : s.timeStep.timing.playCounted = _ := congrArg Timing.playCounted hn
  have hplayPending : s.timeStep.timing.playPending = _ := congrArg Timing.playPending hn
  refine ⟨congrArg Timing.trimAcc hn, hcounts.trans hv, ?_, ?_, ?_, ?_, ?_, congrArg Timing.window hn,
    congrArg Timing.brkValue hn, congrArg Timing.playHorn hn, ?_, ?_, ?_, htwin, ?_, hchecked, hframe⟩
  · rw [hn]; rfl
  · rw [hn]
  · rw [hplay]
    cases hp : s.timing.play <;> cases decide (s.timing.run = .running) <;> cases s.timing.playEnabled <;> simp
  · rw [hplayCounted]
    cases hp : s.timing.play <;> cases decide (s.timing.run = .running) <;> cases s.timing.playEnabled <;> simp
  · refine hplayPending.trans (congrArg (s.timing.playPending || ·) ?_)
    ac_rfl
  · rw [hn]
  · rw [hn]
  · rw [hn]; exact ⟨rfl, rfl, rfl, rfl, rfl, rfl, rfl, rfl, rfl, rfl, rfl⟩
  · rw [hdue, hn]

end Sys2Proof
end

section
namespace Sys2Proof.Machine

set_option Elab.async false

/-! ## A CLOCK that a MASTER sends (R77) -/

/-- The clock fields of a CLOCK, of the timing unit alone (Table 4-2). -/
def Timing.fields (t : Timing) : ClockFields where
  v := t.v
  run := t.run
  gate := t.gate
  atLimit := t.atLimit
  regulation := t.regulation
  play := t.play
  playEnabled := t.playEnabled
  brkRunning := t.brkRunning
  brkValue := t.brkValue
  brkLength := t.brkLength
  brkHorn := t.brkHorn

theorem clockFields_eq (s : State) : s.clockFields = s.timing.fields := rfl

/-- The twin unit after the CLOCKs given, in their order (R77). -/
def Twin.tells (sent : List ClockRecord) (w : Twin) : Twin :=
  if w.state = .master ∧ sent ≠ [] then { w with out := w.out ++ sent.map .clock, clockTimer := some 250 } else w

theorem tells_nil (w : Twin) : w.tells [] = w := by simp [Twin.tells]

theorem tells_append (w : Twin) (a b : List ClockRecord) : (w.tells a).tells b = w.tells (a ++ b) := by
  unfold Twin.tells
  by_cases hm : w.state = .master <;> cases a <;> cases b <;> simp [hm]

theorem tells_state (w : Twin) (sent : List ClockRecord) : (w.tells sent).state = w.state := by
  unfold Twin.tells
  split <;> rfl

theorem tells_of_ne (w : Twin) {sent : List ClockRecord} (h : sent ≠ []) : w.tells sent =
    if w.state = .master then { w with out := w.out ++ sent.map .clock, clockTimer := some 250 } else w := by
  simp [Twin.tells, h]

theorem tells_one (w : Twin) (r : ClockRecord) : w.tells [r] =
    if w.state = .master then { w with out := w.out ++ [.clock r], clockTimer := some 250 } else w :=
  tells_of_ne w (List.cons_ne_nil _ _)

theorem sendClock_twin (s : State) (cause : ClockCause) : (s.sendClock cause).twin = s.twin.tells [⟨cause, s.timing.fields⟩] := by
  rw [tells_one]
  unfold State.sendClock
  split <;> rfl

theorem sendClock_reports (s : State) (cause : ClockCause) : Reports [] s (s.sendClock cause) [] := by
  unfold State.sendClock
  split
  · exact .of_links rfl rfl
  · exact .refl _ s

theorem sendClock_agree (s : State) (cause : ClockCause) : Agree s (s.sendClock cause) := by
  unfold State.sendClock
  split <;> exact ⟨rfl, rfl, rfl⟩

theorem sendClock_canvas (s : State) (cause : ClockCause) : (s.sendClock cause).canvas = s.canvas := (sendClock_agree s cause).canvas

/-! ## Clock, session, what is recorded and what is sent, along the operations of the timing unit -/

/-- From `s` to `t` the clock comes to stand as in `m` and the session as `x`; the conditions `es` are recorded, but for those
that ends bring with them, and a MASTER sends the CLOCKs `sent`; the record and the twin unit stand otherwise. -/
structure Clocked (s t : State) (m : Timing) (x : Session) (es : List (Cond × Detail)) (sent : List ClockRecord) : Prop where
  clock : t.timing.bare = m.bare
  game : t.record.game = { s.record.game with session := x }
  twin : t.twin = s.twin.tells sent
  reports : Reports endNoise s t es

theorem Clocked.start (s : State) : Clocked s s s.timing s.record.game.session [] [] :=
  ⟨rfl, rfl, (tells_nil _).symm, .refl _ s⟩

section
variable {s t u : State} {m : Timing} {x : Session} {es : List (Cond × Detail)} {sent : List ClockRecord}

/-- An operation that leaves clock, record and twin unit and records at most what ends bring. -/
theorem Clocked.quiet {P : List Part} {K : List Cond} (h : Clocked s t m x es sent) (k : Frame P t u) (r : Reports K t u [])
    (hP : [Part.clock, .session, .game, .twin, .twinOut].all (fun p => !P.contains p) = true := by decide)
    (hK : K.all (fun c => endNoise.contains c) = true := by decide) : Clocked s u m x es sent := by
  simp only [List.all_cons, List.all_nil, Bool.and_true, Bool.and_eq_true, Bool.not_eq_true'] at hP
  obtain ⟨hc, hs, hg, ht, ho⟩ := hP
  exact ⟨(k.bare hc).trans h.clock, (k.game (by rw [hs, hg]; rfl)).trans h.game, (k.twin (by rw [ht, ho]; rfl)).trans h.twin,
    h.reports.quiet r hK⟩

theorem Clocked.raise (h : Clocked s t m x es sent) {c : Cond} (d : Detail) (hc : endNoise.contains c = false := by decide) :
    Clocked s (t.raise c d) m x (es ++ [(c, d)]) sent :=
  ⟨h.clock, h.game, h.twin, h.reports.next (.raise hc t d)⟩

theorem Clocked.mapTiming (h : Clocked s t m x es sent) (f : Timing → Timing) (hf : ∀ a, (f a).bare = (f a.bare).bare) :
    Clocked s (t.mapTiming f) (f m) x es sent where
  clock := (hf t.timing).trans ((congrArg (fun a => (f a).bare) h.clock).trans (hf m).symm)
  game := h.game
  twin := h.twin
  reports := h.reports.quiet (mapTiming_reports (K := []) t f)

/-- What is read of the clock. -/
theorem Clocked.reads (h : Clocked s t m x es sent) {α : Type} (f : Timing → α)
    (hf : ∀ a, f a = f a.bare := by exact fun _ => rfl) : f t.timing = f m := (hf _).trans ((congrArg f h.clock).trans (hf m).symm)

theorem Clocked.session (h : Clocked s t m x es sent) : t.record.game.session = x := congrArg RecordFields.session h.game

theorem Clocked.period (h : Clocked s t m x es sent) : t.record.game.period = s.record.game.period :=
  (congrArg RecordFields.period h.game).trans rfl

theorem Clocked.horn (h : Clocked s t m x es sent) (which : Horn) : Clocked s (t.hornSounds which) m x es sent :=
  h.quiet (hornSounds_frame t which) (mapTiming_reports (K := []) t _)

theorem Clocked.sendClock (h : Clocked s t m x es sent) (cause : ClockCause) :
    Clocked s (t.sendClock cause) m x es (sent ++ [⟨cause, m.fields⟩]) where
  clock := ((sendClock_frame t cause).bare).trans h.clock
  game := ((sendClock_frame t cause).game).trans h.game
  twin := by rw [sendClock_twin, h.twin, tells_append, h.reads Timing.fields]
  reports := h.reports.quiet (sendClock_reports t cause)

theorem Clocked.sessionStart (h : Clocked s t m x es sent) (run : RunState) :
    Clocked s (t.sessionStart run) m (sessionAfter run x) (es ++ sessionStarts run x s.record.game.period) sent := by
  unfold State.sessionStart sessionAfter sessionStarts
  rw [h.session, h.period]
  split
  · exact ⟨h.clock, congrArg (fun g : RecordFields => { g with session := .inGame }) h.game, h.twin,
      h.reports.next ((mapGame_reports t fun g => { g with session := .inGame }).next (.raise (by decide) _ _))⟩
  · exact ⟨h.clock, h.game, h.twin, h.reports.next (.refl _ t)⟩

/-- What a confirmed run change records (R31). -/
def handReports (m : Timing) (x : Session) (cause : RunCause) (n period : Nat) : List (Cond × Detail) :=
  (.runChanged, .runChanged m.run cause m.v n) :: sessionStarts m.run x period

/-- A confirmed run change (R31). -/
theorem Clocked.handOn (h : Clocked s t m x es sent) (cause : RunCause) (n : Nat) :
    Clocked s (t.handOn cause n) m (sessionAfter m.run x) (es ++ handReports m x cause n s.record.game.period)
      (sent ++ [⟨clockCauseOf cause, m.fields⟩]) := by
  unfold State.handOn handReports
  dsimp only
  rw [h.reads Timing.run, h.reads Timing.v, List.append_cons]
  have h1 := h.raise (c := .runChanged) (.runChanged m.run cause m.v n)
  generalize m.run = run at h1 ⊢
  cases run with
  | running => exact ((h1.quiet (arbiterStart_frame _) (arbiterStart_reports _)).sessionStart _).sendClock _
  | stopped => exact ((h1.quiet (arbiterStop_frame _) (arbiterStop_reports _)).sessionStart _).sendClock _

theorem Clocked.sendCountdown (h : Clocked s t m x es sent) (asks : Bool) : Clocked s (t.sendCountdown asks) m x es sent :=
  h.quiet (sendCountdown_frame _ asks) (sendCountdown_reports _ asks)

theorem Clocked.checkCountdown (h : Clocked s t m x es sent) : Clocked s t.checkCountdown m x es sent :=
  h.quiet (checkCountdown_frame _) (checkCountdown_reports _)

theorem Clocked.raiseExpired (h : Clocked s t m x es sent) (cause : ExpiryCause) :
    Clocked s (t.raiseExpired cause) m x
      (es ++ [(.clockExpired, .clockExpired cause s.record.game.period m.rules.direction m.v)]) sent := by
  unfold State.raiseExpired
  rw [h.period, h.reads Timing.rules, h.reads Timing.v]
  exact h.raise _

/-- What a regulation crossing records (R33). -/
def crossingReports (m : Timing) (period : Nat) : List (Cond × Detail) :=
  if m.crosses then [(.clockExpired, .clockExpired .regulation period m.rules.direction m.v)] else []

theorem bare_regulated (m : Timing) : m.regulated.bare = ({ m with regulation := m.regulation || m.crosses } : Timing).bare := rfl

theorem Clocked.checkRegulation (h : Clocked s t m x es sent) :
    Clocked s t.checkRegulation m.regulated x (es ++ crossingReports m s.record.game.period) sent := by
  have hc : t.timing.crosses = m.crosses := h.reads Timing.crosses
  unfold State.checkRegulation crossingReports
  rw [show (upRunOn t.timing.rules && t.timing.run == .running && !t.timing.regulation &&
    decide (t.timing.rules.periodLength ≤ t.timing.v)) = m.crosses from hc]
  split
  · next hm =>
    have h1 := ((h.mapTiming (fun t => { t with regulation := true }) fun _ => rfl).raiseExpired .regulation).horn .game
    refine ⟨h1.clock.trans ?_, h1.game, h1.twin, h1.reports⟩
    rw [bare_regulated, hm, Bool.or_true]
  · next hm =>
    refine ⟨h.clock.trans ?_, h.game, h.twin, h.reports.next (.refl _ t)⟩
    rw [bare_regulated, Bool.eq_false_iff.mpr hm, Bool.or_false]

theorem Clocked.expire (h : Clocked s t m x es sent) (asks : Bool) :
    Clocked s (t.expire asks) m.expired x (es ++ expiryReports m s.record.game.period)
      (sent ++ [⟨.expiry, m.expired.fields⟩]) := by
  have h1 := ((h.mapTiming Timing.expired fun _ => rfl).handOn .expiry 0).sendCountdown asks
  have hr : Timing.rules (State.timing _) = m.rules := h1.reads Timing.rules
  unfold State.expire
  dsimp only
  have he (cause : ExpiryCause) : es ++ handReports m.expired x .expiry 0 s.record.game.period ++
      [(.clockExpired, .clockExpired cause s.record.game.period m.expired.rules.direction m.expired.v)] =
      es ++ [(.runChanged, .runChanged .stopped .expiry (clockLimit m.rules) 0),
        (.clockExpired, .clockExpired cause s.record.game.period m.rules.direction (clockLimit m.rules))] := by
    simp [Timing.expired, handReports, sessionStarts]
  unfold expiryReports
  split
  · next hu =>
    rw [if_pos (by exact hr ▸ hu), ← he]
    exact h1.raiseExpired .ceiling
  · next hu =>
    rw [if_neg (by exact hr ▸ hu), ← he]
    exact ((h1.raiseExpired .limit).horn _).quiet (periodEnd_frame _) (periodEnd_reports _)

theorem Clocked.playExpire (h : Clocked s t m x es sent) (blanked : Bool) :
    Clocked s (t.playExpire blanked) m.playExpired x (es ++ [(.playExpired, .playExpired blanked m.v)])
      (sent ++ [⟨.play, m.playExpired.fields⟩]) := by
  have h1 := (h.mapTiming Timing.playExpired fun _ => rfl).raise (c := .playExpired) (.playExpired blanked m.v)
  unfold State.playExpire
  dsimp only
  rw [h.reads Timing.v]
  split
  · exact (h1.horn _).sendClock _
  · exact h1.sendClock _

end

/-! ## A confirmed stop handed on (R31, R112) -/

theorem Agree.evaluateAll {s t : State} (h : Agree s t) (zones : List Nat) : Agree (s.evaluateAll zones) (t.evaluateAll zones) := by
  induction zones generalizing s t with
  | nil => exact h
  | cons z zones ih => exact ih (h.evaluate z)

section
variable {s : State} (hr : s.timing.run = .stopped) (cause : RunCause) (n : Nat)
include hr

theorem handOn_stopped_eq : s.handOn cause n =
    ((s.raise .runChanged (.runChanged .stopped cause s.timing.v n)).evaluateAll s.zoneIds).sendClock (clockCauseOf cause) := by
  have hs (u : State) : u.sessionStart .stopped = u := by simp [State.sessionStart]
  unfold State.handOn
  rw [hr]
  dsimp only
  rw [hs]
  rfl

theorem handOn_stopped_frame : Frame [.zones, .channels, .twinOut] s (s.handOn cause n) := by
  rw [handOn_stopped_eq hr]
  exact ((Frame.mono (raise_frame s _ _)).next (evaluateAll_frame _ _)).next (sendClock_frame _ _)

theorem handOn_stopped_timing : (s.handOn cause n).timing = s.timing := (handOn_stopped_frame hr cause n).timing

theorem handOn_stopped_twin : (s.handOn cause n).twin = s.twin.tells [⟨clockCauseOf cause, s.timing.fields⟩] := by
  have hf := evaluateAll_frame (s.raise .runChanged (.runChanged .stopped cause s.timing.v n)) s.zoneIds
  rw [handOn_stopped_eq hr, sendClock_twin, hf.timing, hf.twin]
  rfl

/-- Every zone is evaluated, of a state that agrees with this one in what evaluations read (R112). -/
theorem handOn_stopped_canvas {b : State} (h : Agree b s) :
    (s.handOn cause n).canvas = ((b.canvas.zones.map (·.spec.id)).foldl (fun u zone => u.evaluate zone) b).canvas := by
  rw [handOn_stopped_eq hr, sendClock_canvas, ← h.canvas]
  exact (Agree.evaluateAll (s := b) (t := s.raise .runChanged (.runChanged .stopped cause s.timing.v n))
    ⟨h.canvas, h.replay, h.run⟩ _).canvas

end

/-! ## Evaluations keep the zones well formed (R102, R108) -/

theorem insertService_mem {t u : InService} {us : List InService} (h : u ∈ insertService t us) : u = t ∨ u ∈ us := by
  induction us with
  | nil => exact .inl (by simpa [insertService] using h)
  | cons v us ih =>
    unfold insertService at h
    split at h
    · simpa using h
    · split at h
      · rcases List.mem_cons.mp h with h | h
        · exact .inl h
        · exact .inr (by simp [h])
      · rcases List.mem_cons.mp h with h | h
        · exact .inr (by simp [h])
        · exact (ih h).imp_right fun h => by simp [h]

theorem insertService_ascends (t : InService) {us : List InService} (h : (us.map (·.level)).Pairwise (· < ·)) :
    ((insertService t us).map (·.level)).Pairwise (· < ·) := by
  induction us with
  | nil => simp [insertService]
  | cons v us ih =>
    rw [List.map_cons, List.pairwise_cons] at h
    obtain ⟨hv, hus⟩ := h
    unfold insertService
    split
    · next hlt =>
      rw [List.map_cons, List.map_cons, List.pairwise_cons, List.pairwise_cons]
      refine ⟨fun l hl => ?_, hv, hus⟩
      rcases List.mem_cons.mp hl with rfl | hl
      · exact hlt
      · exact Nat.lt_trans hlt (hv l hl)
    · split
      · next heq =>
        rw [List.map_cons, List.pairwise_cons, heq]
        exact ⟨hv, hus⟩
      · next hlt heq =>
        rw [List.map_cons, List.pairwise_cons]
        refine ⟨fun l hl => ?_, ih hus⟩
        obtain ⟨u, hu, rfl⟩ := List.mem_map.mp hl
        rcases insertService_mem hu with rfl | hu
        · show v.level < u.level
          omega
        · exact hv _ (List.mem_map_of_mem hu)

/-- A grant of a pending request keeps a zone's arbitration state well formed (R108, R110). -/
theorem ZoneArb.wf.grant {a : ZoneArb} (h : a.wf) {r : PendingReq} (hr : r ∈ a.pending) (frame : Nat) : (a.grant r frame).wf where
  pending := h.pending.sublist (List.filter_sublist.map _)
  service := insertService_ascends _ h.service
  levels := by
    refine ⟨fun q hq => h.levels.1 q (List.mem_of_mem_filter hq), fun t ht => ?_⟩
    rcases insertService_mem ht with rfl | ht
    · exact h.levels.1 r hr
    · exact h.levels.2 t ht
  apart := by
    intro q hq t ht
    rcases insertService_mem ht with rfl | ht
    · simpa using List.of_mem_filter hq
    · exact h.apart q (List.mem_of_mem_filter hq) t ht
  yielded := by
    refine ⟨h.yielded.1.filter _, fun l hl => ?_⟩
    have hne : l ≠ r.level := by simpa using List.of_mem_filter hl
    have hlevel := level_grant a l r frame
    rw [if_neg hne] at hlevel
    simp only [ZoneArb.level, Prod.mk.injEq] at hlevel
    rw [hlevel.2.1]
    exact h.yielded.2 l (List.mem_of_mem_filter hl)
  mask := h.mask
  arrival := h.arrival

/-- Grants keep arbitration states well formed. -/
theorem wf_rule : ArbRule fun _ a b => a.wf → b.wf where
  refl _ _ := id
  trans h k := k ∘ h
  grant f {_ _ _} hg h := h.grant (List.mem_of_find?_eq_some hg) f

theorem zone_of_idsAscend {s : State} (h : s.idsAscend) {z : Zone} (hz : z ∈ s.canvas.zones) : s.zone? z.spec.id = some z := by
  obtain ⟨y, hy⟩ := Option.isSome_iff_exists.mp
    (show (s.zone? z.spec.id).isSome = true from List.find?_isSome.mpr ⟨z, hz, by simp⟩)
  have hn : (s.canvas.zones.map (·.spec.id)).Nodup := h.imp fun hlt => Nat.ne_of_lt hlt
  rw [hy, List.inj_on_of_nodup_map hn (zone_mem hy) hz (zone_spec_id hy)]

theorem zonesWf_of_canvas {s t : State} (h : s.zonesWf) (hc : t.canvas = s.canvas) : t.zonesWf :=
  ⟨hc ▸ h.ids, hc ▸ h.small, hc ▸ h.arb, hc ▸ h.awaiting⟩

/-- Operations of evaluations alone keep the zones well formed (R90, R102). -/
theorem zonesWf_of_zoneWise {s t : State} (h : s.zonesWf) (k : ZoneWise (fun _ a b => a.wf → b.wf) s t) (hm : MasksKept s t)
    (ha : t.canvas.awaitingLayout = s.canvas.awaitingLayout) : t.zonesWf := by
  have hids : t.idsAscend := hm.idsAscend h.ids
  have found (y : Zone) (hy : y ∈ t.canvas.zones) :
      ∃ z ∈ s.canvas.zones, y.spec = z.spec ∧ (z.arb.wf → y.arb.wf) := by
    have hz := k.zones y.spec.id
    rw [zone_of_idsAscend hids hy] at hz
    cases hs : s.zone? y.spec.id with
    | none => rw [hs] at hz; exact hz.elim
    | some z => exact ⟨z, zone_mem hs, by rw [hs] at hz; exact hz⟩
  refine ⟨hids, fun y hy => ?_, fun y hy => ?_, ha ▸ h.awaiting⟩
  · obtain ⟨z, hz, hspec, -⟩ := found y hy
    exact hspec ▸ h.small z hz
  · obtain ⟨z, hz, -, hwf⟩ := found y hy
    exact hwf (h.arb z hz)

theorem handOn_stopped_zonesWf {s : State} (hr : s.timing.run = .stopped) (cause : RunCause) (n : Nat) (h : s.zonesWf) :
    (s.handOn cause n).zonesWf := by
  have hf := handOn_stopped_frame hr cause n
  refine zonesWf_of_zoneWise h ?_ ?_ (hf.same .canvas (by decide)).2.2.2.1
  · rw [handOn_stopped_eq hr]
    exact ((ZoneWise.of_frame wf_rule (raise_frame s .runChanged _)).trans wf_rule (evaluateAll_zoneWise wf_rule _ _)).frame_next
      wf_rule (sendClock_frame _ _)
  · rw [handOn_stopped_eq hr]
    exact (MasksKept.of_frame (sendClock_frame _ _)).trans ((masksKept_walk .released).evaluateAll (s.raise .runChanged _) _)

end Sys2Proof.Machine
end

section
namespace Sys2Proof.Machine

set_option Elab.async false

/-! ## Replacing requests (R106) -/

/-- A request stands at its level, in service from its first frame on, or pending. -/
def ZoneArb.Carries (r : Request) (a : ZoneArb) : Prop :=
  (∃ k, a.serviceAt r.level = some k ∧ k.content = r.content ∧ k.remaining = r.frames ∧ k.credit = r.credit ∧ k.pos = 0) ∨
    ∃ q, a.pendingAt r.level = some q ∧ q.content = r.content ∧ q.frames = r.frames ∧ q.credit = r.credit

theorem ZoneArb.Holds.carries {r : Request} {frame : Nat} {a : ZoneArb} (h : a.Holds r frame) : a.Carries r :=
  h.imp (fun h => ⟨_, h, rfl, rfl, rfl, rfl⟩) id

theorem ZoneArb.Carries.standing {r : Request} {a : ZoneArb} (h : a.Carries r) : (a.standing r.level).isSome = true := by
  rw [standing_isSome]
  rcases h with ⟨k, hk, -⟩ | ⟨q, hq, -⟩
  · exact .inr (by rw [hk]; rfl)
  · exact .inl (by rw [hq]; rfl)

/-- The takeover of a request's level, with what the request carries in its place (R106). -/
def InService.replaced (r : Request) (k : InService) : InService :=
  if k.level = r.level then { k with content := r.content, remaining := r.frames, credit := r.credit, pos := 0 } else k

theorem replaced_level (r : Request) (k : InService) : (k.replaced r).level = k.level := by
  unfold InService.replaced
  split <;> rfl

theorem replaced_replaced (r : Request) (k : InService) : (k.replaced r).replaced r = k.replaced r := by
  unfold InService.replaced
  by_cases h : k.level = r.level <;> simp [h]

theorem replaceService_service (r : Request) (a : ZoneArb) : (a.replaceService r).service = a.service.map (InService.replaced r) :=
  rfl

theorem replaceService_replaceService (r : Request) (a : ZoneArb) : (a.replaceService r).replaceService r = a.replaceService r := by
  show { a with service := (a.service.map (InService.replaced r)).map (InService.replaced r) } = _
  rw [List.map_map, show InService.replaced r ∘ InService.replaced r = InService.replaced r from funext (replaced_replaced r)]
  rfl

theorem serviceAt_replaceService (r : Request) (a : ZoneArb) (level : Nat) :
    (a.replaceService r).serviceAt level = (a.serviceAt level).map (InService.replaced r) := by
  unfold ZoneArb.serviceAt
  rw [replaceService_service, List.find?_map]
  congr 2
  funext k
  simp [replaced_level]

theorem replaceService_carries {r : Request} {a : ZoneArb} (h : (a.serviceAt r.level).isSome = true) :
    (a.replaceService r).Carries r := by
  obtain ⟨k, hk⟩ := Option.isSome_iff_exists.mp h
  have hl : k.level = r.level := by simpa using List.find?_some hk
  refine .inl ⟨k.replaced r, by rw [serviceAt_replaceService, hk]; rfl, ?_⟩
  simp [InService.replaced, hl]

section
variable {s : State} {zone : Nat} {r : Request}

/-- A replacing request at a level in service changes what is shown, and nothing is evaluated (R106). -/
theorem request_of_service {z : Zone} (hz : s.zone? zone = some z) (hs : (z.arb.serviceAt r.level).isSome = true) :
    (s.request zone r true).1 = s.mapArb zone (ZoneArb.replaceService r) := by
  unfold State.request
  rw [hz]
  dsimp only
  rw [if_pos hs, if_pos rfl]

/-- A replacing request stands where its level stood (R106). -/
theorem request_carries (h : (s.standsAt zone r.level).isSome = true) :
    ∃ y, (s.request zone r true).1.zone? zone = some y ∧ y.arb.Carries r := by
  obtain ⟨z, hz⟩ : ∃ z, s.zone? zone = some z := by
    cases hz : s.zone? zone with
    | none => simp [State.standsAt, hz] at h
    | some z => exact ⟨z, rfl⟩
  have hst := (standing_isSome z.arb r.level).mp (by simpa [State.standsAt, hz] using h)
  by_cases hs : (z.arb.serviceAt r.level).isSome = true
  · rw [request_of_service hz hs]
    exact ⟨_, mapArb_zone_same hz _, replaceService_carries hs⟩
  · obtain ⟨y, hy, hk⟩ := record_evaluate_holds hz r
    refine ⟨y, ?_, hk.carries⟩
    rw [← hy]
    unfold State.request
    rw [hz]
    dsimp only
    rw [if_neg hs, if_pos (hst.resolve_right hs), if_pos rfl]

theorem standsAt_of_carries {y : Zone} (hy : s.zone? zone = some y) (h : y.arb.Carries r) :
    (s.standsAt zone r.level).isSome = true := by
  unfold State.standsAt
  rw [hy]
  exact h.standing

end

/-- Replacing requests in several zones: every other zone stands, the takeovers in service are replaced in their place, and the
request stands wherever its level stood (R106). -/
theorem requestAll_replaces (r : Request) (zones : List Nat) (s : State) :
    let t := (s.requestAll r true zones).1
    (∀ k, k ∉ zones → t.zone? k = s.zone? k) ∧
    (∀ k ∈ zones, ∀ z, s.zone? k = some z → (z.arb.serviceAt r.level).isSome = true →
      t.zone? k = some { z with arb := z.arb.replaceService r }) ∧
    ∀ k ∈ zones, (s.standsAt k r.level).isSome = true → ∃ y, t.zone? k = some y ∧ y.arb.Carries r := by
  induction zones generalizing s with
  | nil => exact ⟨fun _ _ => rfl, nofun, nofun⟩
  | cons z zones ih =>
    obtain ⟨i1, i2, i3⟩ := ih (s.request z r true).1
    have hother (k : Nat) (hk : k ≠ z) := request_zone_other (s := s) hk r true
    rw [requestAll_cons]
    refine ⟨fun k hk => ?_, fun k hk y hy hs => ?_, fun k hk hs => ?_⟩
    · rw [List.mem_cons, not_or] at hk
      exact (i1 k hk.2).trans (hother k hk.1)
    · by_cases hkz : k = z
      · subst hkz
        have hnow : (s.request k r true).1.zone? k = some { y with arb := y.arb.replaceService r } := by
          rw [request_of_service hy hs]
          exact mapArb_zone_same hy _
        by_cases hm : k ∈ zones
        · rw [i2 k hm _ hnow (by rw [serviceAt_replaceService, Option.isSome_map]; exact hs), replaceService_replaceService]
        · rw [i1 k hm, hnow]
      · exact i2 k ((List.mem_cons.mp hk).resolve_left hkz) y ((hother k hkz).trans hy) hs
    · by_cases hkz : k = z
      · subst hkz
        obtain ⟨y, hy, hc⟩ := request_carries hs
        by_cases hm : k ∈ zones
        · exact i3 k hm (standsAt_of_carries hy hc)
        · exact ⟨y, (i1 k hm).trans hy, hc⟩
      · exact i3 k ((List.mem_cons.mp hk).resolve_left hkz) (by rw [standsAt_of_zone (hother k hkz)]; exact hs)

/-! ## The period end, by phase (R46, R47) -/

/-- The asset of the period end, where it shows one (R47). -/
def Timing.periodAsset (t : Timing) : Option Nat := if 0 < t.rules.periodEndHold then t.rules.periodEndAsset else none

section
variable {s : State}

theorem periodEnd_of_none (h : s.timing.periodAsset = none) :
    s.periodEnd = if s.timing.phase = .countdown then s.releaseLevelOne .spent else s := by
  unfold State.periodEnd
  rw [show (if 0 < s.timing.rules.periodEndHold then s.timing.rules.periodEndAsset else none) = none from h]

theorem periodEnd_switches {a : Nat} (h : s.timing.periodAsset = some a)
    (hp : s.timing.phase = .countdown ∨ s.timing.phase = .periodEnd) :
    s.periodEnd = s.switchPeriodEnd a (s.toFrames s.timing.rules.periodEndHold) := by
  unfold State.periodEnd
  rw [show (if 0 < s.timing.rules.periodEndHold then s.timing.rules.periodEndAsset else none) = some a from h]
  rcases hp with hp | hp <;> rw [hp]

theorem periodEnd_requests {a : Nat} (h : s.timing.periodAsset = some a)
    (hp : s.timing.phase = .idle ∨ s.timing.phase = .spent) :
    s.periodEnd = if s.countdownZones = [] then s else
      s.requestLevelOne a (some (s.toFrames s.timing.rules.periodEndHold)) .periodEnd := by
  unfold State.periodEnd
  rw [show (if 0 < s.timing.rules.periodEndHold then s.timing.rules.periodEndAsset else none) = some a from h]
  simp only [List.isEmpty_iff]
  rcases hp with hp | hp <;> rw [hp]

theorem switchPeriodEnd_timing (a frames : Nat) : (s.switchPeriodEnd a frames).timing = { s.timing with phase := .periodEnd } := by
  unfold State.switchPeriodEnd
  rw [mapTiming_timing, (requestAll_frame s _ _ _).timing]

end

/-! ## A declared expiry (R32, R33) -/

theorem upRunOn_iff (r : ClockRules) : upRunOn r = true ↔ r.direction = .up ∧ r.runOn = true := by simp [upRunOn]

/-- A declared expiry: the run change handed on, what the countdown conditions ask for, then CLOCK_EXPIRED, with horn and period
end below the ceiling. -/
theorem expire_eq (asks : Bool) (s : State) :
    let w := ((s.mapTiming Timing.expired).handOn .expiry 0).sendCountdown asks
    s.expire asks =
      if upRunOn s.timing.rules then
        w.raise .clockExpired (.clockExpired .ceiling s.record.game.period s.timing.rules.direction (clockLimit s.timing.rules))
      else State.periodEnd { w.raise .clockExpired
          (.clockExpired .limit s.record.game.period s.timing.rules.direction (clockLimit s.timing.rules)) with
        timing := { w.timing with gameHorn := some (max (w.timing.gameHorn.getD 0) s.timing.rules.hornDuration) } } := by
  intro w
  have hu := handOn_stopped_frame (s := s.mapTiming Timing.expired) rfl .expiry 0
  have hw : Frame endParts _ w := sendCountdown_frame _ asks
  have ht : w.timing = { s.timing.expired with phase := w.timing.phase, outstanding := w.timing.outstanding } := by
    have h : w.timing = _ := hw.clock
    rwa [hu.timing] at h
  have hp : w.record.game.period = s.record.game.period := congrArg RecordFields.period (hw.game.trans hu.game)
  have hrules : w.timing.rules = s.timing.rules := by rw [ht]; rfl
  have hv : w.timing.v = clockLimit s.timing.rules := by rw [ht]; rfl
  show (if upRunOn w.timing.rules then w.raiseExpired .ceiling else ((w.raiseExpired .limit).hornSounds .game).periodEnd) = _
  have hx (cause : ExpiryCause) : w.raiseExpired cause = w.raise .clockExpired
      (.clockExpired cause s.record.game.period s.timing.rules.direction (clockLimit s.timing.rules)) := by
    unfold State.raiseExpired
    rw [hp, hrules, hv]
  rw [hrules, hx, hx]
  have hh (d : Detail) : (w.raise .clockExpired d).hornSounds .game = { w.raise .clockExpired d with
      timing := { w.timing with gameHorn := some (max (w.timing.gameHorn.getD 0) s.timing.rules.hornDuration) } } := by
    rw [← hrules]
    rfl
  rw [hh]

end Sys2Proof.Machine

namespace Sys2Proof

open Machine

/-- Settles O19. -/
theorem gameClockExpires : Obligations.GameClockExpires := by
  refine ⟨fun rest s hd => ?_, fun s hw => ?_⟩
  · have he : exec .gameClockExpiry s = .next (State.runDue .gameExpiry { s with due := rest }) :=
      congrArg Host.Outcome.next (perform_front hd rfl)
    rw [he]
    dsimp only
    split
    · next hc =>
      obtain ⟨hrun, hgate, hv⟩ := hc
      have hrd : State.runDue .gameExpiry { s with due := rest } =
          ({ s with due := rest } : State).expire ({ s with due := rest } : State).countdownDue :=
        if_pos ⟨hrun, hgate, (isAtLimit_iff s.timing).mpr hv⟩
      have hasks : ({ s with due := rest } : State).countdownDue = decide (s.timing.rules.direction = .down ∧
          s.timing.rules.regulationPeriods ≤ s.record.game.period ∧ 0 < s.timing.rules.countdownAt ∧
          s.timing.rules.countdownAsset ≠ none ∧ s.timing.v ≤ s.timing.rules.countdownAt) := by
        rw [countdownDue_eq]
        exact decide_eq_decide.mpr (by simp [hrun])
      have hexpired : s.timing.expired = { s.timing with run := .stopped, atLimit := true, expiryPending := false } := by
        unfold Timing.expired
        rw [← hv]
      rw [hrd, expire_eq, hasks]
      generalize hq : decide (s.timing.rules.direction = .down ∧ s.timing.rules.regulationPeriods ≤ s.record.game.period ∧
          0 < s.timing.rules.countdownAt ∧ s.timing.rules.countdownAsset ≠ none ∧ s.timing.v ≤ s.timing.rules.countdownAt) = asks
      let b : State := ({ s with due := rest } : State).mapTiming Timing.expired
      have hb : b.timing.run = .stopped := rfl
      have hu : (b.handOn .expiry 0).timing = _ := (handOn_stopped_timing hb .expiry 0).trans hexpired
      have hclocked := ((Clocked.start ({ s with due := rest } : State)).mapTiming Timing.expired fun _ => rfl).handOn .expiry 0
        |>.sendCountdown asks
      have hdetails : [] ++ handReports s.timing.expired s.record.game.session .expiry 0 s.record.game.period =
          [(.runChanged, .runChanged .stopped .expiry s.timing.v 0)] := by
        rw [hv]
        rfl
      refine ⟨b.handOn .expiry 0, (b.handOn .expiry 0).sendCountdown asks, ?_, hu,
        (handOn_stopped_frame hb .expiry 0).record, ?_, ?_, fun hw => ?_, ?_, fun hw => ⟨?_, ?_, ?_⟩, ?_,
        sendCountdown_frame _ asks⟩
      · refine congrArg Host.Outcome.next ?_
        by_cases hup : s.timing.rules.direction = .up ∧ s.timing.rules.runOn = true
        · rw [if_pos hup, if_pos ((upRunOn_iff _).mpr hup), ← hup.1, hv]
        · rw [if_neg hup, if_neg (mt (upRunOn_iff _).mp hup), hv]
      · rw [handOn_stopped_twin hb, tells_one, clockFields_eq, handOn_stopped_timing hb]
        rfl
      · exact handOn_stopped_canvas hb .expiry 0 ⟨rfl, rfl, rfl⟩
      · exact handOn_stopped_zonesWf hb .expiry 0 (zonesWf_of_canvas hw rfl)
      · have h := sendCountdown_checked (b.handOn .expiry 0) (asks := asks) fun ha => ?_
        · rwa [hu] at h
        · rw [hu]
          subst ha
          exact (of_decide_eq_true hq).2.2.2.1
      · exact hclocked.reports.gainsOf hw (by simp [hdetails, detailsOf])
      · exact hclocked.reports.gainsOf hw (by simp [hdetails, detailsOf])
      · exact hclocked.reports.gainsOf hw (by simp [hdetails, detailsOf])
      · rw [hu, ← hexpired]
        exact (handOn_stopped_frame hb .expiry 0).mono
    · next hc =>
      refine congrArg Host.Outcome.next (if_neg ?_)
      rwa [isAtLimit_iff]
  · dsimp only
    refine ⟨periodEnd_frame s, fun ha hp => ?_, fun ha hp => ?_, fun a ha hp => ?_, fun a ha hp => ?_⟩
    · rw [periodEnd_of_none ha, if_neg hp]
    · rw [periodEnd_of_none ha, if_pos hp]
      exact ⟨releaseLevelOne_timing s .spent, fun zone hz => releaseLevelOne_ends s .spent hz⟩
    · obtain ⟨h1, h2, h3⟩ := requestAll_replaces ⟨1, .asset a, some (s.toFrames s.timing.rules.periodEndHold), none⟩
        s.timing.outstanding s
      rw [periodEnd_switches ha hp]
      refine ⟨switchPeriodEnd_timing a _, h3, fun z hz => ⟨fun hn => ?_, fun hm hs => ?_⟩⟩
      · exact (h1 _ hn).trans (zone_of_zonesWf hw hz)
      · exact h2 _ hm z (zone_of_zonesWf hw hz) hs
    · rw [periodEnd_requests ha hp]
      refine ⟨fun hn => if_pos hn, fun hn => ?_⟩
      obtain ⟨h1, h2, h3⟩ := requestLevelOne_spec hw.ids a (some (s.toFrames s.timing.rules.periodEndHold)) .periodEnd
      rw [if_neg (show ¬s.countdownZones = [] from hn)]
      refine ⟨h1, fun zone hz => ?_, fun z hz hf => (h2 _ hf).trans (zone_of_zonesWf hw hz)⟩
      obtain ⟨y, hy, hk⟩ := h3 zone hz
      exact ⟨y, hy, hk.carries⟩

end Sys2Proof
end

section
namespace Sys2Proof.Machine

set_option Elab.async false

/-! ## Single occurrences, and kinds that only the table link's owner changes -/

/-- One more occurrence of a kind (R12). -/
theorem Gains.one {s t : State} {c : Cond} {d : Detail} (h : Gains s t c [d]) (link : Link) :
    let x := (t.link link).entry c
    x.pending = true ∧ x.count = min 255 (((s.link link).entry c).count + 1) ∧ x.latest = d := by
  intro x
  have hx : x = ((s.link link).entry c).gained [d] := h link
  rw [hx]
  exact ⟨rfl, rfl, rfl⟩

/-- A table record of a changing kind that is admitted finds the part no follower (R80). -/
theorem not_follower_of_admits {h : Hdr} {kind : Nat} {s : State} (ha : s.admits h kind = true)
    (hk : kindPermit kind = some .table := by decide) (hc : changingKinds.contains kind = true := by decide) :
    s.twin.state ≠ .follower := by
  obtain ⟨-, -, -, -, -, -, -, hp, hf⟩ := (admits_iff h kind s).mp ha
  rw [hk] at hp
  have hl : h.link = .table := by
    cases hl : h.link with
    | table => rfl
    | production => rw [hl] at hp; cases hp
  rw [hl, hc] at hf
  simpa using hf

theorem lineNow_eq (t : Timing) :
    t.lineNow = if (t.runLine = .high ↔ t.rules.polarity = .runHigh) then .run else .stop := by
  unfold Timing.lineNow gateLevelOf
  cases t.runLine <;> cases t.rules.polarity <;> rfl

theorem sampleLine_eq (s : State) : s.sampleLine =
    if s.timing.rules.source = .link ∨ s.record.game.session = .final ∨ s.twin.state = .follower then s
    else s.mapTiming fun t => { t with settled := t.lineNow } := by
  unfold State.sampleLine State.lineIgnored
  simp only [Bool.or_eq_true, beq_iff_eq, or_assoc]

/-! ## What a MASTER sends of a change of the game (R77, R80) -/

theorem sendEvent_twin (s : State) (c : Change) (n : Nat) : (s.sendEvent c n).twin =
    if s.twin.state = .master then
      { s.twin with
        eventNo := (s.twin.eventNo + 1) % 65536, out := s.twin.out ++ [.event ⟨(s.twin.eventNo + 1) % 65536, c, n⟩] }
    else s.twin := by
  unfold State.sendEvent
  split <;> rfl

theorem sendEvent_reports (s : State) (c : Change) (n : Nat) : Reports [] s (s.sendEvent c n) [] := by
  unfold State.sendEvent
  split
  · exact .of_links rfl rfl
  · exact .refl _ s

theorem handChange_reports (s : State) (c : Change) : Reports [] s (s.handChange c) [] := sendEvent_reports s c _

theorem handChange_canvas (s : State) (c : Change) : (s.handChange c).canvas = s.canvas := by
  unfold State.handChange State.sendEvent
  split <;> rfl

/-- An EVENT, then a CLOCK (R77, R80). -/
theorem handChange_sendClock_twin (s : State) (c : Change) (cause : ClockCause) : ((s.handChange c).sendClock cause).twin =
    if s.twin.state = .master then
      { s.twin with
        eventNo := (s.twin.eventNo + 1) % 65536
        out := s.twin.out ++
          [.event ⟨(s.twin.eventNo + 1) % 65536, c, s.record.game.nextSeq⟩, .clock ⟨cause, s.timing.fields⟩]
        clockTimer := some 250 }
    else s.twin := by
  have ht : (s.handChange c).timing = s.timing := (handChange_frame s c).timing
  rw [sendClock_twin, tells_one, ht, State.handChange, sendEvent_twin]
  by_cases hm : s.twin.state = .master <;> simp [hm]

/-! ## A window that closes (R28, R29) -/

section
variable {s : State}

theorem periodEnd_record (s : State) : s.periodEnd.record = s.record := by
  unfold State.periodEnd
  split
  · dsimp only
    split
    · exact (switchPeriodEnd_frame s _ _).record
    · exact (switchPeriodEnd_frame s _ _).record
    all_goals
      split
      · rfl
      · exact (requestLevelOne_frame s _ _ _).record
  · split
    · exact releaseLevelOne_record s _
    · rfl

theorem sendCountdown_record (s : State) (asks : Bool) : (s.sendCountdown asks).record = s.record := by
  rcases sendCountdown_cases s asks with ⟨-, -, h⟩ | ⟨-, -, h⟩ | ⟨-, h⟩
  · rw [h]
    exact (requestCountdown_frame s).record
  · rw [h]
    exact (requestCountdown_frame _).record.trans (releaseLevelOne_record s _)
  · rw [h]

theorem expire_record (s : State) (asks : Bool) : (s.expire asks).record = s.record := by
  have hw : (((s.mapTiming Timing.expired).handOn .expiry 0).sendCountdown asks).record = s.record :=
    (sendCountdown_record _ asks).trans (handOn_stopped_frame (s := s.mapTiming Timing.expired) rfl .expiry 0).record
  rw [expire_eq]
  dsimp only
  split
  · exact hw
  · exact (periodEnd_record _).trans hw

theorem closeWindow_record (s : State) : s.closeWindow.record = s.record := by
  have hplay (u : State) (b : Bool) : (u.playExpire b).record = u.record := (playExpire_frame u b).record
  have hclock (u : State) (c : ClockCause) : (u.sendClock c).record = u.record := (sendClock_frame u c).record
  unfold State.closeWindow
  split
  · rfl
  · exact hclock _ _
  · unfold State.rejectStop
    dsimp only
    by_cases he : s.timing.expiryPending = true <;> by_cases hp : (s.timing.playPending && s.timing.playEnabled) = true <;>
      simp only [he, hp, if_true, if_false, Bool.false_eq_true, hplay, hclock, expire_record, mapTiming_record]

/-- A window that closes (R28, R29); what a MASTER sends of it is its CLOCKs. -/
theorem closeWindow_clocked (s : State) : ∃ sent, Clocked s s.closeWindow s.timing.closed s.record.game.session
    (closeReports s.timing s.record.game.period) sent := by
  unfold State.closeWindow Timing.closed closeReports
  cases hg : s.timing.gate with
  | steady => exact ⟨_, .start s⟩
  | startPending => exact ⟨_, ((Clocked.start s).mapTiming Timing.gateSteady fun _ => rfl).sendClock .gate⟩
  | stopPending =>
    have h := (Clocked.start s).mapTiming (fun t => { t.gateSteady with expiryPending := false, playPending := false }) fun _ => rfl
    unfold State.rejectStop
    dsimp only
    rw [if_pos rfl]
    cases s.timing.expiryPending
    · cases s.timing.playPending && s.timing.playEnabled
      · exact ⟨_, h.sendClock .gate⟩
      · exact ⟨_, (h.sendClock .gate).playExpire _⟩
    · cases s.timing.playPending && s.timing.playEnabled
      · simp only [if_true, Bool.false_eq_true, if_false, List.append_nil]
        exact ⟨_, h.expire false⟩
      · exact ⟨_, (h.expire false).playExpire _⟩

theorem closed_gate (t : Timing) : t.closed.gate = .steady := by
  unfold Timing.closed
  cases hg : t.gate with
  | steady => exact hg
  | startPending => rfl
  | stopPending => cases t.expiryPending <;> cases t.playPending && t.playEnabled <;> rfl

/-- A closing window records nothing of the session. -/
theorem closeReports_session (t : Timing) (period : Nat) : detailsOf .sessionChanged (closeReports t period) = [] := by
  unfold closeReports expiryReports
  cases t.expiryPending <;> cases t.playPending && t.playEnabled <;> by_cases hg : t.gate = .stopPending <;> simp [hg, detailsOf]

/-- A closing window with nothing pending changes the gate alone. -/
theorem closeWindow_plain (h : s.timing.gate = .startPending ∨ s.timing.expiryPending = false ∧ s.timing.playPending = false) :
    s.closeWindow = if s.timing.gate = .steady then s else (s.mapTiming Timing.gateSteady).sendClock .gate := by
  unfold State.closeWindow
  cases hg : s.timing.gate with
  | steady => rfl
  | startPending => rfl
  | stopPending =>
    obtain ⟨he, hp⟩ := h.resolve_left (by simp [hg])
    have ht : ({ s.timing.gateSteady with expiryPending := false, playPending := false } : Timing) = s.timing.gateSteady := by
      simp [Timing.gateSteady, he, hp]
    have hm : (s.mapTiming fun t => { t.gateSteady with expiryPending := false, playPending := false }) = s.mapTiming Timing.gateSteady :=
      congrArg (fun t => { s with timing := t }) ht
    dsimp only
    unfold State.rejectStop
    rw [hm]
    dsimp only
    rw [he, hp]
    rfl

end

/-! ## The owners of the game records -/

theorem gameFinalOwner_eq (s : State) : gameFinalOwner s =
    if s.record.game.session = .final then s.refuse .closed
    else if s.record.game.session = .setup then s.refuse .busy
    else if s.timing.run = .running then s.refuse .busy
    else (s.finalGame .final).ok := by
  simp only [gameFinalOwner, tests_cons, tests_nil, State.isFinal, State.isRunning, beq_iff_eq]

theorem gameOpenOwner_eq (s : State) : gameOpenOwner s =
    if s.timing.run = .running then s.refuse .busy else (s.openGame .opened).ok := by
  simp only [gameOpenOwner, tests_cons, tests_nil, State.isRunning, beq_iff_eq]

theorem nextPeriodOwner_eq (s : State) : nextPeriodOwner s =
    if s.record.game.session = .final then s.refuse .closed
    else if s.timing.run = .running then s.refuse .busy
    else if s.timing.rules.maxPeriods ≤ s.record.game.period then s.refuse .range
    else (s.advancePeriod .period).ok := by
  simp only [nextPeriodOwner, tests_cons, tests_nil, State.isFinal, State.isRunning, beq_iff_eq, decide_eq_true_eq]

/-! ## GAME_FINAL (R53) -/

/-- The end of a game before an open window closes (R53). -/
def State.ended (cause : SessionCause) (s : State) : State :=
  ((s.mapGame fun g => { g with session := .final }).raiseSession s.record.game.session cause).handChange .gameFinal

section
variable (s : State) (cause : SessionCause)

theorem ended_timing : (s.ended cause).timing = s.timing := (handChange_frame _ _).timing

theorem ended_record : (s.ended cause).record = { s.record with game := { s.record.game with session := .final } } :=
  (handChange_frame _ _).record

theorem ended_frame : Frame [.session, .twinOut, .twin] s (s.ended cause) :=
  ((Frame.mono (session_frame s .final)).next (raiseSession_frame _ s.record.game.session cause)).next (handChange_frame _ _)

theorem ended_reports : Reports endNoise s (s.ended cause)
    [(.sessionChanged, .sessionChanged s.record.game.session .final cause s.record.game.period)] :=
  (((mapGame_reports s fun g => { g with session := .final }).next (.raise (by decide) _ _)).quiet (handChange_reports _ _))

theorem ended_twin : (s.ended cause).twin =
    if s.twin.state = .master then
      { s.twin with
        eventNo := (s.twin.eventNo + 1) % 65536
        out := s.twin.out ++ [.event ⟨(s.twin.eventNo + 1) % 65536, .gameFinal, s.record.game.nextSeq⟩] }
    else s.twin := sendEvent_twin _ _ _

end

theorem finalGame_eq {s : State} (hf : s.twin.state ≠ .follower) (cause : SessionCause) :
    s.finalGame cause = (s.ended cause).closeWindow := if_neg hf

theorem raiseSession_reports {K : List Cond} (hK : K.contains .sessionChanged = false) (s : State) (before : Session)
    (cause : SessionCause) : Reports K s (s.raiseSession before cause)
      [(.sessionChanged, .sessionChanged before s.record.game.session cause s.record.game.period)] := .raise hK s _

theorem sampleLine_reports (s : State) : Reports [] s s.sampleLine [] := by
  unfold State.sampleLine
  split
  · exact .refl _ s
  · exact mapTiming_reports s _

/-! ## GAME_OPEN and NEXT_PERIOD (R54, R55) -/

/-- A new game before its change is handed to the twin unit (R54). -/
def State.opened (cause : SessionCause) (s : State) : State :=
  let b := (s.cleared.clearExposure.mapGame fun g => { g with session := .setup }).raiseSession s.record.game.session cause
  if s.record.game.session = .final then b.sampleLine else b

/-- A new period before its change is handed to the twin unit (R55). -/
def State.advanced (cause : SessionCause) (s : State) : State :=
  (((s.mapGame fun g => { g with period := g.period + 1 }).resetClocks).mapGame RecordFields.perPeriod).raiseSession
    s.record.game.session cause

section
variable (s : State) (cause : SessionCause)

theorem openGame_eq : s.openGame cause = ((s.opened cause).handChange .gameOpen).sendClock .reset := rfl

theorem advancePeriod_eq : s.advancePeriod cause = ((s.advanced cause).handChange .nextPeriod).sendClock .reset := rfl

/-- A new game, from its releases on: session, exposure and the sampled line alone change. -/
theorem opened_frame : Frame [.clock, .session, .exposure] s.cleared (s.opened cause) := by
  have h : Frame [.clock, .session, .exposure] s.cleared
      ((s.cleared.clearExposure.mapGame fun g => { g with session := .setup }).raiseSession s.record.game.session cause) :=
    ((Frame.mono (clearExposure_frame _)).next (session_frame _ _)).next (raiseSession_frame _ _ _)
  exact .ite (h.next (sampleLine_frame _)) h

theorem opened_record : (s.opened cause).record.game = { newGameRecord s.record.game with session := .setup } := by
  have h : (s.cleared.clearExposure.mapGame fun g => { g with session := .setup }).record.game =
      { newGameRecord s.record.game with session := .setup } :=
    congrArg (fun g : RecordFields => { g with session := .setup }) ((clearExposure_frame _).game.trans (cleared_game s))
  unfold State.opened
  dsimp only
  split
  · exact (sampleLine_frame _).game.trans h
  · exact h

theorem opened_exposure : (s.opened cause).exposure = { s.exposure with ids := s.exposure.ids.map Exposed.openGame } := by
  have h : s.cleared.clearExposure.exposure = { s.exposure with ids := s.exposure.ids.map Exposed.openGame } :=
    congrArg (fun e : Exposure => { e with ids := e.ids.map Exposed.openGame }) (cleared_exposure s)
  unfold State.opened
  dsimp only
  split
  · exact (sampleLine_frame _).exposure.trans h
  · exact h

theorem opened_reports : Reports endNoise s (s.opened cause)
    [(.sessionChanged, .sessionChanged s.record.game.session .setup cause 1)] := by
  have hg : (s.cleared.clearExposure.mapGame fun g => { g with session := .setup }).record.game =
      { newGameRecord s.record.game with session := .setup } :=
    congrArg (fun g : RecordFields => { g with session := .setup }) ((clearExposure_frame _).game.trans (cleared_game s))
  have h := ((cleared_reports s).quiet (mapExposure_reports (K := []) s.cleared _)).quiet
    (mapGame_reports (K := []) s.cleared.clearExposure fun g => { g with session := .setup })
  have hr := h.next (raiseSession_reports (by decide) _ s.record.game.session cause)
  rw [hg] at hr
  unfold State.opened
  dsimp only
  split
  · exact hr.quiet (sampleLine_reports _)
  · exact hr

theorem opened_timing (hf : s.twin.state ≠ .follower) : (s.opened cause).timing =
    { s.timing.atReset with
      settled := if s.record.game.session = .final ∧ s.timing.rules.source = .line then s.timing.lineNow else s.timing.settled } := by
  have hb : Frame [.session, .exposure] s.cleared
      ((s.cleared.clearExposure.mapGame fun g => { g with session := .setup }).raiseSession s.record.game.session cause) :=
    ((Frame.mono (clearExposure_frame _)).next (session_frame _ _)).next (raiseSession_frame _ _ _)
  have ht := hb.timing.trans (cleared_timing s)
  have hw := hb.twin.trans (cleared_twin s)
  unfold State.opened
  dsimp only
  split
  · next hfinal =>
    rw [sampleLine_eq, ht, hw]
    have hs : ((s.cleared.clearExposure.mapGame fun g =>
      { g with session := .setup }).raiseSession s.record.game.session cause).record.game.session ≠ .final := nofun
    cases hsrc : s.timing.rules.source with
    | link =>
      rw [if_pos (.inl hsrc), ht, if_neg (by simp)]
      rfl
    | line =>
      rw [if_neg (by simp [Timing.atReset, hsrc, hs, hf]), if_pos ⟨hfinal, rfl⟩]
      exact congrArg (fun t : Timing => { t with settled := t.lineNow }) ht
  · next hfinal =>
    rw [ht, if_neg fun h => hfinal h.1]
    rfl

theorem advanced_record : (s.advanced cause).record.game =
    RecordFields.perPeriod { s.record.game with period := s.record.game.period + 1 } :=
  congrArg RecordFields.perPeriod (congrArg GameRecord.game (resetClocks_record (s.mapGame fun g => { g with period := g.period + 1 })))

theorem advanced_timing : (s.advanced cause).timing = s.timing.atReset := resetClocks_timing (s.mapGame _)

theorem advanced_twin : (s.advanced cause).twin = s.twin := (resetClocks_frame (s.mapGame _)).twin

theorem advanced_frame : Frame ([.game, .clock] ++ endParts) s (s.advanced cause) :=
  (((Frame.mono (game_frame s (fun g => { g with period := g.period + 1 }) fun _ => by rfl)).next (resetClocks_frame _)).next
    (game_frame _ _ fun _ => by rfl)).next (raiseSession_frame _ _ _)

theorem advanced_levelOne {zone : Nat} (hz : zone ∈ s.timing.outstanding) : (s.advanced cause).standsAt zone 1 = none :=
  resetClocks_ends (s := s.mapGame fun g => { g with period := g.period + 1 }) hz

theorem advanced_reports : Reports endNoise s (s.advanced cause)
    [(.sessionChanged, .sessionChanged s.record.game.session s.record.game.session cause (s.record.game.period + 1))] := by
  have hg : ((s.mapGame fun g => { g with period := g.period + 1 }).resetClocks.mapGame RecordFields.perPeriod).record.game =
      RecordFields.perPeriod { s.record.game with period := s.record.game.period + 1 } := advanced_record s cause
  have h := (((mapGame_reports (K := endNoise) s fun g => { g with period := g.period + 1 }).quiet (resetClocks_reports _)).quiet
    (mapGame_reports (K := []) _ RecordFields.perPeriod)).next (raiseSession_reports (by decide) _ s.record.game.session cause)
  rw [hg] at h
  exact h

end

end Sys2Proof.Machine

namespace Sys2Proof

open Machine

/-- Settles O23. -/
theorem gamesOpenAdvanceAndEnd : Obligations.GamesOpenAdvanceAndEnd := by
  refine ⟨fun h s ha => ?_, fun h s ha => ?_, fun h s ha => ?_⟩
  · rw [exec_admitted (owner := gameFinalOwner) ha rfl (gameFinalOwner_frame s), gameFinalOwner_eq]
    split
    · rfl
    next hfinal =>
    split
    · next hbusy =>
      rcases hbusy with hbusy | hbusy
      · rw [if_pos hbusy]
        rfl
      · rw [if_pos hbusy, ite_self]
        rfl
    next hbusy =>
    rw [not_or] at hbusy
    rw [if_neg hbusy.1, if_neg hbusy.2]
    refine ⟨_, rfl, ?_⟩
    show _ ∧ _
    rw [show ((s.finalGame .final).ok).1 = s.finalGame .final from rfl, finalGame_eq (not_follower_of_admits ha)]
    have hsession : s.record.game.session = .inGame := by
      cases hx : s.record.game.session <;> simp_all
    obtain ⟨sent, hc⟩ := closeWindow_clocked (s.ended .final)
    have hr := (ended_reports s .final).next hc.reports
    have hplain := closeWindow_plain (s := s.ended .final)
    rw [ended_timing] at hplain
    refine ⟨(closeWindow_record _).trans (ended_record s .final), (hc.reads Timing.gate).trans (closed_gate _),
      fun hw link => Gains.one (hr.gainsOf hw ?_) link, fun hm => ?_, fun hm => ⟨fun hg => ?_, fun hg => ?_⟩, fun hp => ?_⟩
    · rw [detailsOf_append, closeReports_session, hsession]
      rfl
    · rw [hc.twin, ended_twin, if_neg hm, Twin.tells, if_neg fun h => hm h.1]
    · have he : (s.ended .final).closeWindow = s.ended .final := by
        unfold State.closeWindow
        rw [ended_timing, hg]
      rw [he, ended_twin, if_pos hm]
    · have hw : ((s.ended .final).mapTiming Timing.gateSteady).twin = _ := (ended_twin s .final).trans (if_pos hm)
      rw [hplain (.inl hg), if_neg (by simp [hg]), clockFields_eq, (sendClock_frame _ _).timing, sendClock_twin, tells_one, hw,
        if_pos (by exact hm)]
      simp
    · have hf : Frame [.clock, .session, .twinOut, .twin] s (s.ended .final) := (ended_frame s .final).mono
      rw [hplain hp]
      split
      · exact ⟨ended_timing s .final, hf⟩
      · refine ⟨?_, (hf.next (clock_frame _ _ fun _ => by simp [Timing.gateSteady])).next (sendClock_frame _ _)⟩
        rw [(sendClock_frame _ _).timing, mapTiming_timing, ended_timing]
        rfl
  · rw [exec_admitted (owner := gameOpenOwner) ha rfl (gameOpenOwner_frame s), gameOpenOwner_eq]
    split
    · rfl
    have hf := not_follower_of_admits ha
    have hb := opened_frame s .opened
    have hc : Frame [.twinOut, .twin] (s.opened .opened) (s.openGame .opened) :=
      (Frame.mono (handChange_frame _ _)).next (sendClock_frame _ _)
    have ht : (s.openGame .opened).timing = _ := hc.timing.trans (opened_timing s .opened hf)
    refine ⟨s.openGame .opened, rfl, hc.game.trans (opened_record s .opened), ?_⟩
    rw [ht]
    refine ⟨rfl, rfl, rfl, rfl, rfl, rfl, rfl, rfl, fun zone hz => ?_, fun zone hz => ?_, ?_, fun hw link => ?_, ?_, ?_, ?_,
      openGame_frame s _⟩
    · exact (hc.standsAt zone 1).trans ((hb.standsAt zone 1).trans (cleared_levelOne s hz))
    · exact (hc.standsAt zone 2).trans ((hb.standsAt zone 2).trans (cleared_levelTwo s hz))
    · rw [lineNow_eq]
    · exact Gains.one (((opened_reports s .opened).quiet (handChange_reports _ _)).quiet (sendClock_reports _ _)
        |>.gainsOf hw rfl) link
    · rw [clockFields_eq, ht, openGame_eq, handChange_sendClock_twin, opened_record, opened_timing s .opened hf, hb.twin,
        cleared_twin]
      rfl
    · rw [hc.exposure, opened_exposure, List.map_map]
      exact List.map_congr_left fun e _ => by rw [Function.comp_apply, openGame_exposed]
    · rw [hc.exposure, opened_exposure]
      intro e he
      obtain ⟨x, -, rfl⟩ := List.mem_map.mp he
      rw [openGame_exposed]
      exact ⟨rfl, rfl, rfl, rfl, rfl, rfl, rfl, rfl⟩
  · rw [exec_admitted (owner := nextPeriodOwner) ha rfl (nextPeriodOwner_frame s), nextPeriodOwner_eq]
    split
    · rfl
    split
    · rfl
    split
    · rfl
    have hc : Frame [.twinOut, .twin] (s.advanced .period) (s.advancePeriod .period) :=
      (Frame.mono (handChange_frame _ _)).next (sendClock_frame _ _)
    have ht : (s.advancePeriod .period).timing = _ := hc.timing.trans (advanced_timing s .period)
    refine ⟨s.advancePeriod .period, rfl, hc.game.trans (advanced_record s .period), ?_⟩
    rw [ht]
    refine ⟨rfl, rfl, rfl, rfl, rfl, rfl, rfl, rfl, fun zone hz => ?_, fun hw link => ?_, ?_,
      (Frame.mono (advanced_frame s .period)).next hc⟩
    · exact (hc.standsAt zone 1).trans (advanced_levelOne s .period hz)
    · exact Gains.one (((advanced_reports s .period).quiet (handChange_reports _ _)).quiet (sendClock_reports _ _)
        |>.gainsOf hw rfl) link
    · rw [clockFields_eq, ht, advancePeriod_eq, handChange_sendClock_twin, advanced_twin, advanced_record, advanced_timing]
      rfl

end Sys2Proof
end

section
namespace Sys2Proof.Machine

set_option Elab.async false

/-! ## An edge of the RUN line (R25, R28, R29) -/

theorem lineEdge_eq (level : GateLevel) (s : State) : s.lineEdge level =
    if s.timing.gate = .steady then
      if level = s.timing.settled then s
      else if level = .run ∧ s.timing.run = .stopped ∧ s.timing.atLimit = false then s.openWindow .startPending
      else if level = .stop ∧ s.timing.run = .running then s.openWindow .stopPending
      else s.mapTiming fun t => { t with settled := level }
    else if level = s.timing.settled then s.closeWindow else s := by
  unfold State.lineEdge
  dsimp only
  cases s.timing.gate with
  | startPending => rfl
  | stopPending => rfl
  | steady =>
    dsimp only
    rw [if_pos rfl]
    by_cases hl : level = s.timing.settled
    · rw [if_pos hl, if_pos hl]
    · rw [if_neg hl, if_neg hl]
      cases level <;> cases s.timing.run <;> cases s.timing.atLimit <;> rfl

theorem openWindow_start (s : State) : s.openWindow .startPending =
    let u := s.mapTiming fun t => { t.gateSteady with gate := .startPending }
    if s.timing.rules.debounce = 0 then u.confirmStart else u.sendClock .gate := rfl

theorem openWindow_stop (s : State) : s.openWindow .stopPending =
    let u := s.mapTiming fun t => { t.gateSteady with gate := .stopPending }
    if s.timing.rules.debounce = 0 then u.confirmStop false else u.sendClock .gate := rfl

theorem closeWindow_start {s : State} (h : s.timing.gate = .startPending) :
    s.closeWindow = (s.mapTiming Timing.gateSteady).sendClock .gate := by
  unfold State.closeWindow
  rw [h]

theorem closeWindow_stop {s : State} (h : s.timing.gate = .stopPending) : s.closeWindow = s.rejectStop := by
  unfold State.closeWindow
  rw [h]

/-- A stop window that closes unconfirmed: what was pending is declared (R28, R39). -/
theorem rejectStop_eq (s : State) : s.rejectStop =
    let shut := s.mapTiming fun t => { t.gateSteady with expiryPending := false, playPending := false }
    let told := if s.timing.expiryPending then shut.expire false else shut.sendClock .gate
    if s.timing.playPending = true ∧ s.timing.playEnabled = true then told.playExpire s.timing.playZeroBlanked else told := by
  unfold State.rejectStop
  simp only [Bool.and_eq_true]

theorem runLineTo_eq (level : LineLevel) (s : State) : s.runLineTo level =
    let u := s.mapTiming fun t => { t with runLine := level }
    if level = s.timing.runLine then s
    else if s.timing.rules.source = .link ∨ s.record.game.session = .final ∨ s.twin.state = .follower then u
    else u.lineEdge u.timing.lineNow := by
  have hi : (s.mapTiming fun t => { t with runLine := level }).lineIgnored = true ↔
      s.timing.rules.source = .link ∨ s.record.game.session = .final ∨ s.twin.state = .follower := by
    simp only [State.lineIgnored, mapTiming_timing, mapTiming_record, mapTiming_twin, Bool.or_eq_true, beq_iff_eq, or_assoc]
  unfold State.runLineTo
  simp only [hi]

/-! ## A start window confirmed (R26, R31 to R33, R39) -/

/-- A play clock that is enabled reaches 0 within a start window (R38, R39). -/
def Timing.playsOut (t : Timing) : Bool := t.playEnabled && decide (0 < t.play) && decide (t.play ≤ t.window)

theorem playsOut_eq (t : Timing) : t.playsOut = decide (t.playEnabled = true ∧ 0 < t.play ∧ t.play ≤ t.window) := by
  rw [Bool.eq_iff_iff, decide_eq_true_eq]
  simp [Timing.playsOut, and_assoc]

/-- The clock of a confirmed start once a regulation crossing and an expiry at the start are made (R26, R32, R33). -/
def Timing.startRuns (t : Timing) : Timing :=
  if t.lineStart.isAtLimit then t.lineStart.regulated.expired else t.lineStart.regulated

/-- The clock after a confirmed start (R26, R32, R33, R39). -/
def Timing.started (t : Timing) : Timing := if t.playsOut then t.startRuns.playExpired else t.startRuns

theorem lineStart_play {t : Timing} (h : t.playsOut = true) : t.lineStart.play = 0 := by
  simp only [Timing.playsOut, Bool.and_eq_true, decide_eq_true_eq] at h
  obtain ⟨⟨he, -⟩, hw⟩ := h
  show (if t.playEnabled then t.play - t.window else t.play) = 0
  rw [if_pos he]
  omega

/-- An expiry at the limit leaves V (R32). -/
theorem expired_of_limit {t : Timing} (h : t.isAtLimit = true) :
    t.expired = { t with run := .stopped, atLimit := true, expiryPending := false } := by
  unfold Timing.expired
  rw [← (isAtLimit_iff t).mp h]

/-- The clock after a confirmed start, field by field. -/
theorem started_eq (t : Timing) : t.started =
    { t.lineStart.regulated with
      run := if t.lineStart.isAtLimit then .stopped else .running
      atLimit := t.atLimit || t.lineStart.isAtLimit
      expiryPending := !t.lineStart.isAtLimit && t.expiryPending
      playPending := !t.playsOut && t.playPending } := by
  have hruns : t.startRuns =
      { t.lineStart.regulated with
        run := if t.lineStart.isAtLimit then .stopped else .running
        atLimit := t.atLimit || t.lineStart.isAtLimit
        expiryPending := !t.lineStart.isAtLimit && t.expiryPending } := by
    unfold Timing.startRuns
    cases hl : t.lineStart.isAtLimit with
    | false =>
      rw [Bool.or_false]
      rfl
    | true =>
      rw [if_pos rfl, expired_of_limit (t := t.lineStart.regulated) hl, Bool.or_true]
      rfl
  unfold Timing.started
  rw [hruns]
  cases hp : t.playsOut with
  | false => rfl
  | true =>
    unfold Timing.playExpired
    rw [← lineStart_play hp]
    rfl

/-- What a confirmed start records (R31 to R33, R39). -/
def startReports (t : Timing) (x : Session) (period : Nat) : List (Cond × Detail) :=
  handReports t.lineStart x .line t.window period ++ crossingReports t.lineStart period ++
    (if t.lineStart.isAtLimit then expiryReports t.lineStart.regulated period else []) ++
    if t.playsOut then [(.playExpired, .playExpired t.blanked t.startRuns.v)] else []

/-- The CLOCKs of a confirmed start (R77). -/
def startSent (t : Timing) : List ClockRecord :=
  [⟨.run, t.lineStart.fields⟩] ++ (if t.lineStart.isAtLimit then [⟨.expiry, t.lineStart.regulated.expired.fields⟩] else []) ++
    if t.playsOut then [⟨.play, t.startRuns.playExpired.fields⟩] else []

theorem startSent_eq (t : Timing) : startSent t = [⟨.run, t.lineStart.fields⟩] ++
    (if t.lineStart.isAtLimit then [⟨.expiry, t.started.fields⟩] else []) ++
    if t.playsOut then [⟨.play, t.started.fields⟩] else [] := by
  have hplay : t.playsOut = true → t.startRuns.playExpired.fields = t.started.fields := fun h => by
    rw [Timing.started, if_pos h]
  have hexpiry : t.lineStart.isAtLimit = true → t.lineStart.regulated.expired.fields = t.started.fields := fun h => by
    rw [started_eq, h, expired_of_limit (t := t.lineStart.regulated) h, Bool.or_true]
    rfl
  unfold startSent
  cases hl : t.lineStart.isAtLimit <;> cases hp : t.playsOut <;> simp [hl, hp, hexpiry, hplay]

theorem startReports_run (t : Timing) (x : Session) (period : Nat) : detailsOf .runChanged (startReports t x period) =
    .runChanged .running .line t.lineStart.v t.window ::
      if t.lineStart.isAtLimit then [.runChanged .stopped .expiry (clockLimit t.rules) 0] else [] := by
  unfold startReports handReports sessionStarts crossingReports expiryReports
  simp only [detailsOf_append, detailsOf_cons, detailsOf_ite, detailsOf_nil]
  have hrun : t.lineStart.run = .running := rfl
  have hrules : t.lineStart.regulated.rules = t.rules := rfl
  simp [hrun, hrules]

section
variable {s : State}

theorem confirmStart_of_limit (h : s.timing.atLimit = true) :
    s.confirmStart = (s.mapTiming fun t => { t.gateSteady with settled := .run }).sendClock .gate := by
  unfold State.confirmStart
  dsimp only
  rw [if_pos h]

theorem confirmStart_clocked (h : s.timing.atLimit = false) :
    Clocked s s.confirmStart s.timing.started (sessionAfter .running s.record.game.session)
      (startReports s.timing s.record.game.session s.record.game.period) (startSent s.timing) := by
  have h1 := (((Clocked.start s).mapTiming Timing.lineStart fun _ => rfl).handOn .line s.timing.window).checkRegulation
  have hp : (s.timing.playEnabled = true ∧ 0 < s.timing.play ∧ s.timing.play ≤ s.timing.window) ↔ s.timing.playsOut = true := by
    rw [playsOut_eq, decide_eq_true_eq]
  unfold State.confirmStart
  dsimp only
  rw [h, if_neg Bool.false_ne_true]
  simp only [hp]
  generalize (((s.mapTiming Timing.lineStart).handOn .line s.timing.window).checkRegulation) = u at h1 ⊢
  rw [show u.timing.isAtLimit = s.timing.lineStart.isAtLimit from h1.reads Timing.isAtLimit]
  have h2 : Clocked s (if s.timing.lineStart.isAtLimit then u.expire u.countdownDue else u.checkCountdown) s.timing.startRuns
      (sessionAfter .running s.record.game.session)
      (handReports s.timing.lineStart s.record.game.session .line s.timing.window s.record.game.period ++
        crossingReports s.timing.lineStart s.record.game.period ++
        if s.timing.lineStart.isAtLimit then expiryReports s.timing.lineStart.regulated s.record.game.period else [])
      ([⟨.run, s.timing.lineStart.fields⟩] ++
        if s.timing.lineStart.isAtLimit then [⟨.expiry, s.timing.lineStart.regulated.expired.fields⟩] else []) := by
    unfold Timing.startRuns
    split
    · exact h1.expire _
    · simp only [List.append_nil]
      exact h1.sendCountdown _
  unfold Timing.started startReports startSent
  split
  · exact h2.playExpire _
  · simp only [List.append_nil]
    exact h2

end

/-! ## A stop window confirmed (R27, R31, R46) -/

theorem clockMax_eq (r : ClockRules) : clockMax r =
    match r.direction with
    | .down => r.periodLength
    | .up => if r.runOn then 5999999 else r.periodLength := by
  unfold clockMax upRunOn
  cases r.direction <;> cases r.runOn <;> rfl

theorem restore_eq (r : ClockRules) (v n : Nat) : restore r v n =
    match r.direction with
    | .down => min (v + n) r.periodLength
    | .up => min (v - n) (if r.runOn then 5999999 else r.periodLength) := by
  unfold restore
  rw [clockMax_eq]
  cases r.direction <;> rfl

theorem releaseCountdown_eq (s : State) : s.releaseCountdown =
    if s.timing.phase = .countdown ∧ s.timing.rules.countdownAt < s.timing.v then s.releaseLevelOne .idle else s := rfl

/-- V above the threshold releases a countdown, and nothing else (R46). -/
theorem releaseCountdown_spec (w : State) :
    let released := decide (w.timing.phase = .countdown ∧ w.timing.rules.countdownAt < w.timing.v)
    let t := w.releaseCountdown
    t.timing.phase = (if released then .idle else w.timing.phase) ∧
      t.timing.outstanding = (if released then [] else w.timing.outstanding) ∧
      (released = false → t.canvas = w.canvas) ∧
      (released = true → ∀ zone ∈ w.timing.outstanding, t.standsAt zone 1 = none) ∧
      (w.linksWf → w.timing.outstanding.Nodup → Gains w t .takeoverEnded (if released then
        w.timing.outstanding.filterMap fun zone => (w.standsAt zone 1).map fun stood =>
          .takeoverEnded zone 1 .released stood.1 stood.2
      else [])) := by
  dsimp only
  rw [releaseCountdown_eq]
  by_cases hr : w.timing.phase = .countdown ∧ w.timing.rules.countdownAt < w.timing.v
  · rw [if_pos hr, decide_eq_true hr, releaseLevelOne_timing]
    refine ⟨rfl, rfl, nofun, fun _ zone hz => releaseLevelOne_ends w .idle hz, fun hw hn => ?_⟩
    have h := (endAll_told w .released (w.timing.outstanding.map fun z => (z, 1)) (hn.map fun a b hab => (Prod.mk.inj hab).1)).next
      (mapTiming_reports _ fun t => { t with outstanding := [], phase := .idle })
    refine h.gainsOf hw ?_
    rw [List.append_nil, detailsOf_kind_map, List.filterMap_map]
    rfl
  · rw [if_neg hr, decide_eq_false hr]
    exact ⟨rfl, rfl, fun _ => rfl, nofun, fun hw _ => (Reports.refl [] w).gainsOf hw rfl⟩

/-- A confirmed stop handed on, before what the arbiter is asked for (R27, R31). -/
def State.stopHanded (s : State) : State := (s.mapTiming Timing.lineStop).handOn .line s.timing.counted

section
variable (s : State)

theorem confirmStop_eq (asks : Bool) : s.confirmStop asks = (s.stopHanded.sendCountdown asks).releaseCountdown := rfl

theorem stopHanded_timing : s.stopHanded.timing = s.timing.lineStop := handOn_stopped_timing (s := s.mapTiming _) rfl _ _

theorem stopHanded_reports : Reports [] s s.stopHanded
    [(.runChanged, .runChanged .stopped .line s.timing.lineStop.v s.timing.counted)] := by
  unfold State.stopHanded
  rw [handOn_stopped_eq (s := s.mapTiming Timing.lineStop) rfl]
  exact (((mapTiming_reports (K := []) s Timing.lineStop).next (.raise rfl _ _)).quiet (evaluateAll_reports _ _)).quiet
    (sendClock_reports _ _)

theorem confirmStop_clocked (asks : Bool) : Clocked s (s.confirmStop asks) s.timing.lineStop s.record.game.session
    [(.runChanged, .runChanged .stopped .line s.timing.lineStop.v s.timing.counted)] [⟨.run, s.timing.lineStop.fields⟩] :=
  (((((Clocked.start s).mapTiming Timing.lineStop fun _ => rfl).handOn .line s.timing.counted).sendCountdown asks).quiet
    (releaseCountdown_frame _) (releaseCountdown_reports _))

/-- An event that asks for a countdown outside PERIOD_END ends no takeover (R45). -/
theorem sendCountdown_ends_none {asks : Bool} (h : asks = false ∨ s.timing.phase ≠ .periodEnd) :
    Reports [] s (s.sendCountdown asks) [] := by
  rcases sendCountdown_cases s asks with ⟨-, -, he⟩ | ⟨ha, hp, -⟩ | ⟨-, he⟩
  · rw [he]
    exact requestCountdown_reports s
  · simp [ha, hp] at h
  · rw [he]
    exact .refl _ s

end

end Sys2Proof.Machine

namespace Sys2Proof

open Machine

/-- Settles O18. -/
theorem runLineWindowsAreConfirmed : Obligations.RunLineWindowsAreConfirmed := by
  refine ⟨fun level s hd => ?_, fun rest s hd hg hw => ?_, fun rest s hd hg hw => ?_⟩
  · have he : exec (.runLineEdge level) s = .next (s.runLineTo level) := by
      show Host.Outcome.next (s.settle.runLineTo level) = _
      rw [settle_of_due_nil s hd]
    rw [he, runLineTo_eq]
    dsimp only
    rw [← lineNow_eq { s.timing with runLine := level }]
    refine congrArg Host.Outcome.next ?_
    split
    · rfl
    split
    · rfl
    rw [lineEdge_eq]
    by_cases hg : s.timing.gate = .steady
    · exact (if_pos hg).trans (if_pos hg).symm
    · refine (if_neg hg).trans (Eq.trans ?_ (if_neg hg).symm)
      by_cases hnow : ({ s.timing with runLine := level } : Timing).lineNow = s.timing.settled
      · refine (if_pos hnow).trans ?_
        cases hp : s.timing.gate with
        | steady => exact absurd hp hg
        | startPending => rw [if_pos ⟨hnow, rfl⟩]; exact closeWindow_start hp
        | stopPending =>
          rw [if_neg fun h => Gate.noConfusion h.2, if_pos hnow]
          exact (closeWindow_stop (s := s.mapTiming fun t => { t with runLine := level }) hp).trans (rejectStop_eq _)
      · exact (if_neg hnow).trans ((if_neg fun h => hnow h.1).trans (if_neg hnow)).symm
  · let b : State := { s with due := rest }
    have he : exec .startWindowConfirm s = .next b.confirmStart :=
      congrArg Host.Outcome.next ((perform_front hd rfl).trans (if_pos ⟨hg, hw⟩))
    refine ⟨b.confirmStart, he, ?_⟩
    intro m n v
    have hv : s.timing.lineStart.v = v := countToward_eq s.timing.rules s.timing.v s.timing.window
    clear_value v
    subst hv
    have hlimit : s.timing.lineStart.isAtLimit = decide (s.timing.lineStart.v = clockLimit s.timing.rules) := rfl
    cases ha : s.timing.atLimit with
    | true =>
      have hs := confirmStart_of_limit (s := b) ha
      have hn : n = { s.timing.gateSteady with settled := .run } :=
        (congrArg State.timing hs).trans (sendClock_frame _ _).timing
      refine ⟨congrArg Timing.gate hn, congrArg Timing.settled hn, congrArg Timing.window hn,
        (congrArg Timing.rules hn).trans rfl,
        fun _ => ⟨(congrArg Timing.v hn).trans rfl, (congrArg Timing.run hn).trans rfl, (congrArg Timing.play hn).trans rfl,
          ?_, ?_, fun link => ?_, ?_⟩, nofun,
        confirmStart_frame b⟩
      · rw [hs]
        exact (sendClock_frame _ _).record
      · rw [hs, sendClock_canvas]
        rfl
      · rw [hs, (sendClock_reports _ _).link link]
        cases link <;> rfl
      · rw [hs, sendClock_twin, tells_one, clockFields_eq, (sendClock_frame _ _).timing]
        rfl
    | false =>
      have hc := confirmStart_clocked (s := b) ha
      have ht := started_eq s.timing
      have hplay : n.play = s.timing.lineStart.play := (hc.reads Timing.play).trans ((congrArg Timing.play ht).trans rfl)
      have hrun : n.run = if s.timing.lineStart.isAtLimit then .stopped else .running :=
        (hc.reads Timing.run).trans ((congrArg Timing.run ht).trans rfl)
      have hat : n.atLimit = (s.timing.atLimit || s.timing.lineStart.isAtLimit) :=
        (hc.reads Timing.atLimit).trans ((congrArg Timing.atLimit ht).trans rfl)
      refine ⟨(hc.reads Timing.gate).trans (congrArg Timing.gate ht), (hc.reads Timing.settled).trans (congrArg Timing.settled ht),
        (hc.reads Timing.window).trans (congrArg Timing.window ht), (hc.reads Timing.rules).trans ((congrArg Timing.rules ht).trans rfl),
        nofun, fun _ => ⟨(hc.reads Timing.v).trans ((congrArg Timing.v ht).trans rfl), hplay, ?_, ?_, ?_, fun hw link => ?_, ?_⟩,
        confirmStart_frame b⟩
      · rw [hrun, hlimit]
        simp only [decide_eq_true_eq]
        rfl
      · rw [hat, ha, hlimit]
        rfl
      · rw [hc.session]
        simp [sessionAfter, b]
      · have hg : Gains s b.confirmStart _ _ := hc.reports.gainsOf hw (startReports_run s.timing _ _)
        intro e x
        have hx : x = e.gained _ := hg link
        rw [hx]
        by_cases hl : s.timing.lineStart.v = clockLimit s.timing.rules
        · simp only [hlimit, decide_eq_true hl, if_pos hl, if_true, m]
          rw [hl]
          exact ⟨rfl, rfl, rfl, rfl⟩
        · simp only [hlimit, decide_eq_false hl, if_neg hl, Bool.false_eq_true, if_false, m]
          exact ⟨rfl, rfl, rfl, rfl⟩
      · have hfields : b.confirmStart.clockFields = s.timing.started.fields := hc.reads Timing.fields
        rw [hc.twin, startSent_eq, tells_of_ne _ (by simp), hfields, hplay, hlimit, playsOut_eq]
        simp only [List.map_append, apply_ite (List.map TwinRecord.clock), List.map_cons, List.map_nil, decide_eq_true_eq,
          ← List.append_assoc]
        rfl
  · let b : State := { s with due := rest }
    have he : exec .stopWindowConfirm s = .next (b.confirmStop b.countdownDue) :=
      congrArg Host.Outcome.next ((perform_front hd rfl).trans (if_pos ⟨hg, hw⟩))
    refine ⟨b.confirmStop b.countdownDue, he, ?_⟩
    intro m n v
    have hv : s.timing.lineStop.v = v := restore_eq s.timing.rules s.timing.v s.timing.counted
    clear_value v
    subst hv
    have hc := confirmStop_clocked b b.countdownDue
    have hu := stopHanded_timing b
    have ht : (b.confirmStop b.countdownDue).timing = _ :=
      ((sendCountdown_frame b.stopHanded b.countdownDue).next (releaseCountdown_frame _)).clock
    have hwt : (b.stopHanded.sendCountdown b.countdownDue).timing = _ := (sendCountdown_frame b.stopHanded b.countdownDue).clock
    rw [hu] at ht hwt
    have hv : n.v = s.timing.lineStop.v := (congrArg Timing.v ht).trans rfl
    have hspec := releaseCountdown_spec (b.stopHanded.sendCountdown b.countdownDue)
    rw [show (b.stopHanded.sendCountdown b.countdownDue).timing.rules = s.timing.rules from (congrArg Timing.rules hwt).trans rfl,
      show (b.stopHanded.sendCountdown b.countdownDue).timing.v = s.timing.lineStop.v from (congrArg Timing.v hwt).trans rfl]
      at hspec
    obtain ⟨hphase, hout, hstands, hends, htold⟩ := hspec
    have hstop : (b.mapTiming Timing.lineStop).timing.run = .stopped := rfl
    refine ⟨hv, congrArg Timing.gate ht, congrArg Timing.settled ht, congrArg Timing.window ht,
      congrArg Timing.run ht, congrArg Timing.expiryPending ht, congrArg Timing.playPending ht, congrArg Timing.play ht,
      fun hl => ?_, hc.session, ⟨b.stopHanded, b.stopHanded.sendCountdown b.countdownDue, ?_, ?_, fun hw => ?_, ?_,
        sendCountdown_frame _ _, ?_, ?_, ?_, ?_, fun hw ha => ?_, fun hw hn => ?_⟩, fun hw link => ?_, ?_, confirmStop_frame b _⟩
    · exact (congrArg Timing.atLimit ht).trans (if_neg fun h => hl (hv.trans h))
    · exact handOn_stopped_canvas hstop .line _ ⟨rfl, rfl, rfl⟩
    · show b.stopHanded.timing = { (b.confirmStop b.countdownDue).timing with
        phase := s.timing.phase, outstanding := s.timing.outstanding }
      rw [hu, ht]
      rfl
    · exact handOn_stopped_zonesWf hstop .line _ (zonesWf_of_canvas hw rfl)
    · have h := sendCountdown_checked b.stopHanded fun ha => by
        rw [hu]
        exact countdownDue_asset ha
      rw [hu] at h
      exact (congrArg (fun a => CountdownChecked a s.timing.phase b.stopHanded _) (countdownDue_eq b)).mp h
    · exact hphase
    · exact hout
    · exact hstands
    · exact hends
    · refine ((stopHanded_reports b).next (sendCountdown_ends_none b.stopHanded ?_)).gainsOf hw rfl
      rw [hu]
      exact ha.imp_left (countdownDue_eq b).trans
    · refine htold (OnlyRaises.linksWf ?_ hw) hn
      exact (handOn_stopped_frame hstop .line _).links.trans (sendCountdown_frame _ _).links
    · exact Gains.one (hc.reports.gainsOf hw rfl) link
    · rw [hc.twin, tells_one, clockFields_eq, hc.reads Timing.fields]

end Sys2Proof
end

section
namespace Sys2Proof.Machine

set_option Elab.async false

/-! ## While the clock is RUNNING, nothing with policy CUT comes into service (R108, R111) -/

/-- No level with policy CUT is in service (R111). -/
def State.noCut (s : State) : Prop :=
  ∀ k z, s.zone? k = some z → ∀ l, policyAt z.spec.policy l = .cut → z.arb.serviceAt l = none

/-- From `s` to `t` the run state stands, and while it is RUNNING no level with policy CUT comes into service. -/
structure CutsStay (s t : State) : Prop where
  run : t.timing.run = s.timing.run
  keeps : s.timing.run = .running → s.noCut → t.noCut

theorem grantable_running_not_cut {z : Zone} {l : Nat} (h : z.grantable .running l = true) : policyAt z.spec.policy l ≠ .cut := by
  intro hc
  have h0 : l ≠ 0 := fun h0 => by
    subst h0
    cases hc
  simp [Zone.grantable, heldAt, hc, h0] at h

namespace CutsStay

theorem refl (s : State) : CutsStay s s := ⟨rfl, fun _ => id⟩

theorem trans {s t u : State} (h : CutsStay s t) (k : CutsStay t u) : CutsStay s u :=
  ⟨k.run.trans h.run, fun hr hn => k.keeps (h.run.trans hr) (h.keeps hr hn)⟩

theorem foldl {α : Type} (f : State → α → State) (hf : ∀ s a, CutsStay s (f s a)) (l : List α) (s : State) :
    CutsStay s (l.foldl f s) := by
  induction l generalizing s with
  | nil => exact refl s
  | cons a l ih => exact (hf s a).trans (ih _)

theorem ite {s t u : State} {c : Prop} [Decidable c] (ht : CutsStay s t) (hu : CutsStay s u) : CutsStay s (if c then t else u) := by
  split
  · exact ht
  · exact hu

theorem of_zones {s t : State} (hz : t.canvas.zones = s.canvas.zones) (hr : t.timing.run = s.timing.run) : CutsStay s t := by
  refine ⟨hr, fun _ hn k z hk => hn k z ?_⟩
  rw [← zone_of_canvas hz]
  exact hk

/-- An operation that leaves zones and clock. -/
theorem of_frame {P : List Part} {s t : State} (h : Frame P s t)
    (hP : (P.contains .zones || P.contains .clock) = false := by decide) : CutsStay s t := by
  simp only [Bool.or_eq_false_iff] at hP
  exact of_zones (h.zones hP.1) (congrArg Timing.run (h.bare hP.2) :)

/-- An update of a zone's arbitration state that brings no level with policy CUT into service while the clock is RUNNING. -/
theorem mapArb (s : State) (zone : Nat) (f : ZoneArb → ZoneArb)
    (hf : s.timing.run = .running → ∀ z, s.zone? zone = some z → ∀ l, policyAt z.spec.policy l = .cut →
      z.arb.serviceAt l = none → (f z.arb).serviceAt l = none) : CutsStay s (s.mapArb zone f) := by
  refine ⟨rfl, fun hr hn k y hk l hc => ?_⟩
  rw [zone_mapArb] at hk
  obtain ⟨z, hz, rfl⟩ := Option.map_eq_some_iff.mp hk
  by_cases hkz : k = zone
  · subst hkz
    rw [if_pos rfl] at hc ⊢
    exact hf hr z hz l hc (hn k z hz l hc)
  · rw [if_neg hkz] at hc ⊢
    exact hn k z hz l hc

theorem record (s : State) (zone : Nat) (r : Request) : CutsStay s (s.mapArb zone (ZoneArb.record r)) :=
  mapArb s zone _ fun _ _ _ _ _ hn => hn

theorem evaluate (s : State) (zone : Nat) : CutsStay s (s.evaluate zone) := by
  unfold State.evaluate
  split
  · next r hr =>
    obtain ⟨z, hz, hg⟩ := Option.bind_eq_some_iff.mp hr
    refine trans (mapArb s zone _ fun hrun y hy l hc hn => ?_) (of_frame (noteGrant_frame _ _ _))
    cases hz.symm.trans hy
    have hgrant : z.grantable .running r.level = true := by
      rw [← hrun]
      simpa using List.find?_some hg
    have hl : l ≠ r.level := fun h => grantable_running_not_cut hgrant (h ▸ hc)
    have hlevel := level_grant z.arb l r (s.canvas.frame + 1)
    rw [if_neg hl] at hlevel
    simp only [ZoneArb.level, Prod.mk.injEq] at hlevel
    exact hlevel.2.1.trans hn
  · exact refl s

theorem evaluateAll (s : State) (zones : List Nat) : CutsStay s (s.evaluateAll zones) := foldl _ evaluate zones s

theorem request (s : State) (zone : Nat) (r : Request) : CutsStay s (s.request zone r false).1 := by
  have h := (record s zone r).trans (evaluate _ zone)
  unfold State.request
  split
  · exact refl s
  · split
    · exact refl s
    · split
      · exact refl s
      · dsimp only
        split <;> exact h

theorem requestAll (s : State) (r : Request) (zones : List Nat) : CutsStay s (s.requestAll r false zones).1 := by
  induction zones generalizing s with
  | nil => exact refl s
  | cons z zones ih =>
    rw [requestAll_cons]
    exact (request s z r).trans (ih _)

theorem mapRotation (s : State) (f : Rotation → Rotation) : CutsStay s (s.mapRotation f) := of_zones rfl rfl

theorem mapCrawl (s : State) (f : Crawl → Crawl) : CutsStay s (s.mapCrawl f) := of_zones rfl rfl

theorem finishCard (s : State) (id : Nat) : CutsStay s (s.finishCard id) := of_frame (finishCard_frame s id)

theorem startFeatures (fs : List Feature) (s : State) : CutsStay s (s.startFeatures fs) := by
  induction fs generalizing s with
  | nil => exact of_zones rfl rfl
  | cons f fs ih =>
    unfold State.startFeatures
    dsimp only
    exact (requestAll s _ _).trans (.ite ((mapRotation _ _).trans (ih _)) (mapRotation _ _))

theorem startCards (ids : List Nat) (s : State) : CutsStay s (s.startCards ids) := by
  induction ids generalizing s with
  | nil => exact of_zones rfl rfl
  | cons id ids ih =>
    unfold State.startCards
    dsimp only
    exact (requestAll s _ _).trans (.ite (((mapCrawl _ _).trans (finishCard _ _)).trans (ih _)) (mapCrawl _ _))

theorem followUps (s : State) : CutsStay s s.followUps := by
  have hfeature : CutsStay s s.featureFollow := by
    unfold State.featureFollow
    split
    · exact .ite (startFeatures _ s) (refl s)
    · exact refl s
  have hcard (u : State) : CutsStay u u.cardFollow := by
    unfold State.cardFollow
    split
    · exact .ite (((mapCrawl _ _).trans (finishCard _ _)).trans (startCards _ _)) (refl u)
    · exact refl u
  exact hfeature.trans (hcard _)

theorem tellOwner (s : State) (zone level : Nat) (o : Outcome) : CutsStay s (s.tellOwner zone level o) := by
  unfold State.tellOwner
  split
  · exact of_zones rfl rfl
  · exact of_zones rfl rfl
  · exact of_frame (channelEnded_frame _ _ _ _)
  · exact of_frame (channelEnded_frame _ _ _ _)
  · exact of_zones rfl rfl
  · exact of_zones rfl rfl
  · exact refl s

theorem remove (s : State) (zone level : Nat) : CutsStay s (s.mapArb zone (ZoneArb.remove level)) := by
  refine mapArb s zone _ fun _ z _ l _ hn => ?_
  have hl := level_remove z.arb l level
  simp only [ZoneArb.level] at hl
  split at hl <;> simp_all

theorem endOne (s : State) (o : Outcome) (zone level : Nat) : CutsStay s (s.endOne o zone level) := by
  unfold State.endOne
  split
  · exact ((remove s zone level).trans (of_frame (raise_frame _ _ _))).trans (tellOwner _ _ _ _)
  · exact refl s

theorem endEach (s : State) (o : Outcome) (items : List (Nat × Nat)) : CutsStay s (s.endEach o items) :=
  foldl _ (fun s (i : Nat × Nat) => endOne s o i.1 i.2) items s

theorem endAll (s : State) (o : Outcome) (items : List (Nat × Nat)) : CutsStay s (s.endAll o items) :=
  ((endEach s o items).trans (evaluateAll _ _)).trans (followUps _)

theorem releaseLevelOne (s : State) (phase : Phase) : CutsStay s (s.releaseLevelOne phase) :=
  trans (endAll s .released (s.timing.outstanding.map fun z => (z, 1))) (of_zones rfl rfl)

theorem sendCountdown (s : State) (asks : Bool) : CutsStay s (s.sendCountdown asks) := by
  have hrequest (u : State) : CutsStay u u.requestCountdown := by
    unfold State.requestCountdown
    split
    · exact (requestAll u _ _).trans (of_zones rfl rfl)
    · exact refl u
  rcases sendCountdown_cases s asks with ⟨-, -, h⟩ | ⟨-, -, h⟩ | ⟨-, h⟩
  · rw [h]
    exact hrequest s
  · rw [h]
    exact (releaseLevelOne s _).trans (hrequest _)
  · rw [h]
    exact refl s

theorem checkCountdown (s : State) : CutsStay s s.checkCountdown := sendCountdown s _

end CutsStay

/-- A confirmed start ends what its policy cuts (R111). -/
theorem endEach_cut_noCut (s : State) : (s.endEach .cut (s.serviceItems cutAtStart)).noCut := by
  intro k y hk l hc
  by_contra hserved
  obtain ⟨t, ht⟩ := Option.ne_none_iff_exists'.mp hserved
  have hstands : (s.endEach .cut (s.serviceItems cutAtStart)).standsAt k l = some (.inService, t.served) := by
    simp [State.standsAt, hk, ZoneArb.standing, ht]
  have hitem : (k, l) ∉ s.serviceItems cutAtStart := fun hm => by
    have hends : _ = none := endEach_ends .cut _ s (k, l) hm
    rw [hstands] at hends
    cases hends
  rw [endEach_standsAt_other .cut _ s (j := (k, l)) hitem] at hstands
  have hrule : ArbRule fun _ _ _ => True := ⟨fun _ _ => trivial, fun _ _ => trivial, fun _ _ _ _ _ => trivial⟩
  have hspec := (endEach_zoneWise hrule s .cut (s.serviceItems cutAtStart) fun _ _ _ _ => trivial).zones k
  obtain ⟨z, hz, hst⟩ := Option.bind_eq_some_iff.mp hstands
  rw [hk, hz] at hspec
  cases hw : z.arb.serviceAt l with
  | none => cases hp : z.arb.pendingAt l <;> simp [ZoneArb.standing, hw, hp] at hst
  | some q =>
    have hq : q.level = l := by simpa using List.find?_some hw
    have h0 : l ≠ 0 := fun h0 => by
      subst h0
      cases hc
    have hcut : cutAtStart z q = true := by
      rw [hspec.1] at hc
      simp [cutAtStart, hq, h0, hc]
    exact hitem (List.mem_flatMap.mpr ⟨z, zone_mem hz,
      List.mem_map.mpr ⟨q, List.mem_filter.mpr ⟨List.mem_of_find?_eq_some hw, hcut⟩, by rw [zone_spec_id hz, hq]⟩⟩)

theorem arbiterStart_noCut {s : State} (hr : s.timing.run = .running) : s.arbiterStart.noCut := by
  have hends := CutsStay.endEach s .cut (s.serviceItems cutAtStart)
  have hrest := (CutsStay.evaluateAll (s.endEach .cut (s.serviceItems cutAtStart)) s.zoneIds).trans (.followUps _)
  exact hrest.keeps (hends.run.trans hr) (endEach_cut_noCut s)

/-! ## CLOCK_START and CLOCK_STOP (R30, R31, R111) -/

theorem clockStartOwner_eq (s : State) : clockStartOwner s =
    if s.record.game.session = .final then s.refuse .closed
    else if s.timing.rules.source = .line then s.refuse .wrongSource
    else if s.timing.atLimit = true then s.refuse .busy
    else if s.timing.run = .running then s.ok
    else s.linkStart.ok := by
  simp only [clockStartOwner, tests_cons, tests_nil, beq_iff_eq, apply_ite State.ok]

theorem clockStopOwner_eq (s : State) : clockStopOwner s =
    if s.record.game.session = .final then s.refuse .closed
    else if s.timing.rules.source = .line then s.refuse .wrongSource
    else if s.timing.run = .running then s.linkStop.ok
    else s.ok := by
  simp only [clockStopOwner, tests_cons, tests_nil, beq_iff_eq, apply_ite State.ok]

/-- The clock that CLOCK_START starts (R30). -/
def Timing.linkRuns (t : Timing) : Timing := { t with run := .running }

theorem linkStart_clocked (s : State) : Clocked s s.linkStart s.timing.linkRuns.regulated
    (sessionAfter .running s.record.game.session)
    (handReports s.timing.linkRuns s.record.game.session .link 0 s.record.game.period ++
      crossingReports s.timing.linkRuns s.record.game.period) [⟨.run, s.timing.linkRuns.fields⟩] :=
  ((((Clocked.start s).mapTiming Timing.linkRuns fun _ => rfl).handOn .link 0).checkRegulation).checkCountdown

/-- What a start records of run changes is the start (R31). -/
theorem linkStart_run (t : Timing) (x : Session) (period : Nat) :
    detailsOf .runChanged (handReports t.linkRuns x .link 0 period ++ crossingReports t.linkRuns period) =
      [.runChanged .running .link t.v 0] := by
  unfold handReports sessionStarts crossingReports
  rw [detailsOf_append, detailsOf_cons, detailsOf_ite, detailsOf_ite]
  simp [detailsOf, Timing.linkRuns]

/-- The clock that CLOCK_STOP stops (R30). -/
def Timing.linkStops (t : Timing) : Timing := { t with run := .stopped }

theorem linkStop_clocked (s : State) : Clocked s s.linkStop s.timing.linkStops s.record.game.session
    [(.runChanged, .runChanged .stopped .link s.timing.v 0)] [⟨.run, s.timing.linkStops.fields⟩] :=
  ((Clocked.start s).mapTiming Timing.linkStops fun _ => rfl).handOn .link 0

/-- What a stop reaches: the run change handed on, from the stopped clock. -/
theorem linkStop_frame_stopped (s : State) : Frame [.zones, .channels, .twinOut] (s.mapTiming Timing.linkStops) s.linkStop :=
  handOn_stopped_frame (s := s.mapTiming Timing.linkStops) rfl .link 0

theorem handOn_running_eq {s : State} (hr : s.timing.run = .running) (cause : RunCause) (n : Nat) : s.handOn cause n =
    (((s.raise .runChanged (.runChanged .running cause s.timing.v n)).arbiterStart).sessionStart .running).sendClock
      (clockCauseOf cause) := by
  unfold State.handOn
  rw [hr]

theorem checkRegulation_cuts (s : State) : CutsStay s s.checkRegulation :=
  .of_zones (congrArg Canvas.zones (checkRegulation_canvas s)) (congrArg Timing.run (checkRegulation_timing s) :)

theorem checkRegulation_masks (s : State) : MasksKept s s.checkRegulation := by
  unfold MasksKept
  rw [checkRegulation_canvas]

/-- No takeover whose policy is CUT stays in service once a start is handed on (R111). -/
theorem handOn_running_noCut {s : State} (hr : s.timing.run = .running) (cause : RunCause) (n : Nat) : (s.handOn cause n).noCut := by
  have hrun : (s.raise .runChanged (.runChanged .running cause s.timing.v n)).timing.run = .running := hr
  rw [handOn_running_eq hr]
  generalize s.raise .runChanged (.runChanged .running cause s.timing.v n) = b at hrun ⊢
  exact ((CutsStay.of_frame (sessionStart_frame b.arbiterStart _)).trans (.of_frame (sendClock_frame _ _))).keeps
    ((congrArg Timing.run (arbiterStart_frame b).bare :).trans hrun) (arbiterStart_noCut hrun)

theorem linkStart_noCut (s : State) : s.linkStart.noCut := by
  have hrun : ((s.mapTiming Timing.linkRuns).handOn .link 0).timing.run = .running := by
    have h := congrArg Timing.run (handOn_frame (s.mapTiming Timing.linkRuns) .link 0).bare
    exact h
  exact ((checkRegulation_cuts _).trans (.checkCountdown _)).keeps hrun (handOn_running_noCut (s := s.mapTiming Timing.linkRuns) rfl _ _)

theorem sendCountdown_masks (s : State) (asks : Bool) : MasksKept s (s.sendCountdown asks) := by
  have hrequest (u : State) : MasksKept u u.requestCountdown := by
    unfold State.requestCountdown
    split
    · exact (masksKept_walk .released).requestAll u _ _ _
    · rfl
  rcases sendCountdown_cases s asks with ⟨-, -, h⟩ | ⟨-, -, h⟩ | ⟨-, h⟩
  · rw [h]
    exact hrequest s
  · rw [h]
    exact (hrequest _).trans (releaseLevelOne_masks s _)
  · rw [h]
    rfl

theorem checkCountdown_masks (s : State) : MasksKept s s.checkCountdown := sendCountdown_masks s _

theorem linkStart_masks (s : State) : MasksKept s s.linkStart := by
  have w := masksKept_walk .cut
  have hhanded : MasksKept s ((s.mapTiming Timing.linkRuns).handOn .link 0) := by
    rw [handOn_running_eq rfl]
    refine w.trans (t := ((s.mapTiming Timing.linkRuns).raise .runChanged (.runChanged .running .link s.timing.v 0)).arbiterStart)
      ?_ ?_
    · exact w.trans (w.endEach ((s.mapTiming Timing.linkRuns).raise .runChanged _) _) (w.trans (w.evaluateAll _ _) (w.followUps _))
    · exact w.trans (.of_frame (sessionStart_frame _ _)) (.of_frame (sendClock_frame _ _))
  exact w.trans hhanded (w.trans (checkRegulation_masks _) (checkCountdown_masks _))

end Sys2Proof.Machine
end

section
namespace Sys2Proof.Machine

set_option Elab.async false

/-! ## CLOCK_RULES (R24, R29) -/

theorem optAtMost_iff (n : Nat) (o : Option Nat) : optAtMost n o = true ↔ ∀ a ∈ o, a ≤ n := by
  cases o <;> simp [optAtMost]

theorem within_iff (lo hi n : Nat) : within lo hi n = true ↔ lo ≤ n ∧ n ≤ hi := by simp [within]

/-- The bounds of the rules, as Table 2-2 gives them (R24). -/
theorem rulesOk_iff (r : ClockRules) (period : Nat) : rulesOk r period = true ↔
    (1000 ≤ r.periodLength ∧ r.periodLength ≤ 5940000 ∧ r.periodLength % 1000 = 0) ∧
      (r.runOn = true → r.direction = .up) ∧ (r.tenths ≤ 60000 ∧ r.tenths % 1000 = 0) ∧ r.countdownAt ≤ 60000 ∧
      r.periodEndHold ≤ 30000 ∧ (1 ≤ r.regulationPeriods ∧ r.regulationPeriods ≤ 9) ∧
      (r.regulationPeriods ≤ r.maxPeriods ∧ r.maxPeriods ≤ 19) ∧ period ≤ r.maxPeriods ∧
      r.debounce ≤ 50 ∧ (200 ≤ r.hornDuration ∧ r.hornDuration ≤ 5000) ∧
      (1 ≤ r.playPrimary ∧ r.playPrimary ≤ 99) ∧ (1 ≤ r.playSecondary ∧ r.playSecondary ≤ 99) ∧
      (∀ a ∈ r.countdownAsset, a ≤ 1023) ∧ ∀ a ∈ r.periodEndAsset, a ≤ 1023 := by
  have hrun : (!r.runOn || r.direction == .up) = true ↔ (r.runOn = true → r.direction = .up) := by
    cases r.runOn <;> simp
  unfold rulesOk
  simp only [Bool.and_eq_true, within_iff, optAtMost_iff, beq_iff_eq, decide_eq_true_eq, hrun, and_assoc]

theorem clockRulesOwner_eq (r : ClockRules) (s : State) : clockRulesOwner r s =
    if s.record.game.session = .final then s.refuse .closed
    else if s.record.game.session = .inGame then s.refuse .locked
    else if s.timing.gate ≠ .steady then s.refuse .busy
    else if ¬rulesOk r s.record.game.period = true then s.refuse .range
    else (s.mapTiming (Timing.setRules r)).sampleLine.sendStateIfMaster.ok := by
  simp only [clockRulesOwner, tests_cons, tests_nil, beq_iff_eq, bne_iff_ne, Bool.not_eq_true', Bool.not_eq_true]

/-- The timing unit after CLOCK_RULES (R24, R29). -/
theorem setRules_sampled {s : State} (r : ClockRules) (hf : s.twin.state ≠ .follower) (hs : s.record.game.session ≠ .final) :
    (s.mapTiming (Timing.setRules r)).sampleLine =
      { s with timing :=
        { s.timing with
          rules := r
          v := clockStartValue r
          atLimit := false
          expiryPending := false
          regulation := false
          play := r.playPrimary * 1000
          phase := .idle
          settled := if r.source = .link then s.timing.settled else gateLevelOf r.polarity s.timing.runLine } } := by
  rw [sampleLine_eq]
  by_cases hl : r.source = .link
  · rw [if_pos (.inl hl), if_pos hl]
    rfl
  · rw [if_neg (by simp [Timing.setRules, hl, hf, hs]), if_neg hl]
    rfl

theorem gateLevelOf_eq (p : Polarity) (l : LineLevel) :
    gateLevelOf p l = if (l = .high ↔ p = .runHigh) then .run else .stop := by
  cases p <;> cases l <;> rfl

/-! ## CLOCK_SET (R33, R34, R46, R47) -/

theorem clockMax_bound (r : ClockRules) :
    clockMax r = if r.direction = .up ∧ r.runOn = true then 5999999 else r.periodLength := by
  unfold clockMax
  simp only [upRunOn_iff]

theorem regulationAfter_eq (t : Timing) : t.regulationAfter =
    { t with regulation := if t.v < t.rules.periodLength then false else
        if upRunOn t.rules && t.run == .stopped then true else t.regulation } := by
  unfold Timing.regulationAfter
  by_cases h : t.v < t.rules.periodLength
  · simp only [h, if_true]
  · by_cases hu : (upRunOn t.rules && t.run == .stopped) = true
    · simp only [h, hu, if_true, if_false]
    · simp only [h, hu, if_false, Bool.false_eq_true]

theorem releaseCountdown_timing (s : State) :
    let released := decide (s.timing.phase = .countdown ∧ s.timing.rules.countdownAt < s.timing.v)
    s.releaseCountdown.timing =
      { s.timing with
        phase := if released then .idle else s.timing.phase, outstanding := if released then [] else s.timing.outstanding } := by
  dsimp only
  rw [releaseCountdown_eq]
  by_cases h : s.timing.phase = .countdown ∧ s.timing.rules.countdownAt < s.timing.v
  · rw [if_pos h, decide_eq_true h, releaseLevelOne_timing]
    rfl
  · rw [if_neg h, decide_eq_false h]
    rfl

/-- What a set or an adjustment makes of the countdown's phase (R46, R47). -/
theorem release_renew_timing (s : State) :
    let released := decide (s.timing.phase = .countdown ∧ s.timing.rules.countdownAt < s.timing.v)
    s.releaseCountdown.renewCountdown.timing =
      { s.timing with
        phase := if released = true ∨ s.timing.phase = .spent then .idle else s.timing.phase
        outstanding := if released then [] else s.timing.outstanding } := by
  intro released
  have hr : s.releaseCountdown.timing = { s.timing with
      phase := if released then .idle else s.timing.phase, outstanding := if released then [] else s.timing.outstanding } :=
    releaseCountdown_timing s
  clear_value released
  unfold State.renewCountdown
  rw [mapTiming_timing, hr]
  cases released <;> by_cases hs : s.timing.phase = .spent <;> simp [hs]

theorem clockSetOwner_eq (v : Nat) (s : State) : clockSetOwner v s =
    if s.record.game.session = .final then s.refuse .closed
    else if s.timing.run ≠ .stopped ∨ s.timing.gate ≠ .steady then s.refuse .busy
    else if clockMax s.timing.rules < v then s.refuse .range
    else (s.setClock v).ok := by
  simp only [clockSetOwner, tests_cons, tests_nil, beq_iff_eq, bne_iff_ne, Bool.or_eq_true, decide_eq_true_eq]

/-- The clock at a set (R33, R34). -/
def Timing.setTo (v : Nat) (t : Timing) : Timing :=
  { t with
    v := v
    atLimit := decide (v = clockLimit t.rules)
    regulation := if v < t.rules.periodLength then false else if upRunOn t.rules && t.run == .stopped then true else t.regulation }

theorem setClock_eq (v : Nat) (s : State) :
    s.setClock v = (s.mapTiming (Timing.setTo v)).releaseCountdown.renewCountdown.sendClock .set := by
  unfold State.setClock
  simp only [regulationAfter_eq]
  rfl

theorem setClock_clocked (v : Nat) (s : State) : Clocked s (s.setClock v) (s.timing.setTo v) s.record.game.session []
    [⟨.set, (s.timing.setTo v).fields⟩] := by
  rw [setClock_eq]
  exact ((((Clocked.start s).mapTiming (Timing.setTo v) fun _ => rfl).quiet (releaseCountdown_frame _)
    (releaseCountdown_reports _)).quiet (renewCountdown_frame _) (mapTiming_reports (K := []) _ _)).sendClock .set

/-! ## CLOCK_ADJUST (R32, R33, R35, R45 to R47) -/

/-- The clock at an adjustment, field by field, but for an expiry that it declares (R33, R35). -/
theorem adjust_eq (delta : Int) (t : Timing) : t.adjust delta =
    { t with
      v := t.adjusted delta
      regulation := if t.adjusted delta < t.rules.periodLength then false else
        if upRunOn t.rules && t.run == .stopped then true else t.regulation
      atLimit := decide (t.adjusted delta = clockLimit t.rules) && (decide (t.run = .stopped) || t.atLimit)
      expiryPending := decide (t.adjusted delta = clockLimit t.rules) &&
        (t.expiryPending || (decide (t.run = .running) && decide (t.gate = .stopPending))) } := by
  unfold Timing.adjust
  rw [regulationAfter_eq]
  dsimp only
  by_cases hl : t.adjusted delta = clockLimit t.rules
  · rw [if_pos ((isAtLimit_iff _).mpr hl), decide_eq_true hl]
    cases hr : t.run <;> cases hg : t.gate <;> simp
  · rw [if_neg (mt (isAtLimit_iff _).mp hl), decide_eq_false hl]
    simp

/-- The adjustment declares an expiry (R35). -/
def Timing.declares (delta : Int) (t : Timing) : Bool :=
  decide (t.adjusted delta = clockLimit t.rules ∧ t.run = .running ∧ t.gate = .steady)

theorem declares_iff (delta : Int) (t : Timing) :
    t.declares delta = true ↔ t.adjusted delta = clockLimit t.rules ∧ t.run = .running ∧ t.gate = .steady := decide_eq_true_iff

/-- The clock at an adjustment, once a regulation crossing and an expiry are made (R32, R33, R35). -/
def Timing.adjusts (delta : Int) (t : Timing) : Timing :=
  let m := (t.adjust delta).regulated
  if t.declares delta then m.expired else m

theorem adjust_bare (delta : Int) (t : Timing) : (t.adjust delta).bare = (t.bare.adjust delta).bare := by
  rw [adjust_eq, adjust_eq]
  rfl

/-- The state at an adjustment before an expiry is declared or the countdown conditions are checked (R33, R35, R46, R47). -/
def State.readjusted (delta : Int) (s : State) : State :=
  (s.mapTiming (Timing.adjust delta)).releaseCountdown.renewCountdown.checkRegulation

section
variable (delta : Int) (s : State)

theorem readjusted_clocked : Clocked s (s.readjusted delta) (s.timing.adjust delta).regulated s.record.game.session
    (crossingReports (s.timing.adjust delta) s.record.game.period) [] :=
  ((((Clocked.start s).mapTiming (Timing.adjust delta) (adjust_bare delta)).quiet (releaseCountdown_frame _)
    (releaseCountdown_reports _)).quiet (renewCountdown_frame _) (mapTiming_reports (K := []) _ _)).checkRegulation

theorem adjustClock_eq : s.adjustClock delta =
    (if s.timing.declares delta then (s.readjusted delta).expire (s.readjusted delta).countdownDue
      else (s.readjusted delta).checkCountdown).sendClock .adjust := by
  have h := readjusted_clocked delta s
  have hc : ((s.readjusted delta).timing.isAtLimit = true ∧ (s.readjusted delta).timing.run = .running ∧
      (s.readjusted delta).timing.gate = .steady) ↔ s.timing.declares delta = true := by
    rw [h.reads Timing.isAtLimit, h.reads Timing.run, h.reads Timing.gate, adjust_eq, declares_iff]
    exact Iff.and (isAtLimit_iff _) Iff.rfl
  show State.sendClock .adjust (if _ then _ else _) = _
  simp only [← hc]
  rfl

theorem adjustClock_clocked : Clocked s (s.adjustClock delta) (s.timing.adjusts delta) s.record.game.session
    (crossingReports (s.timing.adjust delta) s.record.game.period ++
      if s.timing.declares delta then expiryReports (s.timing.adjust delta).regulated s.record.game.period else [])
    ((if s.timing.declares delta then [⟨.expiry, (s.timing.adjusts delta).fields⟩] else []) ++
      [⟨.adjust, (s.timing.adjusts delta).fields⟩]) := by
  have h := readjusted_clocked delta s
  rw [adjustClock_eq]
  unfold Timing.adjusts
  split
  · exact (h.expire _).sendClock .adjust
  · simp only [List.append_nil]
    exact (h.sendCountdown _).sendClock .adjust

/-- The timing unit at an adjustment, exactly. -/
theorem readjusted_timing :
    let released := decide (s.timing.phase = .countdown ∧ s.timing.rules.countdownAt < s.timing.adjusted delta)
    (s.readjusted delta).timing =
      { (s.timing.adjust delta).regulated with
        phase := if released = true ∨ s.timing.phase = .spent then .idle else s.timing.phase
        outstanding := if released then [] else s.timing.outstanding } := by
  unfold State.readjusted
  rw [checkRegulation_timing, release_renew_timing, mapTiming_timing, adjust_eq]
  rfl

end

end Sys2Proof.Machine
end

section
namespace Sys2Proof.Machine

set_option Elab.async false

/-! ## An adjustment, clause by clause (R32, R33, R35, R45 to R47) -/

/-- The adjustment releases a countdown (R46). -/
def Timing.releases (delta : Int) (t : Timing) : Bool :=
  decide (t.phase = .countdown ∧ t.rules.countdownAt < t.adjusted delta)

section
variable (delta : Int) (t : Timing)

theorem adjust_crosses : (t.adjust delta).crosses =
    (upRunOn t.rules && decide (t.rules.periodLength ≤ t.adjusted delta) && decide (t.run = .running) && !t.regulation) := by
  rw [adjust_eq, Timing.crosses]
  dsimp only
  by_cases hp : t.rules.periodLength ≤ t.adjusted delta
  · rw [if_neg (Nat.not_lt.mpr hp), decide_eq_true hp]
    cases upRunOn t.rules <;> cases t.run <;> cases t.regulation <;> rfl
  · rw [decide_eq_false hp]
    simp

theorem adjust_regulated : (t.adjust delta).regulated.regulation =
    (decide (t.rules.periodLength ≤ t.adjusted delta) &&
      (t.regulation || (t.adjust delta).crosses || (upRunOn t.rules && decide (t.run = .stopped)))) := by
  show ((t.adjust delta).regulation || (t.adjust delta).crosses) = _
  rw [adjust_crosses, adjust_eq]
  dsimp only
  by_cases hp : t.rules.periodLength ≤ t.adjusted delta
  · rw [if_neg (Nat.not_lt.mpr hp), decide_eq_true hp]
    cases upRunOn t.rules <;> cases t.run <;> cases t.regulation <;> rfl
  · rw [if_pos (Nat.not_le.mp hp), decide_eq_false hp]
    simp

/-- The clock at an adjustment, field by field (R32, R35). -/
theorem adjusts_eq : t.adjusts delta =
    { (t.adjust delta).regulated with
      run := if t.declares delta then .stopped else t.run
      atLimit := t.declares delta || (t.adjust delta).atLimit
      expiryPending := !t.declares delta && (t.adjust delta).expiryPending } := by
  unfold Timing.adjusts
  cases hd : t.declares delta with
  | false =>
    have hrun : (t.adjust delta).run = t.run := by rw [adjust_eq]
    rw [if_neg Bool.false_ne_true, if_neg Bool.false_ne_true, ← hrun]
    rfl
  | true =>
    have hl : (t.adjust delta).regulated.isAtLimit = true := by
      refine (isAtLimit_iff _).mpr ?_
      rw [adjust_eq]
      exact ((declares_iff delta t).mp hd).1
    rw [if_pos rfl, expired_of_limit hl]
    rfl

theorem adjusts_run : (t.adjusts delta).run =
    if t.adjusted delta = clockLimit t.rules ∧ t.run = .running ∧ t.gate = .steady then .stopped else t.run := by
  rw [adjusts_eq, adjust_eq]
  simp only [Timing.declares, decide_eq_true_eq]

theorem adjusts_atLimit : (t.adjusts delta).atLimit =
    if t.adjusted delta = clockLimit t.rules then (if t.run = .stopped ∨ t.gate = .steady then true else t.atLimit) else false := by
  rw [adjusts_eq, adjust_eq]
  by_cases hl : t.adjusted delta = clockLimit t.rules
  · cases hr : t.run <;> cases hg : t.gate <;> simp [Timing.declares, hl, hr, hg]
  · simp [Timing.declares, hl]

theorem adjusts_pending : (t.adjusts delta).expiryPending =
    (!t.declares delta && (decide (t.adjusted delta = clockLimit t.rules) &&
      (t.expiryPending || (decide (t.run = .running) && decide (t.gate = .stopPending))))) := by
  rw [adjusts_eq, adjust_eq]

/-- What an adjustment records (R31 to R33). -/
def adjustReports (period : Nat) : List (Cond × Detail) :=
  (if (t.adjust delta).crosses then
    [(.clockExpired, .clockExpired .regulation period t.rules.direction (t.adjusted delta))] else []) ++
  if t.declares delta then
    [(.runChanged, .runChanged .stopped .expiry (t.adjusted delta) 0),
      (.clockExpired, .clockExpired (if upRunOn t.rules then .ceiling else .limit) period t.rules.direction (t.adjusted delta))]
  else []

theorem adjustReports_eq (period : Nat) : crossingReports (t.adjust delta) period ++
    (if t.declares delta then expiryReports (t.adjust delta).regulated period else []) = adjustReports delta t period := by
  have hrules : (t.adjust delta).rules = t.rules := by rw [adjust_eq]
  have hv : (t.adjust delta).v = t.adjusted delta := by rw [adjust_eq]
  have hregulated : (t.adjust delta).regulated.rules = t.rules := hrules
  unfold crossingReports expiryReports adjustReports
  rw [hrules, hv, hregulated]
  by_cases hd : t.declares delta = true
  · rw [if_pos hd, if_pos hd, ((declares_iff delta t).mp hd).1]
  · rw [if_neg hd, if_neg hd]

end

section
variable {delta : Int} {s : State}

theorem readjusted_due : (s.readjusted delta).countdownDue =
    decide (s.timing.rules.direction = .down ∧ s.timing.rules.regulationPeriods ≤ s.record.game.period ∧
      0 < s.timing.rules.countdownAt ∧ s.timing.rules.countdownAsset ≠ none ∧ s.timing.run = .running ∧
      s.timing.adjusted delta ≤ s.timing.rules.countdownAt) := by
  have h := readjusted_clocked delta s
  rw [countdownDue_eq, h.period, h.reads Timing.rules, h.reads Timing.run, h.reads Timing.v, adjust_eq]
  rfl

theorem checkRegulation_agree (s : State) : Agree s s.checkRegulation := by
  unfold State.checkRegulation
  split <;> exact ⟨rfl, rfl, rfl⟩

/-- An adjustment that releases no countdown leaves canvas and channels (R35). -/
theorem readjusted_kept (h : s.timing.releases delta = false) :
    (s.readjusted delta).canvas = s.canvas ∧ (s.readjusted delta).replay = s.replay := by
  have hkept : (s.mapTiming (Timing.adjust delta)).releaseCountdown = s.mapTiming (Timing.adjust delta) := by
    refine if_neg ?_
    rw [mapTiming_timing, adjust_eq]
    exact of_decide_eq_false h
  have ha := checkRegulation_agree (s.mapTiming (Timing.adjust delta)).renewCountdown
  unfold State.readjusted
  rw [hkept]
  exact ⟨ha.canvas, ha.replay⟩

/-- An adjustment that releases a countdown ends every outstanding level-1 request (R46). -/
theorem readjusted_ends (h : s.timing.releases delta = true) {zone : Nat} (hz : zone ∈ s.timing.outstanding) :
    (s.readjusted delta).standsAt zone 1 = none := by
  have hends : (s.mapTiming (Timing.adjust delta)).releaseCountdown =
      (s.mapTiming (Timing.adjust delta)).releaseLevelOne .idle := by
    refine if_pos ?_
    rw [mapTiming_timing, adjust_eq]
    exact of_decide_eq_true h
  have hf : Frame [.phase, .clock, .horns] (s.mapTiming (Timing.adjust delta)).releaseCountdown (s.readjusted delta) :=
    (Frame.mono (renewCountdown_frame _)).next (checkRegulation_frame _)
  rw [hf.standsAt, hends]
  refine releaseLevelOne_ends (s.mapTiming _) .idle ?_
  rw [mapTiming_timing, adjust_eq]
  exact hz

/-! ### An expiry that an adjustment declares -/

theorem Frame.hornsSame {P : List Part} {s t : State} (h : Frame P s t) (hP : P.contains .horns = false := by decide) :
    t.timing.gameHorn = s.timing.gameHorn ∧ t.timing.playHorn = s.timing.playHorn := h.same .horns (by simpa using hP)

/-- The horns at a declared expiry: GAME HORN sounds below the ceiling (R32, R33). -/
theorem expire_horns (asks : Bool) (s : State) :
    (s.expire asks).timing.gameHorn = (if upRunOn s.timing.rules then s.timing.gameHorn
      else some (max (s.timing.gameHorn.getD 0) s.timing.rules.hornDuration)) ∧
    (s.expire asks).timing.playHorn = s.timing.playHorn := by
  obtain ⟨hg, hp⟩ := ((handOn_frame (s.mapTiming Timing.expired) .expiry 0).next (sendCountdown_frame _ asks)).hornsSame
  rw [expire_eq]
  dsimp only
  split
  · exact ⟨hg, hp⟩
  · obtain ⟨hg', hp'⟩ := (periodEnd_frame _).hornsSame
    rw [hg', hp']
    dsimp only
    rw [hg]
    exact ⟨rfl, hp⟩

/-- The horns at an adjustment (R32, R33, R35). -/
theorem adjustClock_horns (delta : Int) (s : State) :
    (s.adjustClock delta).timing.gameHorn =
      (if (s.timing.adjust delta).crosses = true ∨ s.timing.declares delta = true ∧ upRunOn s.timing.rules = false then
        some (max (s.timing.gameHorn.getD 0) s.timing.rules.hornDuration) else s.timing.gameHorn) ∧
    (s.adjustClock delta).timing.playHorn = s.timing.playHorn := by
  have ht := readjusted_timing delta s
  have hgame : (s.readjusted delta).timing.gameHorn = if (s.timing.adjust delta).crosses then
      some (max (s.timing.gameHorn.getD 0) s.timing.rules.hornDuration) else s.timing.gameHorn := by
    rw [ht]
    simp only [Timing.regulated]
    rw [adjust_eq]
  have hplay : (s.readjusted delta).timing.playHorn = s.timing.playHorn := by
    rw [ht]
    simp only [Timing.regulated]
    rw [adjust_eq]
  have hrules : (s.readjusted delta).timing.rules = s.timing.rules := by
    rw [ht]
    simp only [Timing.regulated]
    rw [adjust_eq]
  have hcross : (s.timing.adjust delta).crosses = true → upRunOn s.timing.rules = true := fun h => by
    rw [adjust_crosses] at h
    simp only [Bool.and_eq_true] at h
    exact h.1.1.1
  obtain ⟨hsg, hsp⟩ := (sendClock_frame (if s.timing.declares delta then
    (s.readjusted delta).expire (s.readjusted delta).countdownDue else (s.readjusted delta).checkCountdown) .adjust).hornsSame
  rw [adjustClock_eq, hsg, hsp]
  cases hd : s.timing.declares delta with
  | false =>
    obtain ⟨hcg, hcp⟩ := (checkCountdown_frame (s.readjusted delta)).hornsSame
    rw [if_neg Bool.false_ne_true, hcg, hcp, hgame]
    simp [hplay]
  | true =>
    obtain ⟨heg, hep⟩ := expire_horns (s.readjusted delta).countdownDue (s.readjusted delta)
    rw [if_pos rfl, heg, hep, hplay, hrules, hgame]
    cases hu : upRunOn s.timing.rules with
    | true => simp
    | false =>
      have hc : (s.timing.adjust delta).crosses = false := Bool.eq_false_iff.mpr fun h => by rw [hcross h] at hu; cases hu
      simp [hc]

theorem readjusted_phase (h : s.timing.releases delta = false) :
    (s.readjusted delta).timing.phase = (if s.timing.phase = .spent then .idle else s.timing.phase) ∧
      (s.readjusted delta).timing.outstanding = s.timing.outstanding := by
  have ht := readjusted_timing delta s
  rw [show decide (s.timing.phase = .countdown ∧ s.timing.rules.countdownAt < s.timing.adjusted delta) = false from h] at ht
  rw [ht]
  exact ⟨by simp, rfl⟩

/-- The clock that an adjustment stops at its limit, below the ceiling and with no countdown released. -/
theorem readjusted_expired (hd : s.timing.declares delta = true) (hu : upRunOn s.timing.rules = false)
    (hr : s.timing.releases delta = false) : (s.readjusted delta).timing.expired =
      { s.timing with
        v := s.timing.adjusted delta
        run := .stopped
        atLimit := true
        expiryPending := false
        regulation := (s.timing.adjusts delta).regulation
        phase := if s.timing.phase = .spent then .idle else s.timing.phase } := by
  have hc := adjust_crosses delta s.timing
  rw [hu, Bool.false_and, Bool.false_and, Bool.false_and] at hc
  have hl : (s.readjusted delta).timing.isAtLimit = true := by
    rw [(readjusted_clocked delta s).reads Timing.isAtLimit]
    refine (isAtLimit_iff _).mpr ?_
    rw [adjust_eq]
    exact ((declares_iff delta s.timing).mp hd).1
  have ht := readjusted_timing delta s
  rw [show decide (s.timing.phase = .countdown ∧ s.timing.rules.countdownAt < s.timing.adjusted delta) = false from hr] at ht
  have hreg : (s.timing.adjusts delta).regulation = (s.timing.adjust delta).regulation := by
    rw [adjusts_eq]
    show ((s.timing.adjust delta).regulation || (s.timing.adjust delta).crosses) = _
    rw [hc, Bool.or_false]
  rw [expired_of_limit hl, ht, hreg]
  simp only [Timing.regulated, hc]
  rw [adjust_eq]
  simp

theorem expired_phase (t : Timing) : t.expired.phase = t.phase := rfl

theorem expired_outstanding (t : Timing) : t.expired.outstanding = t.outstanding := rfl

theorem expired_agree {s a : State} (hc : a.canvas = s.canvas) (hr : a.replay = s.replay) :
    Agree { s with timing := { s.timing with run := .stopped } } (a.mapTiming Timing.expired) := ⟨hc, hr, rfl⟩

theorem expired_zonesWf {s a : State} (hs : s.zonesWf) (hc : a.canvas = s.canvas) : (a.mapTiming Timing.expired).zonesWf :=
  zonesWf_of_canvas hs hc

theorem mapTiming_expired_run (s : State) : (s.mapTiming Timing.expired).timing.run = .stopped := rfl

/-- A declared expiry below the ceiling ends with the period end, of a state in which GAME HORN sounds (R32, R47). -/
theorem expire_below {s : State} (hu : upRunOn s.timing.rules = false) (asks : Bool) : ∃ u, s.expire asks = u.periodEnd ∧
    Frame [.horns] (((s.mapTiming Timing.expired).handOn .expiry 0).sendCountdown asks) u := by
  have hc := ((Clocked.start s).mapTiming Timing.expired fun _ => rfl).handOn .expiry 0 |>.sendCountdown asks
  have hrules : upRunOn (((s.mapTiming Timing.expired).handOn .expiry 0).sendCountdown asks).timing.rules = false :=
    (congrArg upRunOn (hc.reads Timing.rules)).trans hu
  refine ⟨_, if_neg fun h => Bool.false_ne_true (hrules.symm.trans h), ?_⟩
  exact (Frame.mono (raiseExpired_frame _ .limit)).next (hornSounds_frame _ .game)

theorem readjusted_asset : (s.readjusted delta).timing.rules.countdownAsset = s.timing.rules.countdownAsset := by
  rw [(readjusted_clocked delta s).reads Timing.rules, Timing.regulated, adjust_eq]

/-- An adjustment that neither declares an expiry nor releases a countdown meets the countdown check (R35, R45). -/
theorem adjustClock_checked (hd : s.timing.declares delta = false) (hr : s.timing.releases delta = false) :
    CountdownChecked (s.readjusted delta).countdownDue (if s.timing.phase = .spent then .idle else s.timing.phase) s
      (s.adjustClock delta) := by
  obtain ⟨hphase, hout⟩ := readjusted_phase hr
  have h := sendCountdown_checked (s.readjusted delta) (countdownDue_asset (s := s.readjusted delta))
  have ht : (s.adjustClock delta).timing = ((s.readjusted delta).sendCountdown (s.readjusted delta).countdownDue).timing := by
    rw [adjustClock_eq, hd, if_neg Bool.false_ne_true, (sendClock_frame _ _).timing, State.checkCountdown]
  have hcanvas : (s.adjustClock delta).canvas = ((s.readjusted delta).sendCountdown (s.readjusted delta).countdownDue).canvas := by
    rw [adjustClock_eq, hd, if_neg Bool.false_ne_true, sendClock_canvas, State.checkCountdown]
  rw [hphase] at h
  exact h.congr (readjusted_kept hr).1.symm hout.symm readjusted_asset.symm (by rw [ht]) (by rw [ht]) (by rw [hcanvas])

/-- An adjustment that releases a countdown and declares no expiry leaves it released (R46). -/
theorem adjustClock_released (hd : s.timing.declares delta = false) (hr : s.timing.releases delta = true) :
    (s.adjustClock delta).timing.phase = .idle ∧ (s.adjustClock delta).timing.outstanding = [] ∧
      ∀ zone ∈ s.timing.outstanding, (s.adjustClock delta).standsAt zone 1 = none := by
  have hdue : (s.readjusted delta).countdownDue = false := by
    rw [readjusted_due]
    refine decide_eq_false fun h => ?_
    have hv := (of_decide_eq_true hr).2
    omega
  have he : s.adjustClock delta = (s.readjusted delta).sendClock .adjust := by
    rw [adjustClock_eq, hd, if_neg Bool.false_ne_true, State.checkCountdown, hdue, sendCountdown_false]
  have hf := sendClock_frame (s.readjusted delta) .adjust
  have ht := readjusted_timing delta s
  rw [show decide (s.timing.phase = .countdown ∧ s.timing.rules.countdownAt < s.timing.adjusted delta) = true from hr] at ht
  rw [he, hf.timing, ht]
  exact ⟨by simp, rfl, fun zone hz => (hf.standsAt zone 1).trans (readjusted_ends hr hz)⟩

/-- An adjustment that reaches the ceiling asks for nothing and keeps the countdown's phase (R33). -/
theorem adjustClock_ceiling (hd : s.timing.declares delta = true) (hu : upRunOn s.timing.rules = true)
    (hr : s.timing.releases delta = false) :
    (s.adjustClock delta).timing.phase = (if s.timing.phase = .spent then .idle else s.timing.phase) ∧
      (s.adjustClock delta).timing.outstanding = s.timing.outstanding := by
  have hrules : (s.readjusted delta).timing.rules = s.timing.rules := by
    rw [(readjusted_clocked delta s).reads Timing.rules, Timing.regulated, adjust_eq]
  have hdue : (s.readjusted delta).countdownDue = false := by
    rw [readjusted_due]
    refine decide_eq_false fun h => ?_
    have hup := ((upRunOn_iff _).mp hu).1
    rw [h.1] at hup
    cases hup
  have ht : (s.adjustClock delta).timing = (s.readjusted delta).timing.expired := by
    rw [adjustClock_eq, hd, if_pos rfl, (sendClock_frame _ _).timing, hdue, expire_eq]
    dsimp only
    rw [hrules, if_pos hu, raise_timing, sendCountdown_false, handOn_stopped_timing (mapTiming_expired_run _), mapTiming_timing]
  rw [ht, expired_phase, expired_outstanding]
  exact readjusted_phase hr

/-- An adjustment that expires below the ceiling: every zone is evaluated at the stop, then what the countdown conditions ask
for is sent, and the period end comes last (R31, R32, R47, R112). -/
theorem adjustClock_expires (hd : s.timing.declares delta = true) (hu : upRunOn s.timing.rules = false)
    (hr : s.timing.releases delta = false) : ∃ w u : State,
      w.canvas = ((s.canvas.zones.map (·.spec.id)).foldl (fun w zone => w.evaluate zone)
        ({ s with timing := { s.timing with run := .stopped } } : State)).canvas ∧
      w.timing =
        { s.timing with
          v := s.timing.adjusted delta
          run := .stopped
          atLimit := true
          expiryPending := false
          regulation := (s.timing.adjusts delta).regulation
          phase := if s.timing.phase = .spent then .idle else s.timing.phase } ∧
      (s.zonesWf → w.zonesWf) ∧
      CountdownChecked (s.readjusted delta).countdownDue (if s.timing.phase = .spent then .idle else s.timing.phase) w u ∧
      Frame ([.horns] ++ endParts) w u ∧
      (s.adjustClock delta).timing.phase = u.periodEnd.timing.phase ∧
      (s.adjustClock delta).timing.outstanding = u.periodEnd.timing.outstanding ∧
      (s.adjustClock delta).canvas = u.periodEnd.canvas := by
  obtain ⟨hcanvas, hreplay⟩ := readjusted_kept hr
  have hrules : (s.readjusted delta).timing.rules = s.timing.rules := by
    rw [(readjusted_clocked delta s).reads Timing.rules, Timing.regulated, adjust_eq]
  have hstop : ((s.readjusted delta).mapTiming Timing.expired).timing.run = .stopped := rfl
  have hw := (handOn_stopped_timing hstop .expiry 0).trans (readjusted_expired hd hu hr)
  obtain ⟨u, he, hf⟩ := expire_below (s := s.readjusted delta) (by rw [hrules]; exact hu) (s.readjusted delta).countdownDue
  have ht : s.adjustClock delta = u.periodEnd.sendClock .adjust := by
    rw [adjustClock_eq, hd, if_pos rfl, he]
  refine ⟨((s.readjusted delta).mapTiming Timing.expired).handOn .expiry 0, u,
    handOn_stopped_canvas hstop .expiry 0 (expired_agree hcanvas hreplay), hw,
    fun hz => handOn_stopped_zonesWf hstop .expiry 0 (expired_zonesWf hz hcanvas), ?_,
    (Frame.mono (sendCountdown_frame _ _)).next hf, ?_, ?_, ?_⟩
  · have h := sendCountdown_checked (((s.readjusted delta).mapTiming Timing.expired).handOn .expiry 0)
      (asks := (s.readjusted delta).countdownDue) fun ha => by
        rw [hw, ← readjusted_asset (delta := delta)]
        exact countdownDue_asset ha
    rw [hw] at h
    obtain ⟨hphase, hout⟩ := hf.same .phase (by decide)
    exact h.congr rfl rfl rfl hphase hout hf.zones
  all_goals rw [ht]
  · rw [(sendClock_frame _ _).timing]
  · rw [(sendClock_frame _ _).timing]
  · rw [sendClock_canvas]

end

end Sys2Proof.Machine
end

section
namespace Sys2Proof.Machine

set_option Elab.async false

/-- The timing unit at a set, exactly (R34, R46, R47). -/
theorem setClock_timing (v : Nat) (s : State) :
    let released := decide (s.timing.phase = .countdown ∧ s.timing.rules.countdownAt < v)
    (s.setClock v).timing =
      { s.timing.setTo v with
        phase := if released = true ∨ s.timing.phase = .spent then .idle else s.timing.phase
        outstanding := if released then [] else s.timing.outstanding } := by
  rw [setClock_eq, (sendClock_frame _ _).timing, release_renew_timing]
  rfl

/-- A set that releases no countdown leaves the canvas; one that releases it ends every outstanding request (R34, R46). -/
theorem setClock_zones (v : Nat) (s : State) :
    let released := decide (s.timing.phase = .countdown ∧ s.timing.rules.countdownAt < v)
    (released = false → (s.setClock v).canvas = s.canvas) ∧
      (released = true → ∀ zone ∈ s.timing.outstanding, (s.setClock v).standsAt zone 1 = none) := by
  obtain ⟨-, -, hkept, hends, -⟩ := releaseCountdown_spec (s.mapTiming (Timing.setTo v))
  have hf : Frame [.phase, .twinOut] (s.mapTiming (Timing.setTo v)).releaseCountdown (s.setClock v) := by
    rw [setClock_eq]
    exact (Frame.mono (renewCountdown_frame _)).next (sendClock_frame _ _)
  refine ⟨fun hr => ?_, fun hr zone hz => (hf.standsAt zone 1).trans (hends hr zone hz)⟩
  rw [setClock_eq, sendClock_canvas]
  exact hkept hr

theorem clockAdjustOwner_eq (delta : Int) (s : State) : clockAdjustOwner delta s =
    if s.record.game.session = .final then s.refuse .closed
    else if delta = 0 ∨ delta < -600000 ∨ 600000 < delta then s.refuse .range
    else (s.adjustClock delta, .ok, .count (s.timing.adjusted delta)) := by
  have hr : (delta == 0 || decide (600000 < delta.natAbs)) = true ↔ delta = 0 ∨ delta < -600000 ∨ 600000 < delta := by
    simp only [Bool.or_eq_true, beq_iff_eq, decide_eq_true_eq]
    omega
  simp only [clockAdjustOwner, tests_cons, tests_nil, beq_iff_eq, hr, State.okWith]

end Sys2Proof.Machine

namespace Sys2Proof

open Machine

/-- Settles O17. -/
theorem tableRunsAndSetsTheClock : Obligations.TableRunsAndSetsTheClock := by
  refine ⟨⟨fun h s ha => ?_, fun h s ha => ?_⟩, fun h r s ha => ?_, fun h v s ha => ?_, fun h x s ha => ?_⟩
  · rw [exec_admitted (owner := clockStartOwner) ha rfl (clockStartOwner_frame s), clockStartOwner_eq]
    split
    · rfl
    split
    · rfl
    split
    · rfl
    split
    · rfl
    have hc := linkStart_clocked s
    refine ⟨s.linkStart, by rw [State.ok], hc.reads Timing.run, hc.reads Timing.v, hc.reads Timing.play, hc.reads Timing.gate, ?_,
      fun hw z hz k hk => .inr fun hcut => ?_, fun hw link => Gains.one (hc.reports.gainsOf hw (linkStart_run _ _ _)) link, ?_,
      linkStart_frame s⟩
    · rw [hc.session]
      simp [sessionAfter]
    · have hnone := linkStart_noCut s _ z (zone_of_idsAscend ((linkStart_masks s).idsAscend hw.ids) hz) k.level hcut
      exact List.find?_eq_none.mp hnone k hk (by simp)
    · rw [hc.twin, tells_one]
      rfl
  · rw [exec_admitted (owner := clockStopOwner) ha rfl (clockStopOwner_frame s), clockStopOwner_eq]
    split
    · rfl
    split
    · rfl
    cases hrun : s.timing.run with
    | stopped => rfl
    | running =>
      have hc := linkStop_clocked s
      have hf := linkStop_frame_stopped s
      refine ⟨s.linkStop, by rw [if_pos rfl, State.ok], hf.timing, hf.record,
        fun hw link => Gains.one (hc.reports.gainsOf hw rfl) link, ?_, ?_⟩
      · rw [hc.twin, tells_one]
        rfl
      · rw [hf.timing]
        exact hf.mono
  · rw [exec_admitted (owner := clockRulesOwner r) ha rfl (clockRulesOwner_frame s r), clockRulesOwner_eq]
    refine congrArg Host.Outcome.next ?_
    split
    · rfl
    next hfinal =>
    split
    · rfl
    split
    · rfl
    split
    · next hr =>
      rw [if_pos (mt (rulesOk_iff r _).mpr hr)]
      rfl
    · next hr =>
      rw [if_neg fun hn => hr fun hok => hn ((rulesOk_iff r _).mp hok), setRules_sampled r (not_follower_of_admits ha) hfinal,
        gateLevelOf_eq]
      rfl
  · rw [exec_admitted (owner := clockSetOwner v) ha rfl (clockSetOwner_frame s v), clockSetOwner_eq, ← clockMax_bound]
    split
    · rfl
    split
    · rfl
    next hbusy =>
    split
    · rfl
    have hc := setClock_clocked v s
    have ht : (s.setClock v).timing = _ := setClock_timing v s
    have hrun : s.timing.run = .stopped := by_contra fun h => hbusy (.inl h)
    refine ⟨s.setClock v, by rw [State.ok], ⟨?_, setClock_zones v s⟩, ?_,
      fun hw => ⟨hc.reports.gainsOf hw rfl, hc.reports.gainsOf hw rfl, hc.reports.gainsOf hw rfl⟩, setClock_frame s v⟩
    · rw [ht]
      simp only [Timing.setTo, hrun, Bool.and_eq_true, upRunOn_iff, beq_self_eq_true, and_true]
    · rw [hc.twin, tells_one, clockFields_eq, hc.reads Timing.fields]
  · rw [exec_admitted (owner := clockAdjustOwner x) ha rfl (clockAdjustOwner_frame s x), clockAdjustOwner_eq]
    split
    · rfl
    split
    · rfl
    intro m v
    have hv : s.timing.adjusted x = v := by
      show min (clockMax s.timing.rules) _ = min _ _
      rw [clockMax_bound]
    clear_value v
    subst hv
    have hc := adjustClock_clocked x s
    have ht := adjusts_eq x s.timing
    rw [adjust_eq] at ht
    refine ⟨s.adjustClock x, by dsimp only, (hc.reads Timing.v).trans ((congrArg Timing.v ht).trans rfl),
      (hc.reads Timing.run).trans (adjusts_run x s.timing), (hc.reads Timing.atLimit).trans (adjusts_atLimit x s.timing),
      fun hl hr hg => ?_, fun hl => ?_, (hc.reads Timing.counted).trans ((congrArg Timing.counted ht).trans rfl),
      (hc.reads Timing.play).trans ((congrArg Timing.play ht).trans rfl),
      (hc.reads Timing.gate).trans ((congrArg Timing.gate ht).trans rfl), ?_, adjustClock_frame s x⟩
    · rw [hc.reads Timing.expiryPending, adjusts_pending, Timing.declares]
      simp only [m] at hl hr hg
      simp [hl, hr, hg]
    · rw [hc.reads Timing.expiryPending, adjusts_pending, decide_eq_false hl, Bool.false_and, Bool.and_false]
    intro runOn expires above crosses released phase asks
    have hcrosses : (s.timing.adjust x).crosses = crosses := adjust_crosses x s.timing
    have hdue : (s.readjusted x).countdownDue = asks := readjusted_due
    refine ⟨?_, (adjustClock_horns x s).2, ?_, fun he hr => ?_, fun hr he => ?_, fun he hu hr => ?_, fun he hu hr => ?_, ?_,
      fun hw => ⟨?_, ?_, ?_⟩⟩
    · rw [hc.reads Timing.regulation, adjusts_eq]
      exact (adjust_regulated x s.timing).trans (by rw [hcrosses])
    · exact (adjustClock_horns x s).1.trans (by rw [hcrosses]; rfl)
    · exact hdue ▸ adjustClock_checked he hr
    · exact adjustClock_released he hr
    · obtain ⟨w, u, hcanvas, hw, hwf, hchecked, hf, hphase, hout, hzones⟩ := adjustClock_expires he hu hr
      rw [← hc.reads Timing.regulation] at hw
      exact ⟨w, u, hcanvas, hw, hwf, hdue ▸ hchecked, hf, hphase, hout, hzones⟩
    · exact adjustClock_ceiling he hu hr
    · have hfields : (s.adjustClock x).clockFields = (s.timing.adjusts x).fields := hc.reads Timing.fields
      rw [hc.twin, hfields, tells_of_ne _ (by simp)]
      simp only [List.map_append, apply_ite (List.map TwinRecord.clock), List.map_cons, List.map_nil, ← List.append_assoc]
      rfl
    all_goals
      have hr := hc.reports
      rw [adjustReports_eq, adjustReports, hcrosses, show s.timing.declares x = expires from rfl] at hr
      refine hr.gainsOf hw ?_
      clear_value crosses expires
      cases crosses <;> cases expires <;> rfl

end Sys2Proof
end

section
namespace Sys2Proof.Machine

set_option Elab.async false

/-! ## An admitted record whose counts or choices its kind tests (test 4 of R7) -/

/-- An admitted record of any shape: MALFORMED stands where the shape fails, and its owner's answer where it holds (R6 to R8). -/
theorem exec_shaped {c : Instr} {h : Hdr} {kind : Nat} {s : State} {shape : Bool} {owner : State → Answered}
    (ha : s.admits h kind = true) (he : exec c s = .next (s.take h kind shape owner)) {P : List Part}
    (hf : Frame P s (owner s).1) {unfit : Prop} [Decidable unfit] (hs : (!shape) = true ↔ unfit) :
    exec c s = .next (if unfit then s.replied h kind .malformed .none
      else (owner s).1.replied h kind (owner s).2.1 (owner s).2.2) := by
  cases shape with
  | false => rw [he, take_malformed ha owner (hf.replies h.link), if_pos (hs.mp rfl)]
  | true => rw [exec_admitted ha he hf, if_neg fun hu => nomatch hs.mpr hu]

/-! ## The tests of the record items (R56 to R58, R62) -/

theorem not_teamFieldsAny_iff (f : TeamFields) : (!teamFieldsAny f) = true ↔
    f.name = none ∧ f.timeouts = none ∧ f.fouls = none ∧ f.possession = none := by
  simp only [not_teamFieldsAny, Bool.and_eq_true, Option.isNone_iff_eq_none, and_assoc]

theorem textOk_iff (lo hi : Nat) (t : Text) : textOk lo hi t = true ↔
    lo ≤ t.length ∧ t.length ≤ hi ∧ ∀ c ∈ t, 0x20 ≤ c.toNat ∧ c.toNat ≤ 0x7E := by
  simp [textOk, charsOk, and_assoc]

/-- A text that may be empty is refused for its length above, or for a character outside 0x20..0x7E. -/
theorem not_textOk_zero (hi : Nat) (t : Text) : (!textOk 0 hi t) =
    (decide (hi < t.length) || t.any fun c => decide (c.toNat < 0x20) || decide (0x7E < c.toNat)) := by
  rw [Bool.eq_iff_iff, Bool.not_eq_true', textOk_eq_false, Bool.or_eq_true, decide_eq_true_eq]
  exact or_iff_right (Nat.not_lt_zero _)

theorem fieldDefOk_iff (d : FieldDef) : fieldDefOk d = true ↔
    (1 ≤ d.label.length ∧ d.label.length ≤ 8 ∧ ∀ c ∈ d.label, 0x20 ≤ c.toNat ∧ c.toNat ≤ 0x7E) ∧
      1 ≤ d.maximum ∧ d.maximum ≤ 999 := by
  simp only [fieldDefOk, Bool.and_eq_true, textOk_iff, within_iff]

theorem recordConfigOk_iff (c : RecordConfig) : recordConfigOk c = true ↔
    (500 ≤ c.duration ∧ c.duration ≤ 15000) ∧ (∀ a ∈ c.homeAsset, a ≤ 1023) ∧ (∀ a ∈ c.guestAsset, a ≤ 1023) ∧
      ∀ i ∈ c.sponsor, i ≤ 63 := by
  simp only [recordConfigOk, Bool.and_eq_true, within_iff, optAtMost_iff, and_assoc]

/-- A sponsor that is named and not defined. -/
theorem not_sponsorKnown (s : State) (sponsor : Option Nat) :
    (!s.sponsorKnown sponsor) = sponsor.any fun i => !s.rotation.sponsors.any (·.id == i) := by
  cases sponsor <;> rfl

theorem teamSetOwner_eq (team : Team) (f : TeamFields) (s : State) : teamSetOwner team f s =
    if s.record.game.session = .final then s.refuse .closed
    else if s.record.game.session = .inGame ∧ f.name.isSome = true then s.refuse .locked
    else if (f.name.any fun n =>
        decide (12 < n.length) || n.any fun c => decide (c.toNat < 0x20) || decide (0x7E < c.toNat)) = true then
      s.refuse .range
    else (s.applyTeam team f).okWith
      (.teamSet (teamOf (s.applyTeam team f).record.game team) (s.applyTeam team f).record.game.possession) := by
  simp only [teamSetOwner, tests_cons, tests_nil, State.isFinal, Bool.and_eq_true, beq_iff_eq, not_textOk_zero]

theorem fieldDefineOwner_eq (defs : List FieldDef) (s : State) : fieldDefineOwner defs s =
    if s.record.game.session = .final then s.refuse .closed
    else if s.record.game.session = .inGame then s.refuse .locked
    else if ¬∀ d ∈ defs, (1 ≤ d.label.length ∧ d.label.length ≤ 8 ∧ ∀ c ∈ d.label, 0x20 ≤ c.toNat ∧ c.toNat ≤ 0x7E) ∧
        1 ≤ d.maximum ∧ d.maximum ≤ 999 then s.refuse .range
    else (s.applyDefs defs).ok := by
  simp only [fieldDefineOwner, tests_cons, tests_nil, State.isFinal, beq_iff_eq, Bool.not_eq_true', ← Bool.not_eq_true,
    List.all_eq_true, fieldDefOk_iff]

theorem fieldSetOwner_eq (index value : Nat) (s : State) : fieldSetOwner index value s =
    if s.record.game.session = .final then s.refuse .closed
    else if 15 < index then s.refuse .range
    else if s.record.game.fields.length ≤ index then s.refuse .notFound
    else (s.applyField index value).okWith (.count (fieldClamped index value s.record.game)) := by
  simp only [fieldSetOwner, tests_cons, tests_nil, State.isFinal, beq_iff_eq, decide_eq_true_eq]

theorem recordConfigOwner_eq (c : RecordConfig) (s : State) : recordConfigOwner c s =
    if s.record.game.session = .final then s.refuse .closed
    else if ¬((500 ≤ c.duration ∧ c.duration ≤ 15000) ∧ (∀ a ∈ c.homeAsset, a ≤ 1023) ∧ (∀ a ∈ c.guestAsset, a ≤ 1023) ∧
        ∀ i ∈ c.sponsor, i ≤ 63) then s.refuse .range
    else if (c.sponsor.any fun i => !s.rotation.sponsors.any (·.id == i)) = true then s.refuse .notFound
    else (s.applyConfig c).ok := by
  simp only [recordConfigOwner, tests_cons, tests_nil, State.isFinal, beq_iff_eq, Bool.not_eq_true', ← Bool.not_eq_true,
    recordConfigOk_iff, ← not_sponsorKnown]

/-! ## What the record items change (R56, R58) -/

theorem clampFields_eq (f : TeamFields) : clampFields f =
    { f with
      timeouts := f.timeouts.map fun n => if 9 < n then 9 else n
      fouls := f.fouls.map fun n => if 99 < n then 99 else n } := by
  have hmin (top : Nat) : min top = fun n => if top < n then top else n := by
    funext n
    split <;> omega
  unfold clampFields
  rw [hmin, hmin]

theorem teamOf_setTeam (team : Team) (r : TeamRec) (g : RecordFields) : teamOf (setTeam team r g) team = r := by
  cases team <;> rfl

/-- The game record as a TEAM_SET leaves it (R56). -/
def teamApplied (team : Team) (f : TeamFields) (g : RecordFields) : RecordFields :=
  { setTeam team (applyFields (clampFields f) (teamOf g team)) g with possession := f.possession.getD g.possession }

theorem applyTeam_eq (team : Team) (f : TeamFields) (s : State) : s.applyTeam team f =
    (s.mapGame (teamApplied team f)).sendEvent (.teamSet team (clampFields f)) s.record.game.nextSeq := by
  cases team <;> rfl

/-- A TEAM_SET reports the team and the possession it leaves (R56). -/
theorem applyTeam_record (team : Team) (f : TeamFields) (s : State) :
    (s.applyTeam team f).record.game = teamApplied team f s.record.game := by
  rw [applyTeam_eq, (sendEvent_frame _ _ _).record]
  rfl

/-- A field that is defined takes the value clamped to its maximum (R58). -/
theorem fieldClamped_eq {index : Nat} {g : RecordFields} {f : Field} (hf : g.fields[index]? = some f) (value : Nat) :
    fieldClamped index value g = min value f.defn.maximum := by
  unfold fieldClamped
  rw [hf]

theorem applyField_eq {index : Nat} {s : State} {f : Field} (hf : s.record.game.fields[index]? = some f) (value : Nat) :
    s.applyField index value =
      ({ s with record := { s.record with game := { s.record.game with
        fields := s.record.game.fields.set index { f with value := min value f.defn.maximum } } } } : State).sendEvent
          (.fieldSet index (min value f.defn.maximum)) s.record.game.nextSeq := by
  have hm : (s.record.game.fields.modify index fun x => { x with value := min value f.defn.maximum }) =
      s.record.game.fields.set index { f with value := min value f.defn.maximum } := by
    rw [List.modify_eq_set_getElem?, hf]
    rfl
  unfold State.applyField State.mapGame
  rw [fieldClamped_eq hf]
  dsimp only
  rw [hm]
  rfl

end Sys2Proof.Machine

namespace Sys2Proof

open Machine

/-- Settles O25. -/
theorem recordItemsAreSet : Obligations.RecordItemsAreSet := by
  refine ⟨fun h team f s ha => ?_, fun h count defs s ha => ?_, fun h index value s ha => ?_, fun h c s ha => ?_⟩
  · rw [exec_shaped ha rfl (teamSetOwner_frame s team f) (not_teamFieldsAny_iff f), teamSetOwner_eq, applyTeam_record,
      applyTeam_eq]
    dsimp only
    split
    · rfl
    split
    · rfl
    split
    · rfl
    split
    · rfl
    · unfold teamApplied
      rw [clampFields_eq]
      cases team <;> rfl
  · rw [exec_shaped (unfit := count ≠ defs.length ∨ 16 < count) ha rfl (fieldDefineOwner_frame s defs)
      (by rw [not_counted, decide_eq_true_eq]), fieldDefineOwner_eq]
    dsimp only
    split
    · rfl
    split
    · rfl
    split
    · rfl
    split <;> rfl
  · rw [exec_admitted (owner := fieldSetOwner index value) ha rfl (fieldSetOwner_frame s index value), fieldSetOwner_eq]
    dsimp only
    split
    · rfl
    split
    · rfl
    cases hf : s.record.game.fields[index]? with
    | none =>
      rw [if_pos (List.getElem?_eq_none_iff.mp hf)]
      rfl
    | some f =>
      rw [if_neg (Nat.not_le.mpr (List.getElem?_eq_some_iff.mp hf).1), fieldClamped_eq hf, applyField_eq hf]
      rfl
  · rw [exec_admitted (owner := recordConfigOwner c) ha rfl (recordConfigOwner_frame s c), recordConfigOwner_eq]
    dsimp only
    split
    · rfl
    split
    · rfl
    split <;> rfl

end Sys2Proof
end

section
namespace Sys2Proof.Machine

set_option Elab.async false

/-! ## Replacing requests in zones of the layout (R63, R106) -/

section
variable {s : State} {zone : Nat}

/-- A replacing request in a zone of the layout joins, and stands there (R104, R106). -/
theorem request_takes {z : Zone} (hz : s.zone? zone = some z) (r : Request) :
    (s.request zone r true).2.joins = true ∧ ∃ y, (s.request zone r true).1.zone? zone = some y ∧ y.arb.Carries r := by
  cases hs : s.standsAt zone r.level with
  | none =>
    obtain ⟨he, hj⟩ := request_of_free hz hs true
    obtain ⟨y, hy, hh⟩ := record_evaluate_holds hz r
    exact ⟨hj, y, by rw [he, hy], hh.carries⟩
  | some x =>
    have hst : (s.standsAt zone r.level).isSome = true := by rw [hs]; rfl
    refine ⟨?_, request_carries hst⟩
    have hlevel := (standing_isSome z.arb r.level).mp (by simpa [State.standsAt, hz] using hst)
    unfold State.request
    rw [hz]
    dsimp only
    by_cases hv : (z.arb.serviceAt r.level).isSome = true
    · rw [if_pos hv, if_pos rfl]
      rfl
    · rw [if_neg hv, if_pos (hlevel.resolve_right hv), if_pos rfl]
      rfl

end

/-- Replacing requests in zones of the layout: each zone joins, and the request stands in each (R104, R106). -/
theorem requestAll_takes (r : Request) (zones : List Nat) (s : State) (hz : ∀ k ∈ zones, (s.zone? k).isSome = true) :
    (s.requestAll r true zones).2 = zones ∧
      ∀ k ∈ zones, ∃ y, (s.requestAll r true zones).1.zone? k = some y ∧ y.arb.Carries r := by
  induction zones generalizing s with
  | nil => exact ⟨rfl, nofun⟩
  | cons z zones ih =>
    obtain ⟨x, hx⟩ := Option.isSome_iff_exists.mp (hz z (by simp))
    obtain ⟨hj, y, hy, hc⟩ := request_takes hx r
    obtain ⟨hout, hall⟩ := ih (s.request z r true).1 fun k hk => by
      by_cases hkz : k = z
      · rw [hkz, hy]
        rfl
      · rw [request_zone_other hkz]
        exact hz k (by simp [hk])
    rw [requestAll_cons, hj, hout]
    refine ⟨rfl, fun k hk => ?_⟩
    by_cases hm : k ∈ zones
    · exact hall k hm
    · obtain rfl := (List.mem_cons.mp hk).resolve_right hm
      exact ⟨y, ((requestAll_replaces r zones _).1 k hm).trans hy, hc⟩

/-! ## Score events (R63, R88) -/

theorem mem_ascending8 {l : List Nat} {k : Nat} : k ∈ ascending8 l ↔ k < 8 ∧ k ∈ l := by simp [ascending8]

/-- The asset of a team's score events (R62, R63). -/
def scoreAsset (team : Team) (c : RecordConfig) : Option Nat :=
  match team with
  | .home => c.homeAsset
  | .guest => c.guestAsset

/-- The request of a score event with an asset (R63). -/
def State.scoreRequest (asset : Nat) (s : State) : Request :=
  ⟨2, .asset asset, some (s.toFrames s.record.game.config.duration), s.record.game.config.sponsor.filter s.sponsorDefined⟩

section
variable {s : State} {team : Team}

theorem requestScoreEvent_of_none (h : scoreAsset team s.record.game.config = none) : s.requestScoreEvent team = s := by
  unfold State.requestScoreEvent
  cases team <;> (dsimp only [scoreAsset] at h ⊢; rw [h])

theorem requestScoreEvent_of_asset {a : Nat} (h : scoreAsset team s.record.game.config = some a) :
    s.requestScoreEvent team = (s.requestAll (s.scoreRequest a) true s.scoreEventZones).1.mapRecord fun r =>
      { r with outstanding := ascending8 (r.outstanding ++ (s.requestAll (s.scoreRequest a) true s.scoreEventZones).2) } := by
  unfold State.requestScoreEvent
  cases team <;> (dsimp only [scoreAsset] at h ⊢; rw [h]; rfl)

theorem scoreEventZones_found {k : Nat} (hw : s.zonesWf) (h : k ∈ s.scoreEventZones) :
    k ≤ 7 ∧ (s.zone? k).isSome = true := by
  obtain ⟨z, hz, rfl⟩ := List.mem_map.mp h
  have hz := List.mem_of_mem_filter hz
  exact ⟨hw.small z hz, by rw [zone_of_zonesWf hw hz]; rfl⟩

/-- A score event with an asset stands in every score-event zone, and each is outstanding (R63). -/
theorem requestScoreEvent_stands (hw : s.zonesWf) {a : Nat} (h : scoreAsset team s.record.game.config = some a) {zone : Nat}
    (hz : zone ∈ s.scoreEventZones) :
    ∃ z, (s.requestScoreEvent team).zone? zone = some z ∧ zone ∈ (s.requestScoreEvent team).record.outstanding ∧
      z.arb.Carries (s.scoreRequest a) := by
  obtain ⟨hout, hall⟩ := requestAll_takes (s.scoreRequest a) s.scoreEventZones s fun k hk => (scoreEventZones_found hw hk).2
  obtain ⟨z, hfound, hc⟩ := hall zone hz
  rw [requestScoreEvent_of_asset h]
  refine ⟨z, hfound, mem_ascending8.mpr ⟨?_, ?_⟩, hc⟩
  · exact Nat.lt_succ_of_le (scoreEventZones_found hw hz).1
  · rw [hout]
    exact List.mem_append_right _ hz

end

/-! ## The owners of the score records (R60, R61) -/

theorem addScore_eq (team : Team) (points seq : Nat) (s : State) : s.addScore team points seq =
    (if 0 < appliedPoints points (teamOf s.record.game team).score then (s.scored team points seq).requestScoreEvent team
      else s.scored team points seq).sendEvent
        (.scoreAdd team (appliedPoints points (teamOf s.record.game team).score)) seq := rfl

theorem scoreAddOwner_eq (team : Team) (points : Nat) (s : State) : scoreAddOwner team points s =
    if s.record.game.session = .final then s.refuse .closed
    else if points = 0 ∨ 9 < points then s.refuse .range
    else (s.addScore team points s.record.game.nextSeq).okWith
      (.score s.record.game.nextSeq (appliedPoints points (teamOf s.record.game team).score)
        ((teamOf s.record.game team).score + appliedPoints points (teamOf s.record.game team).score)) := by
  simp only [scoreAddOwner, tests_cons, tests_nil, State.isFinal, beq_iff_eq, within_eq_false, Nat.lt_one_iff]

theorem revisable_iff (k : LogKind) : LogKind.revisable k = true ↔ k = .add false := by
  cases k <;> simp [LogKind.revisable]

theorem scoreReviseOwner_of_final {named : Nat} {s : State} (hf : s.record.game.session = .final) :
    scoreReviseOwner named s = s.refuse .closed := if_pos (by simp [State.isFinal, hf])

theorem scoreReviseOwner_of_none {named : Nat} {s : State} (hf : s.record.game.session ≠ .final)
    (he : findEntry named s.record.game.log = none) : scoreReviseOwner named s = s.refuse .notFound := by
  unfold scoreReviseOwner State.isFinal
  rw [if_neg (by simpa using hf), he]

theorem scoreReviseOwner_of_some {named : Nat} {s : State} {x : LogEntry} (hf : s.record.game.session ≠ .final)
    (he : findEntry named s.record.game.log = some x) : scoreReviseOwner named s =
      if x.kind = .add false then
        (s.reviseScore x s.record.game.nextSeq).okWith
          (.score s.record.game.nextSeq (-(min (teamOf s.record.game x.team).score x.delta.toNat : Nat))
            ((teamOf s.record.game x.team).score - min (teamOf s.record.game x.team).score x.delta.toNat))
      else s.refuse .range := by
  unfold scoreReviseOwner State.isFinal
  rw [if_neg (by simpa using hf), he]
  simp only [revisable_iff]

end Sys2Proof.Machine

namespace Sys2Proof

open Machine

/-- Settles O24. -/
theorem scoresAreAddedAndRevised : Obligations.ScoresAreAddedAndRevised := by
  refine ⟨⟨fun h team points s ha => ?_, fun h named s ha => ?_⟩, fun team s hw => ⟨?_, requestScoreEvent_frame s team, ?_⟩⟩
  · rw [exec_admitted (owner := scoreAddOwner team points) ha rfl (scoreAddOwner_frame s team points), scoreAddOwner_eq,
      addScore_eq]
    dsimp only
    split
    · rfl
    split
    · rfl
    · cases team <;> rfl
  · rw [exec_admitted (owner := scoreReviseOwner named) ha rfl (scoreReviseOwner_frame s named)]
    dsimp only
    split
    · next hf =>
      rw [scoreReviseOwner_of_final hf]
      rfl
    next hf =>
    cases he : findEntry named s.record.game.log with
    | none =>
      rw [scoreReviseOwner_of_none hf he, show s.record.game.log.find? (·.seq == named) = none from he]
      rfl
    | some x =>
      rw [scoreReviseOwner_of_some hf he, show s.record.game.log.find? (·.seq == named) = some x from he]
      dsimp only
      split
      · unfold State.reviseScore
        cases x.team <;> rfl
      · rfl
  · intro hn
    exact requestScoreEvent_of_none (by cases team <;> exact hn)
  · intro a h zone hz
    obtain ⟨z, hfound, hout, hc⟩ := requestScoreEvent_stands (team := team) hw (by cases team <;> exact h) hz
    refine ⟨z, hfound, hout, ?_⟩
    rcases hc with ⟨k, hk, hcontent, hframes, hcredit, hpos⟩ | hp
    · exact .inr ⟨k, hk, hcontent, hframes, hpos, hcredit⟩
    · exact .inl hp

end Sys2Proof
end

section
namespace Sys2Proof.Machine

set_option Elab.async false

/-! ## A part's decision, step by step (R72) -/

section
variable (role : TwinRole) (token : Nat) (last : LastRole) (p : Hello)

/-- Steps 3 to 6 of R72: what the last roles leave open is decided by preference and token. -/
theorem decideAuto_eq : decideAuto role token last p =
    if last = .master ∧ p.lastRole ≠ .master then .master
    else if last ≠ .master ∧ p.lastRole = .master then .follower
    else if last = .follower ∧ p.lastRole = .none then .master
    else if last = .none ∧ p.lastRole = .follower then .follower
    else decidePreference role token p := by
  unfold decideAuto
  generalize p.lastRole = peer
  cases last <;> cases peer <;> rfl

/-- Steps 1 and 2 of R72, by the manual roles on either side. -/
theorem decide72_eq : decide72 role token last p =
    if role = .manualMaster ∧ p.role = .manualMaster ∨ role = .manualFollower ∧ p.role = .manualFollower then
      .fault .bothManual
    else if role = .manualMaster ∨ p.role = .manualFollower then .master
    else if role = .manualFollower ∨ p.role = .manualMaster then .follower
    else decideAuto role token last p := by
  unfold decide72
  generalize p.role = peer
  cases role <;> cases peer <;> rfl

end

/-! ## The same decision seen from the other side (section 4.3) -/

theorem Decision.opposite_opposite (d : Decision) : d.opposite.opposite = d := by cases d <;> rfl

theorem opposite_eq_iff {d e : Decision} : d.opposite = e ↔ d = e.opposite :=
  ⟨fun h => by rw [← h, d.opposite_opposite], fun h => by rw [h, e.opposite_opposite]⟩

/-- Two manual roles that differ are opposite. -/
theorem manualRole_opposite {r q : TwinRole} {d e : Decision} (hr : manualRole r = some d) (hq : manualRole q = some e)
    (hne : d ≠ e) : e = d.opposite := by
  revert hr hq hne
  cases r <;> cases q <;> rintro ⟨⟩ ⟨⟩ hne
  · exact absurd rfl hne
  · rfl
  · rfl
  · exact absurd rfl hne

theorem decideLast_swap (a b : LastRole) : decideLast b a = (decideLast a b).map Decision.opposite := by
  cases a <;> cases b <;> rfl

theorem decidePreference_swap (a b : Hello) :
    decidePreference b.role b.token a = (decidePreference a.role a.token b).opposite := by
  unfold decidePreference
  by_cases hab : a.role = .autoPreferMaster ∧ b.role = .autoPreferFollower
  · rw [if_pos hab, if_neg (by simp [hab]), if_pos hab.symm]
    rfl
  by_cases hba : b.role = .autoPreferMaster ∧ a.role = .autoPreferFollower
  · rw [if_pos hba, if_neg hab, if_pos hba.symm]
    rfl
  rw [if_neg hba, if_neg (mt And.symm hab), if_neg hab, if_neg (mt And.symm hba)]
  rcases Nat.lt_trichotomy a.token b.token with h | h | h
  · rw [if_pos h, if_neg (Nat.lt_asymm h), if_pos h]
    rfl
  · simp only [h, Nat.lt_irrefl, if_false]
    rfl
  · rw [if_neg (Nat.lt_asymm h), if_pos h, if_pos h]
    rfl

theorem decideAuto_swap (a b : Hello) :
    decideAuto b.role b.token b.lastRole a = (decideAuto a.role a.token a.lastRole b).opposite := by
  unfold decideAuto
  rw [decideLast_swap a.lastRole b.lastRole, decidePreference_swap a b]
  cases decideLast a.lastRole b.lastRole <;> rfl

/-- Of two parts that decide on each other's HELLO, each decides the opposite of the other (R72). -/
theorem decide72_swap (a b : Hello) :
    decide72 b.role b.token b.lastRole a = (decide72 a.role a.token a.lastRole b).opposite := by
  unfold decide72
  cases ha : manualRole a.role with
  | none =>
    cases manualRole b.role with
    | none => exact decideAuto_swap a b
    | some e => exact e.opposite_opposite.symm
  | some d =>
    cases hb : manualRole b.role with
    | none => rfl
    | some e =>
      by_cases h : d = e
      · rw [h]
        simp only [if_true]
        rfl
      · dsimp only
        rw [if_neg (Ne.symm h), if_neg h, manualRole_opposite ha hb h]

end Sys2Proof.Machine

namespace Sys2Proof

open Machine

/-- Settles O26: the steps from the two parts of the decision, the agreement from its symmetry. -/
theorem twinDecisionsAgree : Obligations.TwinDecisionsAgree := by
  refine ⟨fun role token last p => ?_, fun a b => ?_⟩
  · rw [decide72_eq, decideAuto_eq]
    rfl
  · dsimp only
    rw [decide72_swap a b]
    exact ⟨(opposite_eq_iff (e := .follower)).symm, (opposite_eq_iff (e := .master)).symm,
      fun r => (opposite_eq_iff (e := .fault r)).symm⟩

end Sys2Proof
end

section
namespace Sys2Proof.Machine

set_option Elab.async false

/-! ## A change of twin state (R71, R75, R77, R82) -/

theorem helloRuns_eq (role : TwinRole) (new : TwinState) : helloRuns role new =
    decide (new = .solo ∧ role ≠ .off ∨ new = .resolving ∨ new = .orphan ∨ new = .fault) := by
  cases new <;> simp [helloRuns, bne, Bool.beq_eq_decide_eq]

theorem lossRuns_eq (new : TwinState) :
    lossRuns new = decide (new = .resolving ∨ new = .master ∨ new = .follower ∨ new = .fault) := by
  cases new <;> rfl

/-- The twin unit in a new state, field by field (R71, R75, R77, R80). -/
theorem enter_eq (new : TwinState) (reason : FaultReason) (w : Twin) : w.enter new reason =
    { w with
      state := new
      reason := reason
      decidedFollower := false
      fromFollower := if new = .resolving ∧ w.state ≠ .resolving then decide (w.state = .follower ∨ w.state = .orphan)
        else w.fromFollower
      helloTimer :=
        if decide (new = .solo ∧ w.role ≠ .off ∨ new = .resolving ∨ new = .orphan ∨ new = .fault) then
          some (w.helloTimer.getD 250)
        else none
      lossTimer :=
        if decide (new = .resolving ∨ new = .master ∨ new = .follower ∨ new = .fault) then some (w.lossTimer.getD 1000)
        else none
      heartbeatTimer := if new = .follower then some (w.heartbeatTimer.getD 250) else none
      clockTimer := if new = .master then some (w.clockTimer.getD 250) else none
      eventNo := if new = .master then 65535 else w.eventNo
      resync := decide (new = .follower) && w.resync } := by
  unfold Twin.enter timerOn
  rw [helloRuns_eq, lossRuns_eq]
  simp only [beq_eq_decide, Bool.decide_or, decide_eq_true_eq]

/-! ## A changed role configuration or token (R70) -/

/-- What TWIN_CONFIG does, by the role configuration before and after and by the twin state (R70). -/
theorem configureTwin_eq (role : TwinRole) (token comp : Nat) (s : State) : s.configureTwin role token comp =
    let u := s.mapTwin fun t => { t with role := role, token := token, compensation := comp }
    if role = s.twin.role ∧ token = s.twin.token then u
    else if role = .off then
      if s.twin.role = .off then u else (u.enterTwin .solo .config .none).mapTwin Twin.stopSending
    else if s.twin.role = .off then (u.enterTwin .solo .config .none).sendHello
    else if s.twin.state = .solo ∨ s.twin.state = .orphan then u.sendHello
    else (u.enterTwin .resolving .config .none).sendHello := by
  unfold State.configureTwin State.reconfigure
  dsimp only [mapTwin_twin]
  cases s.twin.state <;> rfl

theorem twinConfigOwner_eq (role : TwinRole) (token comp : Nat) (s : State) : twinConfigOwner role token comp s =
    if 20 < comp then s.refuse .range else (s.configureTwin role token comp).ok := by
  simp only [twinConfigOwner, tests_cons, tests_nil, decide_eq_true_eq]

end Sys2Proof.Machine

namespace Sys2Proof

open Machine

/-- Settles O27: TWIN_CONFIG by its owner's cases, a change of state by the fields of the twin unit it enters. -/
theorem twinIsConfiguredAndEntersItsStates : Obligations.TwinIsConfiguredAndEntersItsStates := by
  refine ⟨fun h role token comp s ha => ?_, fun new cause reason s => ?_⟩
  · rw [exec_admitted (owner := twinConfigOwner role token comp) ha rfl (twinConfigOwner_frame s role token comp),
      twinConfigOwner_eq, configureTwin_eq]
    dsimp only
    split <;> rfl
  · dsimp only
    rw [← enter_eq]
    rfl

end Sys2Proof
end

section
namespace Sys2Proof.Machine

set_option Elab.async false

/-! ## What a decision rests on stands through a change of state (R72) -/

/-- Role configuration, token and last role decide, and nothing outside the twin unit reaches them. -/
theorem Frame.decide {P : List Part} {s t : State} (h : Frame P s t) (p : Hello)
    (hP : P.contains .twin = false := by decide) : t.twin.decide p = s.twin.decide p := by
  have ht := h.same .twin (by simpa using hP)
  simp only [samePart, Twin.mk.injEq] at ht
  obtain ⟨hrole, htoken, -, hlast, -⟩ := ht
  unfold Twin.decide
  rw [hrole, htoken, hlast]

theorem enterTwin_decide (new : TwinState) (cause : TwinCause) (reason : FaultReason) (s : State) (p : Hello) :
    (s.enterTwin new cause reason).twin.decide p = s.twin.decide p := by
  have entered : (s.mapTwin (Twin.enter new reason)).twin.decide p = s.twin.decide p := rfl
  have rest (t : State) (h : Frame expiryParts (s.mapTwin (Twin.enter new reason)) t) :
      t.twin.decide p = s.twin.decide p := (h.decide p).trans entered
  unfold State.enterTwin
  dsimp only
  refine rest _ (.ite (.refl _ _) (.ite ?_ (.mono (raise_frame _ _ _))))
  exact ((Frame.mono (raise_frame _ _ _)).next (closeWindow_frame _)).next (sampleLine_frame _)

/-! ## A good twin frame (R69, R70) -/

section
variable {s : State}

/-- With configuration OFF every twin record is discarded (R70). -/
theorem hearTwin_off (hd : s.due = []) (hr : s.twin.role = .off) (f : State → State) : s.settle.hearTwin f = s := by
  rw [settle_of_due_nil s hd]
  exact if_pos hr

theorem hearTwin_on (hd : s.due = []) (hr : s.twin.role ≠ .off) (f : State → State) :
    s.settle.hearTwin f = f (s.mapTwin Twin.heard) := by
  rw [settle_of_due_nil s hd]
  exact if_neg hr

end

/-! ## A HELLO received (R71, R73, R74) -/

theorem heard_heard (w : Twin) : w.heard.heard = w.heard := by
  unfold Twin.heard
  cases w.lossTimer <;> rfl

theorem sameIdentity_eq (h : Hello) (before : Option Hello) : sameIdentity h before =
    decide (before.map (fun p => (p.role, p.token)) = some (h.role, h.token)) := by
  cases before with
  | none => rfl
  | some p => simp [sameIdentity, Bool.beq_eq_decide_eq, eq_comm]

/-- The state with the HELLO recorded as the peer's (R71, R75). -/
def State.greeted (h : Hello) (s : State) : State := s.mapTwin fun t => { t.heard with peer := some h }

/-- The loss timer restarted twice is restarted once (R75). -/
theorem greeted_heard (h : Hello) (s : State) : (s.mapTwin Twin.heard).greeted h = s.greeted h := by
  show { s with twin := { s.twin.heard.heard with peer := some h } } = s.greeted h
  rw [heard_heard]
  rfl

/-- A fresh resolution decides as the part's own fields stood before it (R74). -/
theorem resolveAfresh_eq (h : Hello) (s : State) :
    s.resolveAfresh h = ((s.enterTwin .resolving .hello .none).sendHello).applyDecision (s.twin.decide h) := by
  unfold State.resolveAfresh
  dsimp only
  rw [(sendHello_frame _).decide, enterTwin_decide]

/-- What a HELLO does, by the state it is received in (R71, R73, R74). -/
theorem takeHello_eq (h : Hello) (s : State) : s.takeHello h =
    let u := s.greeted h
    let d := s.twin.decide h
    let afresh := ((u.enterTwin .resolving .hello .none).sendHello).applyDecision d
    match s.twin.state with
    | .resolving => u.applyDecision d
    | .master => if d = .master then u.sendHello.sendState else (u.enterTwin .resolving .hello .none).applyDecision d
    | .follower => if h.state = .master ∧ sameIdentity h s.twin.peer = true then u else afresh
    | .fault => if sameIdentity h s.twin.peer = true then u else afresh
    | .solo => afresh
    | .orphan => afresh := by
  have hd : (s.greeted h).twin.decide h = s.twin.decide h := rfl
  have hf := resolveAfresh_eq h (s.greeted h)
  unfold State.takeHello
  dsimp only
  rw [← hd, ← hf, show (s.mapTwin fun t => { t.heard with peer := some h }) = s.greeted h from rfl,
    show (s.greeted h).twin.state = s.twin.state from rfl]
  cases s.twin.state with
  | master => cases (s.greeted h).twin.decide h <;> rfl
  | _ => rfl

theorem hear_hello {h : Hello} {s : State} (hd : s.due = []) (hr : s.twin.role ≠ .off) :
    exec (.twinHelloReceived h) s = .next ((s.mapTwin Twin.heard).takeHello h) :=
  congrArg Host.Outcome.next (hearTwin_on hd hr _)

/-! ## What the other twin records bring outside FOLLOWER (R70, R71, R74, R80) -/

section
variable {s : State} (r : StateRecord) (k : ClockRecord) (e : EventRecord) (b : Bool)

theorem take_records_of_away (hs : s.twin.state = .solo ∨ s.twin.state = .orphan) :
    s.takeState r = s.sendHello ∧ s.takeClock k = s.sendHello ∧ s.takeEvent e = s.sendHello ∧
      s.takeHeartbeat b = s.sendHello := by
  unfold State.takeState State.takeClock State.takeEvent State.takeHeartbeat
  rcases hs with hs | hs <;> rw [hs] <;> exact ⟨rfl, rfl, rfl, rfl⟩

theorem take_records_of_open (hs : s.twin.state = .fault ∨ s.twin.state = .resolving) :
    s.takeClock k = s ∧ s.takeEvent e = s ∧ s.takeHeartbeat b = s := by
  unfold State.takeClock State.takeEvent State.takeHeartbeat
  rcases hs with hs | hs <;> rw [hs] <;> exact ⟨rfl, rfl, rfl⟩

/-- A STATE that no follower decision awaits is discarded in RESOLVING and FAULT (R73, R74). -/
theorem takeState_of_open (hs : s.twin.state = .fault ∨ s.twin.state = .resolving ∧ s.twin.decidedFollower = false) :
    s.takeState r = s := by
  unfold State.takeState
  rcases hs with hs | ⟨hs, hdec⟩ <;> rw [hs]
  exact if_neg (by rw [hdec]; decide)

theorem take_records_of_master (hs : s.twin.state = .master) :
    s.takeState r = s.conflict ∧ s.takeClock k = s.conflict ∧ s.takeEvent e = s.conflict ∧
      s.takeHeartbeat b = if b then s.sendState else s := by
  unfold State.takeState State.takeClock State.takeEvent State.takeHeartbeat
  rw [hs]
  exact ⟨rfl, rfl, rfl, rfl⟩

theorem takeHeartbeat_of_follower (hs : s.twin.state = .follower) : s.takeHeartbeat b = s.conflict := by
  unfold State.takeHeartbeat
  rw [hs]

end

end Sys2Proof.Machine

namespace Sys2Proof

open Machine

/-- Settles O28: a HELLO by the state it finds, the other records by what each state makes of them. -/
theorem twinRecordsOutsideFollowing : Obligations.TwinRecordsOutsideFollowing := by
  refine ⟨fun hello s hd hr => ?_, fun c r k e n b s hd => ⟨fun hr hc => ?_, fun hr => ?_⟩⟩
  · rw [hear_hello hd hr, takeHello_eq, sameIdentity_eq, greeted_heard]
    rfl
  · rcases hc with ⟨x, rfl⟩ | rfl | rfl | rfl | rfl <;> exact congrArg Host.Outcome.next (hearTwin_off hd hr _)
  · have hstate : exec (.twinStateReceived 1 1 r) s = .next (s.listening.takeState r) := hear_state hd hr
    have hclock : exec (.twinClockReceived k) s = .next ((s.mapTwin Twin.heard).takeClock k) :=
      congrArg Host.Outcome.next (hearTwin_on hd hr _)
    have hevent : exec (.twinEventReceived e) s = .next ((s.mapTwin Twin.heard).takeEvent e) :=
      congrArg Host.Outcome.next (hearTwin_on hd hr _)
    have hbeat : exec (.twinHeartbeatReceived n b) s = .next ((s.mapTwin Twin.heard).takeHeartbeat b) :=
      congrArg Host.Outcome.next (hearTwin_on hd hr _)
    rw [hstate, hclock, hevent, hbeat]
    refine ⟨fun hs => ?_, fun hs => ?_, fun hs => ?_, fun hs => ?_, fun hs => ?_⟩
    · obtain ⟨hst, -⟩ := take_records_of_away (s := s.listening) r k e b hs
      obtain ⟨-, hcl, hev, hhb⟩ := take_records_of_away (s := s.mapTwin Twin.heard) r k e b hs
      rw [hst, hcl, hev, hhb]
      exact ⟨rfl, rfl, rfl, rfl⟩
    · rw [takeState_of_open (s := s.listening) r hs]
      rfl
    · obtain ⟨hcl, hev, hhb⟩ := take_records_of_open (s := s.mapTwin Twin.heard) k e b hs
      rw [hcl, hev, hhb]
      exact ⟨rfl, rfl, rfl⟩
    · obtain ⟨hst, -⟩ := take_records_of_master (s := s.listening) r k e b hs
      obtain ⟨-, hcl, hev, hhb⟩ := take_records_of_master (s := s.mapTwin Twin.heard) r k e b hs
      rw [hst, hcl, hev, hhb]
      exact ⟨rfl, rfl, rfl, rfl⟩
    · rw [takeHeartbeat_of_follower (s := s.mapTwin Twin.heard) b hs]
      rfl

end Sys2Proof
end

section
namespace Sys2Proof.Machine

set_option Elab.async false

/-! ## The twin receiver over a run of bytes (R3, R69) -/

/-- A byte that completes nothing moves the twin receiver on. -/
theorem twinByte_of_quiet {w : Twin} {b : Byte} {rx : Rx} (h : w.rx.take b = (rx, .quiet)) :
    w.receiveByte b = { w with rx := rx } := by
  unfold Twin.receiveByte
  rw [h]

theorem twinByte_hunt {w : Twin} (h : w.rx = .hunt) {b : Byte} (hb : b ≠ sync) : w.receiveByte b = w := by
  rw [twinByte_of_quiet (rx := .hunt) (by rw [h]; simp [Rx.take, hb]), ← h]

/-- A run of characters without SYNC leaves the receiver in HUNT (R3, R69). -/
theorem twinReceive_hunt {w : Twin} (h : w.rx = .hunt) {cs : List LineChar}
    (hc : ∀ c ∈ cs, c.stopBit = true → c.byte ≠ sync) : w.receive cs = w := by
  have hb : ∀ b ∈ keptBytes cs, b ≠ sync := by
    intro b hb
    simp only [keptBytes, List.mem_map, List.mem_filter] at hb
    obtain ⟨c, ⟨hm, hstop⟩, rfl⟩ := hb
    exact hc c hm hstop
  unfold Twin.receive
  revert hb
  generalize keptBytes cs = bytes
  intro hb
  induction bytes with
  | nil => rfl
  | cons b bs ih =>
    rw [List.foldl_cons, twinByte_hunt h (hb b (by simp))]
    exact ih fun x hx => hb x (by simp [hx])

/-- A receiver takes a run of bytes without completing anything. -/
def Rx.Quietly (r : Rx) : List Byte → Rx → Prop
  | [], q => r = q
  | b :: bs, q => ∃ m, r.take b = (m, .quiet) ∧ m.Quietly bs q

theorem twinReceive_quietly {bytes : List Byte} : ∀ {w : Twin} {rx : Rx}, w.rx.Quietly bytes rx →
    bytes.foldl Twin.receiveByte w = { w with rx := rx } := by
  induction bytes with
  | nil => rintro w rx rfl; rfl
  | cons b bs ih =>
    rintro w rx ⟨m, hm, h⟩
    rw [List.foldl_cons, twinByte_of_quiet hm]
    exact ih h

/-- In BODY bytes short of the last of CHECK complete nothing (R3). -/
theorem quietly_body (len tag kind : Nat) (bytes : List Byte) : ∀ got : List Byte, got.length + bytes.length < len + 2 →
    (Rx.body len tag kind got).Quietly bytes (.body len tag kind (got ++ bytes)) := by
  induction bytes with
  | nil => intro got _; simp [Rx.Quietly]
  | cons b bytes ih =>
    intro got hlen
    rw [List.length_cons] at hlen
    have hopen : ¬len + 2 ≤ (got ++ [b]).length := by
      rw [List.length_append, List.length_singleton]
      omega
    refine ⟨.body len tag kind (got ++ [b]), by simp only [Rx.take, ge_iff_le, hopen, if_false], ?_⟩
    have := ih (got ++ [b]) (by rw [List.length_append, List.length_singleton]; omega)
    rwa [List.append_assoc] at this

/-- SYNC and the bytes of LEN, TAG and KIND complete nothing, where LEN is in range (R3). -/
theorem quietly_header {a b t k : Byte} (hn : a.toNat * 256 + b.toNat ≤ 1024) :
    Rx.hunt.take sync = (.header [], .quiet) ∧ (Rx.header []).take a = (.header [a], .quiet) ∧
      (Rx.header [a]).take b = (.header [a, b], .quiet) ∧ (Rx.header [a, b]).take t = (.header [a, b, t], .quiet) ∧
      (Rx.header [a, b, t]).take k = (.body (a.toNat * 256 + b.toNat) t.toNat k.toNat [], .quiet) := by
  refine ⟨?_, ?_, ?_, ?_, ?_⟩ <;> simp [Rx.take, natBE_two, natBE_one, hn]

/-- What stands of a frame before its last byte leaves the receiver in HEADER or BODY (R3, R69). -/
theorem quietly_frame_take {tag kind n : Nat} {body : List Byte} (hb : body.length ≤ 1024) (h0 : 0 < n)
    (hn : n < body.length + 7) : ∃ rx, Rx.hunt.Quietly ((frameBytes tag kind body).take n) rx ∧ rx ≠ .hunt := by
  have hlen := natBE_bytesBE_two (n := body.length) (by omega)
  have hframe : frameBytes tag kind body =
      sync :: BitVec.ofNat 8 (body.length / 256) :: BitVec.ofNat 8 body.length :: BitVec.ofNat 8 tag ::
        BitVec.ofNat 8 kind :: (body ++ bytesBE 2 (crc16 (checkedBytes tag kind body)).toNat) := by
    simp [frameBytes, checkedBytes, bytesBE_one, bytesBE_two]
  obtain ⟨hsync, ha, hl, ht, hk⟩ := quietly_header (t := BitVec.ofNat 8 tag) (k := BitVec.ofNat 8 kind) (hlen.symm ▸ hb)
  rw [hframe]
  match n with
  | 1 => exact ⟨_, ⟨_, hsync, rfl⟩, nofun⟩
  | 2 => exact ⟨_, ⟨_, hsync, _, ha, rfl⟩, nofun⟩
  | 3 => exact ⟨_, ⟨_, hsync, _, ha, _, hl, rfl⟩, nofun⟩
  | 4 => exact ⟨_, ⟨_, hsync, _, ha, _, hl, _, ht, rfl⟩, nofun⟩
  | m + 5 =>
    refine ⟨_, ⟨_, hsync, _, ha, _, hl, _, ht, _, hk, quietly_body _ _ _ _ [] ?_⟩, nofun⟩
    rw [hlen, List.length_nil, List.length_take]
    omega

/-- The silence limit in HEADER or BODY makes the incomplete frame a bad one (R69, R3). -/
theorem twinSilence_of_open {w : Twin} (h : w.rx ≠ .hunt) : w.silence = { w.badFrame with rx := .hunt } := by
  unfold Twin.silence
  split
  · next hh => exact absurd hh h
  · rfl

theorem twinSilence_of_hunt {w : Twin} (h : w.rx = .hunt) : w.silence = w := by
  unfold Twin.silence
  rw [h]

/-- A frame cut short counts one framing error, and the receiver hunts again (R69). -/
theorem silence_frame_take {w : Twin} (h : w.rx = .hunt) {tag kind n : Nat} {body : List Byte} (hb : body.length ≤ 1024)
    (h0 : 0 < n) (hn : n < body.length + 7) :
    (w.receive (onLine ((frameBytes tag kind body).take n))).silence = w.badFrame := by
  obtain ⟨rx, hq, hrx⟩ := quietly_frame_take (tag := tag) (kind := kind) hb h0 hn
  unfold Twin.receive
  rw [keptBytes_onLine, twinReceive_quietly (h.symm ▸ hq), twinSilence_of_open hrx]
  cases w
  cases h
  rfl

/-! ## The frames of a record (R69) -/

/-- Consecutive pieces of one length make up a list from its start. -/
theorem flatMap_pieces {α : Type} (l : List α) (k n : Nat) :
    (List.range n).flatMap (fun i => (l.drop (i * k)).take k) = l.take (n * k) := by
  induction n with
  | zero => simp
  | succ n ih => rw [List.range_succ, List.flatMap_append, ih, Nat.succ_mul, List.take_add, List.flatMap_singleton]

theorem partBody_eq (fields : List Byte) (n i : Nat) : partBody fields n i =
    BitVec.ofNat 8 (i + 1) :: BitVec.ofNat 8 n :: (fields.drop (i * 1022)).take 1022 := by
  simp [partBody, bytesBE_one, maxBody]

theorem bodies_of_fit {r : TwinRecord} (h : r.kind ≠ 0x02 ∨ (Config.twinBody r).length ≤ 1024) :
    r.bodies = [Config.twinBody r] := by
  cases r with
  | state q => exact if_pos (h.resolve_left fun hk => hk rfl)
  | _ => rfl

theorem bodies_of_long {r : TwinRecord} (hk : r.kind = 0x02) (h : 1024 < (Config.twinBody r).length) :
    r.bodies = (List.range (((Config.twinBody r).length + 1021) / 1022)).map
      (partBody (Config.twinBody r) (((Config.twinBody r).length + 1021) / 1022)) := by
  cases r with
  | state q => exact if_neg (Nat.not_le.mpr h)
  | _ => simp [TwinRecord.kind] at hk

/-- The parts of a long STATE: their number, what they carry together, and the length and head of each (R69). -/
theorem bodies_parts {r : TwinRecord} (hk : r.kind = 0x02) (h : 1024 < (Config.twinBody r).length) :
    r.bodies.length = ((Config.twinBody r).length + 1021) / 1022 ∧ r.bodies.flatMap (·.drop 2) = Config.twinBody r ∧
      ∀ i (b : List Byte), r.bodies[i]? = some b → b.length ≤ 1024 ∧
        b.take 2 = [BitVec.ofNat 8 (i + 1), BitVec.ofNat 8 r.bodies.length] := by
  rw [bodies_of_long hk h]
  generalize Config.twinBody r = fields
  have hall : fields.length ≤ (fields.length + 1021) / 1022 * 1022 := by omega
  refine ⟨by rw [List.length_map, List.length_range], ?_, fun i b hb => ?_⟩
  · rw [List.flatMap_map]
    simp only [partBody_eq, List.drop_succ_cons, List.drop_zero]
    rw [flatMap_pieces, List.take_of_length_le hall]
  · rw [List.getElem?_map, Option.map_eq_some_iff] at hb
    obtain ⟨j, hj, rfl⟩ := hb
    obtain ⟨hi, rfl⟩ := List.getElem?_eq_some_iff.mp hj
    rw [List.getElem_range]
    rw [partBody_eq, List.length_map, List.length_range]
    refine ⟨?_, rfl⟩
    have := List.length_take_le 1022 (fields.drop (i * 1022))
    simp only [List.length_cons]
    omega

/-! ## The twin timers at their ends (R71, R75, R77) -/

theorem lossState_eq (w : Twin) : w.lossState =
    if w.state = .follower ∨ w.state = .resolving ∧ w.fromFollower = true then .orphan else .solo := by
  unfold Twin.lossState
  cases w.state <;> simp

/-- An event row whose event is the first one due carries it out (log 2). -/
theorem exec_due {c : Instr} {s t : State} {e : DueEvent} {rest : List DueEvent} {p : DueEvent → Bool}
    (hd : s.due = e :: rest) (he : exec c s = .next (s.perform p)) (hp : p e = true)
    (ht : ({ s with due := rest } : State).runDue e = t) : exec c s = .next t := by
  rw [he, perform_front hd hp, ht]

/-- The silence limit of the twin link, with what arrived before it (R69). -/
theorem exec_twinSilence {chars : List LineChar} {s : State} (hd : s.due = []) {w : Twin}
    (hw : (s.twin.receive chars).silence = w) : exec (.twinReceiverSilenceExpiry chars) s = .next { s with twin := w } := by
  show Host.Outcome.next (s.settle.mapTwin fun t => (t.receive chars).silence) = _
  rw [settle_of_due_nil s hd, ← hw]
  rfl

end Sys2Proof.Machine

namespace Sys2Proof

open Machine

/-- Settles O31: each timer by its due event, the receiver along a run of bytes that completes nothing, and the frames of a
record by the pieces of its fields. -/
theorem twinTimersExpire : Obligations.TwinTimersExpire := by
  refine ⟨fun rest s => ⟨fun hd ht => ?_, fun hd ht => ?_, fun hd ht hm => ?_, fun hd ht => ?_⟩, fun why s hd => ?_,
    fun chars s hd hr hc => ?_, fun tag kind n body s hd hr hb h0 hn => ?_, fun s hd hr => ?_,
    fun r => ⟨rfl, bodies_of_fit, bodies_parts⟩⟩
  · exact exec_due hd rfl (by decide) (if_pos ht)
  · exact exec_due hd rfl (by decide) (if_pos ht)
  · exact exec_due hd rfl (by decide) ((if_pos ht).trans (if_pos hm))
  · rw [← lossState_eq]
    exact exec_due hd rfl (by decide) (if_pos ht)
  · show Host.Outcome.next s.settle.twinBadFrame = _
    rw [settle_of_due_nil s hd]
    rfl
  · exact exec_twinSilence hd (by rw [twinReceive_hunt hr hc, twinSilence_of_hunt hr])
  · exact exec_twinSilence hd (silence_frame_take hr hb h0 hn)
  · exact exec_twinSilence hd (twinSilence_of_open hr)

end Sys2Proof
end

section
namespace Sys2Proof.Machine

set_option Elab.async false

/-! ## Each operation of the arbiter keeps a zone's arbitration state well formed (R102, R106) -/

theorem insertPending_mem {r q : PendingReq} {qs : List PendingReq} (h : q ∈ insertPending r qs) : q = r ∨ q ∈ qs := by
  induction qs with
  | nil => exact .inl (by simpa [insertPending] using h)
  | cons v qs ih =>
    unfold insertPending at h
    split at h
    · simpa using h
    · split at h
      · exact (List.mem_cons.mp h).imp_right fun h => by simp [h]
      · rcases List.mem_cons.mp h with h | h
        · exact .inr (by simp [h])
        · exact (ih h).imp_right fun h => by simp [h]

theorem insertPending_ascends (r : PendingReq) {qs : List PendingReq} (h : (qs.map (·.level)).Pairwise (· < ·)) :
    ((insertPending r qs).map (·.level)).Pairwise (· < ·) := by
  induction qs with
  | nil => simp [insertPending]
  | cons v qs ih =>
    rw [List.map_cons, List.pairwise_cons] at h
    obtain ⟨hv, hqs⟩ := h
    unfold insertPending
    split
    · next hlt =>
      rw [List.map_cons, List.map_cons, List.pairwise_cons, List.pairwise_cons]
      refine ⟨fun l hl => ?_, hv, hqs⟩
      rcases List.mem_cons.mp hl with rfl | hl
      · exact hlt
      · exact Nat.lt_trans hlt (hv l hl)
    · split
      · next heq =>
        rw [List.map_cons, List.pairwise_cons, heq]
        exact ⟨hv, hqs⟩
      · rw [List.map_cons, List.pairwise_cons]
        refine ⟨fun l hl => ?_, ih hqs⟩
        obtain ⟨q, hq, rfl⟩ := List.mem_map.mp hl
        rcases insertPending_mem hq with rfl | hq
        · show v.level < q.level
          omega
        · exact hv _ (List.mem_map_of_mem hq)

theorem nextNumber_range {n : Nat} (h : 1 ≤ n ∧ n ≤ 65535) : 1 ≤ nextNumber n ∧ nextNumber n ≤ 65535 := by
  unfold nextNumber
  split <;> omega

theorem ascending8_nodup (l : List Nat) : (ascending8 l).Nodup := List.nodup_range.filter _

/-- Levels in service keep their takeovers' places where an update keeps every takeover's level. -/
theorem serviceAt_isSome_of_levels {a b : ZoneArb} (h : b.service.map (·.level) = a.service.map (·.level)) (l : Nat) :
    (b.serviceAt l).isSome = (a.serviceAt l).isSome := by
  have hfind (ks : List InService) : (ks.find? (·.level == l)).isSome = (ks.map (·.level)).contains l := by
    rw [Bool.eq_iff_iff]
    simp [List.find?_isSome]
  unfold ZoneArb.serviceAt
  rw [hfind, hfind, h]

namespace ZoneArb.wf

variable {a : ZoneArb} (h : a.wf)
include h

theorem remove (level : Nat) : (a.remove level).wf where
  pending := h.pending.sublist (List.filter_sublist.map _)
  service := h.service.sublist (List.filter_sublist.map _)
  levels := ⟨fun r hr => h.levels.1 r (List.mem_of_mem_filter hr), fun t ht => h.levels.2 t (List.mem_of_mem_filter ht)⟩
  apart r hr t ht := h.apart r (List.mem_of_mem_filter hr) t (List.mem_of_mem_filter ht)
  yielded := by
    refine ⟨h.yielded.1.filter _, fun l hl => ?_⟩
    have hne : l ≠ level := by simpa using List.of_mem_filter hl
    have hlevel := level_remove a l level
    rw [if_neg hne] at hlevel
    simp only [ZoneArb.level, Prod.mk.injEq] at hlevel
    rw [hlevel.2.1]
    exact h.yielded.2 l (List.mem_of_mem_filter hl)
  mask := h.mask
  arrival := h.arrival

/-- A request is recorded only at a level that is not in service (R104, R106). -/
theorem record {r : Request} (hl : r.level ≤ 7) (hn : a.serviceAt r.level = none) : (a.record r).wf where
  pending := insertPending_ascends _ h.pending
  service := h.service
  levels := by
    refine ⟨fun q hq => ?_, h.levels.2⟩
    rcases insertPending_mem hq with rfl | hq
    · exact hl
    · exact h.levels.1 q hq
  apart := by
    intro q hq t ht
    rcases insertPending_mem hq with rfl | hq
    · have hne : t.level ≠ r.level := by simpa using List.find?_eq_none.mp hn t ht
      exact Ne.symm hne
    · exact h.apart q hq t ht
  yielded := h.yielded
  mask := h.mask
  arrival := nextNumber_range h.arrival

/-- An update of the takeovers in service that keeps each one's level. -/
theorem mapService {f : InService → InService} (hf : ∀ k, (f k).level = k.level) :
    ({ a with service := a.service.map f } : ZoneArb).wf := by
  have hlevels : (a.service.map f).map (·.level) = a.service.map (·.level) := by
    rw [List.map_map]
    exact List.map_congr_left fun k _ => hf k
  refine ⟨h.pending, by rw [hlevels]; exact h.service, ⟨h.levels.1, fun t ht => ?_⟩, fun r hr t ht => ?_,
    ⟨h.yielded.1, fun l hl => ?_⟩, h.mask, h.arrival⟩
  · obtain ⟨k, hk, rfl⟩ := List.mem_map.mp ht
    rw [hf]
    exact h.levels.2 k hk
  · obtain ⟨k, hk, rfl⟩ := List.mem_map.mp ht
    rw [hf]
    exact h.apart r hr k hk
  · rw [serviceAt_isSome_of_levels (a := a) hlevels]
    exact h.yielded.2 l hl

theorem replaceService (r : Request) : (a.replaceService r).wf := h.mapService (replaced_level r)

theorem setMask (levels : List Nat) (hl : levels.all (within 1 7) = true) : ({ a with mask := ascending8 levels } : ZoneArb).wf where
  pending := h.pending
  service := h.service
  levels := h.levels
  apart := h.apart
  yielded := h.yielded
  mask := ⟨ascending8_nodup _, fun l hm => by
    simpa [within] using List.all_eq_true.mp hl l (mem_ascending8.mp hm).2⟩
  arrival := h.arrival

theorem setYield {level : Nat} (on : Bool) (hs : (a.serviceAt level).isSome = true) : (a.setYield level on).wf where
  pending := h.pending
  service := h.service
  levels := h.levels
  apart := h.apart
  yielded := by
    cases on
    · exact ⟨h.yielded.1.filter _, fun l hl => h.yielded.2 l (List.mem_of_mem_filter hl)⟩
    · refine ⟨ascending8_nodup _, fun l hl => ?_⟩
      rcases List.mem_cons.mp (mem_ascending8.mp hl).2 with rfl | hl
      · exact hs
      · exact h.yielded.2 l hl
  mask := h.mask
  arrival := h.arrival

end ZoneArb.wf

theorem emptyArb_wf : ZoneArb.empty.wf where
  pending := .nil
  service := .nil
  levels := ⟨nofun, nofun⟩
  apart := nofun
  yielded := ⟨.nil, nofun⟩
  mask := ⟨.nil, nofun⟩
  arrival := ⟨Nat.le_refl 1, by decide⟩

end Sys2Proof.Machine
end

section
namespace Sys2Proof.Machine

set_option Elab.async false

/-! ## What a safe run keeps of the zones (R89, R90, R102, R111, R121) -/

/-- The CLOCK zones in force, and those that await application, have the CLOCK base and policy CUT at every level (R89,
R121). -/
def State.clockSpecs (s : State) : Prop :=
  (∀ z ∈ s.canvas.zones, z.spec.role = .clock → z.spec.base = .clock ∧ z.spec.policy = allCut) ∧
    ∀ specs ∈ s.canvas.awaitingLayout, ∀ n ∈ specs, n.role = .clock → n.base = .clock ∧ n.policy = allCut

/-- While the clock runs, no level but 0 is in service in a CLOCK zone (R111, R115). -/
def State.clockAlone (s : State) : Prop :=
  s.timing.run = .running → ∀ z ∈ s.canvas.zones, z.spec.role = .clock → ∀ k ∈ z.arb.service, k.level = 0

/-- From `s` to `t` the zones stay well formed, CLOCK zones keep their base and policy, and while the clock runs they show
nothing else. -/
structure ZonesHold (s t : State) : Prop where
  wf : s.zonesWf → t.zonesWf
  specs : s.zonesWf → s.clockSpecs → t.clockSpecs
  alone : s.zonesWf → s.clockSpecs → s.clockAlone → t.clockAlone

/-- What a safe update makes of one zone while the run state is `run`. -/
structure ZoneUpdate (run : RunState) (z y : Zone) : Prop where
  sameId : y.spec.id = z.spec.id
  role : y.spec.role = z.spec.role
  clock : z.spec.role = .clock → y.spec.base = z.spec.base ∧ y.spec.policy = z.spec.policy
  wf : z.arb.wf → y.arb.wf
  alone : run = .running → z.arb.wf → z.spec.role = .clock → z.spec.policy = allCut → (∀ k ∈ z.arb.service, k.level = 0) →
    ∀ k ∈ y.arb.service, k.level = 0

theorem ZoneUpdate.refl (run : RunState) (z : Zone) : ZoneUpdate run z z :=
  ⟨rfl, rfl, fun _ => ⟨rfl, rfl⟩, id, fun _ _ _ _ => id⟩

/-- An update of the arbitration state alone. -/
theorem ZoneUpdate.of_arb {run : RunState} {z : Zone} {b : ZoneArb} (hw : z.arb.wf → b.wf)
    (ha : run = .running → z.arb.wf → z.spec.policy = allCut → (∀ k ∈ z.arb.service, k.level = 0) →
      ∀ k ∈ b.service, k.level = 0) : ZoneUpdate run z { z with arb := b } :=
  ⟨rfl, rfl, fun _ => ⟨rfl, rfl⟩, hw, fun hr hz _ hp => ha hr hz hp⟩

/-- CUT at every level leaves no level 1..7 free (R115). -/
theorem policyAt_allCut {l : Nat} (h0 : l ≠ 0) (h7 : l ≤ 7) : policyAt allCut l = .cut := by
  obtain rfl | rfl | rfl | rfl | rfl | rfl | rfl : l = 1 ∨ l = 2 ∨ l = 3 ∨ l = 4 ∨ l = 5 ∨ l = 6 ∨ l = 7 := by omega
  all_goals rfl

/-- A grant while the clock runs is of level 0 where every other level has policy CUT (R108, R115). -/
theorem nextGrant_level_of_allCut {z : Zone} {r : PendingReq} (h : z.nextGrant .running = some r) (hz : z.arb.wf)
    (hp : z.spec.policy = allCut) : r.level = 0 := by
  have hg : z.grantable .running r.level = true := by simpa using List.find?_some h
  by_contra h0
  exact grantable_running_not_cut hg (hp ▸ policyAt_allCut h0 (hz.levels.1 r (List.mem_of_find?_eq_some h)))

theorem ZoneUpdate.grant {run : RunState} {z : Zone} {r : PendingReq} (h : z.nextGrant run = some r) (frame : Nat) :
    ZoneUpdate run z { z with arb := z.arb.grant r frame } := by
  refine .of_arb (fun hz => hz.grant (List.mem_of_find?_eq_some h) frame) fun hr hz hp hs k hk => ?_
  rcases insertService_mem hk with rfl | hk
  · exact nextGrant_level_of_allCut (hr ▸ h) hz hp
  · exact hs k hk

theorem ZoneUpdate.remove (run : RunState) (z : Zone) (level : Nat) : ZoneUpdate run z { z with arb := z.arb.remove level } :=
  .of_arb (fun hz => hz.remove level) fun _ _ _ hs k hk => hs k (List.mem_of_mem_filter hk)

/-- An update of the takeovers in service that keeps each one's level. -/
theorem ZoneUpdate.mapService (run : RunState) (z : Zone) {f : InService → InService} (hf : ∀ k, (f k).level = k.level) :
    ZoneUpdate run z { z with arb := { z.arb with service := z.arb.service.map f } } := by
  refine .of_arb (fun hz => hz.mapService hf) fun _ _ _ hs k hk => ?_
  obtain ⟨j, hj, rfl⟩ := List.mem_map.mp hk
  rw [hf]
  exact hs j hj

theorem ZoneUpdate.replaceService (run : RunState) (z : Zone) (r : Request) :
    ZoneUpdate run z { z with arb := z.arb.replaceService r } := .mapService run z (replaced_level r)

namespace ZonesHold

theorem refl (s : State) : ZonesHold s s := ⟨id, fun _ => id, fun _ _ => id⟩

theorem trans {s t u : State} (h : ZonesHold s t) (k : ZonesHold t u) : ZonesHold s u :=
  ⟨k.wf ∘ h.wf, fun hw hs => k.specs (h.wf hw) (h.specs hw hs), fun hw hs ha =>
    k.alone (h.wf hw) (h.specs hw hs) (h.alone hw hs ha)⟩

theorem ite {s t u : State} {c : Prop} [Decidable c] (ht : c → ZonesHold s t) (hu : ¬c → ZonesHold s u) :
    ZonesHold s (if c then t else u) := by
  split
  · next h => exact ht h
  · next h => exact hu h

theorem foldl {α : Type} (f : State → α → State) (hf : ∀ s a, ZonesHold s (f s a)) (l : List α) (s : State) :
    ZonesHold s (l.foldl f s) := by
  induction l generalizing s with
  | nil => exact refl s
  | cons a l ih => exact (hf s a).trans (ih _)

/-- An update of the zones one by one that does not start the clock. -/
theorem of_map {s t : State} (g : Zone → Zone) (hz : t.canvas.zones = s.canvas.zones.map g)
    (ha : t.canvas.awaitingLayout = s.canvas.awaitingLayout) (hr : t.timing.run = .running → s.timing.run = .running)
    (hg : s.zonesWf → ∀ z ∈ s.canvas.zones, ZoneUpdate s.timing.run z (g z)) : ZonesHold s t := by
  have from_zone {y : Zone} (hy : y ∈ t.canvas.zones) : ∃ z ∈ s.canvas.zones, g z = y := List.mem_map.mp (hz ▸ hy)
  refine ⟨fun hw => ⟨?_, fun y hy => ?_, fun y hy => ?_, ha ▸ hw.awaiting⟩, fun hw hs => ⟨fun y hy hc => ?_, ha ▸ hs.2⟩,
    fun hw hs hal hrun y hy hc => ?_⟩
  · rw [hz, List.map_map, show s.canvas.zones.map ((·.spec.id) ∘ g) = s.canvas.zones.map (·.spec.id) from
      List.map_congr_left fun z hz => (hg hw z hz).sameId]
    exact hw.ids
  · obtain ⟨z, hm, rfl⟩ := from_zone hy
    rw [(hg hw z hm).sameId]
    exact hw.small z hm
  · obtain ⟨z, hm, rfl⟩ := from_zone hy
    exact (hg hw z hm).wf (hw.arb z hm)
  · obtain ⟨z, hm, rfl⟩ := from_zone hy
    have hrole := (hg hw z hm).role.symm.trans hc
    obtain ⟨hb, hp⟩ := (hg hw z hm).clock hrole
    rw [hb, hp]
    exact hs.1 z hm hrole
  · obtain ⟨z, hm, rfl⟩ := from_zone hy
    have hrole := (hg hw z hm).role.symm.trans hc
    exact (hg hw z hm).alone (hr hrun) (hw.arb z hm) hrole (hs.1 z hm hrole).2 (hal (hr hrun) z hm hrole)

/-- An operation that leaves the zones and does not start the clock. -/
theorem of_zones {s t : State} (hz : t.canvas.zones = s.canvas.zones) (ha : t.canvas.awaitingLayout = s.canvas.awaitingLayout)
    (hr : t.timing.run = .running → s.timing.run = .running) : ZonesHold s t :=
  of_map id (by rw [hz, List.map_id]) ha hr fun _ _ _ => .refl _ _

theorem of_frame {P : List Part} {s t : State} (h : Frame P s t)
    (hP : (P.contains .zones || P.contains .canvas || P.contains .clock) = false := by decide) : ZonesHold s t := by
  simp only [Bool.or_eq_false_iff] at hP
  exact of_zones (h.zones hP.1.1) (h.same .canvas (by simpa using hP.1.2)).2.2.2.1
    fun hr => (congrArg Timing.run (h.bare hP.2) :).symm.trans hr

/-- An operation that leaves the canvas and does not start the clock. -/
theorem of_canvas {s t : State} (hc : t.canvas = s.canvas) (hr : t.timing.run = .running → s.timing.run = .running) :
    ZonesHold s t := of_zones (congrArg _ hc) (congrArg _ hc) hr

theorem mapTiming (s : State) (f : Timing → Timing) (hf : (f s.timing).run = .running → s.timing.run = .running) :
    ZonesHold s (s.mapTiming f) := of_canvas rfl hf

theorem mapZone (s : State) (id : Nat) (f : Zone → Zone)
    (hf : ∀ z, s.zone? id = some z → ZoneUpdate s.timing.run z (f z)) : ZonesHold s (s.mapZone id f) := by
  refine of_map (fun z => if z.spec.id = id then f z else z) rfl rfl (fun h => h) fun hw z hz => ?_
  split
  · next h => exact hf z (h ▸ zone_of_idsAscend hw.ids hz)
  · exact .refl _ z

theorem mapArb (s : State) (id : Nat) (f : ZoneArb → ZoneArb)
    (hf : ∀ z, s.zone? id = some z → ZoneUpdate s.timing.run z { z with arb := f z.arb }) : ZonesHold s (s.mapArb id f) :=
  mapZone s id _ hf

/-! ### Requests, ends and what follows them -/

theorem evaluate (s : State) (zone : Nat) : ZonesHold s (s.evaluate zone) := by
  unfold State.evaluate
  split
  · next r hr =>
    obtain ⟨z, hz, hg⟩ := Option.bind_eq_some_iff.mp hr
    refine trans (mapArb s zone _ fun y hy => ?_) (of_frame (noteGrant_frame _ _ _))
    cases hz.symm.trans hy
    exact .grant hg _
  · exact refl s

theorem evaluateAll (s : State) (zones : List Nat) : ZonesHold s (s.evaluateAll zones) := foldl _ evaluate zones s

theorem request (s : State) (zone : Nat) (r : Request) (b : Bool) (hl : r.level ≤ 7) : ZonesHold s (s.request zone r b).1 := by
  have recorded (z : Zone) (hz : s.zone? zone = some z) (hn : z.arb.serviceAt r.level = none) :
      ZonesHold s ((s.mapArb zone (ZoneArb.record r)).evaluate zone) := by
    refine (mapArb s zone _ fun y hy => ?_).trans (evaluate _ zone)
    cases hz.symm.trans hy
    exact .of_arb (fun hw => hw.record hl hn) fun _ _ _ hs => hs
  have replaced : ZonesHold s (s.mapArb zone (ZoneArb.replaceService r)) := mapArb s zone _ fun z _ => .replaceService _ z r
  unfold State.request
  split
  · exact refl s
  · next z hz =>
    split
    · split
      · exact replaced
      · exact refl s
    · next hs =>
      have hn : z.arb.serviceAt r.level = none := by simpa using hs
      split
      · split
        · exact recorded z hz hn
        · exact refl s
      · dsimp only
        split <;> exact recorded z hz hn

theorem requestAll (s : State) (r : Request) (b : Bool) (zones : List Nat) (hl : r.level ≤ 7) :
    ZonesHold s (s.requestAll r b zones).1 := by
  induction zones generalizing s with
  | nil => exact refl s
  | cons z zones ih =>
    rw [requestAll_cons]
    exact (request s z r b hl).trans (ih _)

theorem mapRotation (s : State) (f : Rotation → Rotation) : ZonesHold s (s.mapRotation f) := of_canvas rfl id

theorem mapCrawl (s : State) (f : Crawl → Crawl) : ZonesHold s (s.mapCrawl f) := of_canvas rfl id

theorem finishCard (s : State) (id : Nat) : ZonesHold s (s.finishCard id) := of_frame (finishCard_frame s id)

theorem startFeatures (fs : List Feature) (s : State) : ZonesHold s (s.startFeatures fs) := by
  induction fs generalizing s with
  | nil => exact mapRotation s _
  | cons f fs ih =>
    unfold State.startFeatures
    dsimp only
    exact (requestAll s _ _ _ (Nat.le_of_ble_eq_true rfl)).trans
      (.ite (fun _ => (mapRotation _ _).trans (ih _)) fun _ => mapRotation _ _)

theorem startCards (ids : List Nat) (s : State) : ZonesHold s (s.startCards ids) := by
  induction ids generalizing s with
  | nil => exact mapCrawl s _
  | cons id ids ih =>
    unfold State.startCards
    dsimp only
    exact (requestAll s _ _ _ (Nat.le_of_ble_eq_true rfl)).trans
      (.ite (fun _ => ((mapCrawl _ _).trans (finishCard _ _)).trans (ih _)) fun _ => mapCrawl _ _)

theorem featureFollow (s : State) : ZonesHold s s.featureFollow := by
  unfold State.featureFollow
  split
  · exact .ite (fun _ => startFeatures _ s) fun _ => refl s
  · exact refl s

theorem cardFollow (s : State) : ZonesHold s s.cardFollow := by
  unfold State.cardFollow
  split
  · exact .ite (fun _ => ((mapCrawl _ _).trans (finishCard _ _)).trans (startCards _ _)) fun _ => refl s
  · exact refl s

theorem followUps (s : State) : ZonesHold s s.followUps := (featureFollow s).trans (cardFollow _)

theorem tellOwner (s : State) (zone level : Nat) (o : Outcome) : ZonesHold s (s.tellOwner zone level o) := by
  unfold State.tellOwner
  split
  · exact mapTiming s _ id
  · exact of_canvas rfl id
  · exact of_frame (channelEnded_frame _ _ _ _)
  · exact of_frame (channelEnded_frame _ _ _ _)
  · exact mapRotation s _
  · exact mapCrawl s _
  · exact refl s

theorem endOne (s : State) (o : Outcome) (zone level : Nat) : ZonesHold s (s.endOne o zone level) := by
  unfold State.endOne
  split
  · exact ((mapArb s zone _ fun z _ => .remove _ z level).trans (of_frame (raise_frame _ _ _))).trans (tellOwner _ _ _ _)
  · exact refl s

theorem endEach (s : State) (o : Outcome) (items : List (Nat × Nat)) : ZonesHold s (s.endEach o items) :=
  foldl _ (fun s (i : Nat × Nat) => endOne s o i.1 i.2) items s

theorem endAll (s : State) (o : Outcome) (items : List (Nat × Nat)) : ZonesHold s (s.endAll o items) :=
  ((endEach s o items).trans (evaluateAll _ _)).trans (followUps _)

theorem release (s : State) (zone level : Nat) : ZonesHold s (s.release zone level) :=
  .ite (fun _ => endAll s _ _) fun _ => refl s

/-! ### Channels -/

theorem channelLevel_le (ch : Channel) : channelLevel ch ≤ 7 := by cases ch <;> decide

theorem roll (s : State) (ch : Channel) : ZonesHold s (s.roll ch).1 := by
  have hhead (u : State) : ZonesHold u (u.rollHead ch).1 := by
    unfold State.rollHead
    split
    · exact refl u
    · exact (of_frame (mapChan_frame u ch _)).trans (request _ _ _ _ (channelLevel_le ch))
  exact (of_frame (rollDrops_frame _ ch _)).trans (hhead _)

theorem releaseEntry (s : State) (ch : Channel) (o : CueOutcome) : ZonesHold s (s.releaseEntry ch o) := by
  unfold State.releaseEntry
  split
  · exact refl s
  · exact (release s _ _).trans (of_frame (endEntry_frame _ _ _))

theorem completeEntry (s : State) (ch : Channel) : ZonesHold s (s.completeEntry ch) := by
  unfold State.completeEntry
  split
  · exact refl s
  · next e rest _ =>
    have popped := (release s e.fields.zone (channelLevel ch)).trans (of_frame (popHead_frame _ ch))
    exact (popped.trans (.ite (fun _ => roll _ ch) fun _ => refl _)).trans (of_frame (raise_frame _ _ _))

/-! ### Features -/

theorem appendFeature (s : State) (a b c : Nat) (zs : List Nat) (brk : Bool) : ZonesHold s (s.appendFeature a b c zs brk) :=
  (mapRotation s _).trans (.ite (fun _ => startFeatures _ _) fun _ => refl _)

theorem featureBreakStart (s : State) (n : Nat) : ZonesHold s (s.featureBreakStart n) := by
  unfold State.featureBreakStart
  split
  · exact refl s
  · exact .ite (fun _ => mapRotation s _) fun _ => (appendFeature s _ _ _ _ _).trans (mapRotation _ _)

theorem featureBreakCancel (s : State) : ZonesHold s s.featureBreakCancel := by
  unfold State.featureBreakCancel
  split
  · exact refl s
  · refine trans ?_ (mapRotation _ _)
    split
    · exact .ite (fun _ => endAll s _ _) fun _ => mapRotation s _
    · exact refl s

end ZonesHold

end Sys2Proof.Machine
end

section
namespace Sys2Proof.Machine

set_option Elab.async false

/-! ## The timing unit, the record and the twin keep what zones hold (R31, R111, R112) -/

namespace ZonesHold

theorem checkRegulation (s : State) : ZonesHold s s.checkRegulation :=
  of_canvas (checkRegulation_canvas s) fun hr => by
    rw [checkRegulation_timing] at hr
    exact hr

/-- A run change handed on, whatever the clock was before it: at a start the arbiter ends all that its policy cuts (R111). -/
theorem handOn (s u : State) (hz : u.canvas = s.canvas) (cause : RunCause) (n : Nat) : ZonesHold s (u.handOn cause n) := by
  have hframe := handOn_frame u cause n
  have hrun : (u.handOn cause n).timing.run = u.timing.run := (congrArg Timing.run (hframe.bare) :)
  have hwalk {v : State} (hv : ZonesHold v (u.handOn cause n)) (hc : v.canvas = u.canvas) (hw : s.zonesWf) :
      (u.handOn cause n).zonesWf ∧ (s.clockSpecs → (u.handOn cause n).clockSpecs) := by
    have hs : ZonesHold s { v with timing := { v.timing with run := .stopped } } := of_canvas (hc.trans hz) nofun
    have hsame : ({ v with timing := { v.timing with run := .stopped } } : State).zonesWf → v.zonesWf := fun h =>
      ⟨h.ids, h.small, h.arb, h.awaiting⟩
    exact ⟨hv.wf (hsame (hs.wf hw)), fun hk => hv.specs (hsame (hs.wf hw)) (hs.specs hw hk)⟩
  have hkeeps (hw : s.zonesWf) : (u.handOn cause n).zonesWf ∧ (s.clockSpecs → (u.handOn cause n).clockSpecs) := by
    have hsession (v : State) (r : RunState) : ZonesHold v (v.sessionStart r) := of_frame (sessionStart_frame v r)
    unfold State.handOn at hwalk ⊢
    cases hr : u.timing.run with
    | running =>
      rw [hr] at hwalk
      refine hwalk (v := u.raise .runChanged (.runChanged .running cause u.timing.v n)) ?_ rfl hw
      exact ((((endEach _ _ _).trans (evaluateAll _ _)).trans (followUps _)).trans (hsession _ _)).trans
        (of_frame (sendClock_frame _ _))
    | stopped =>
      rw [hr] at hwalk
      refine hwalk (v := u.raise .runChanged (.runChanged .stopped cause u.timing.v n)) ?_ rfl hw
      exact ((evaluateAll _ _).trans (hsession _ _)).trans (of_frame (sendClock_frame _ _))
  refine ⟨fun hw => (hkeeps hw).1, fun hw => (hkeeps hw).2, fun hw hs _ hr z hz hc k hk => ?_⟩
  have hwf := (hkeeps hw).1
  by_contra h0
  have hcut : policyAt z.spec.policy k.level = .cut := by
    rw [((hkeeps hw).2 hs).1 z hz hc |>.2]
    exact policyAt_allCut h0 ((hwf.arb z hz).levels.2 k hk)
  have hn := handOn_running_noCut (hrun.symm.trans hr) cause n z.spec.id z (zone_of_idsAscend hwf.ids hz) k.level hcut
  simpa using List.find?_eq_none.mp hn k hk

/-! ### The countdown and the period end -/

theorem releaseLevelOne (s : State) (phase : Phase) : ZonesHold s (s.releaseLevelOne phase) :=
  (endAll s _ _).trans (mapTiming _ _ id)

theorem requestLevelOne (s : State) (asset : Nat) (frames : Option Nat) (phase : Phase) :
    ZonesHold s (s.requestLevelOne asset frames phase) := by
  unfold State.requestLevelOne
  exact (requestAll s _ _ _ (Nat.le_of_ble_eq_true rfl)).trans (mapTiming _ _ id)

theorem requestCountdown (s : State) : ZonesHold s s.requestCountdown := by
  unfold State.requestCountdown
  split
  · exact requestLevelOne s _ _ _
  · exact refl s

theorem sendCountdown (s : State) (asks : Bool) : ZonesHold s (s.sendCountdown asks) := by
  rcases sendCountdown_cases s asks with ⟨-, -, h⟩ | ⟨-, -, h⟩ | ⟨-, h⟩
  · rw [h]
    exact requestCountdown s
  · rw [h]
    exact (releaseLevelOne s _).trans (requestCountdown _)
  · rw [h]
    exact refl s

theorem checkCountdown (s : State) : ZonesHold s s.checkCountdown := sendCountdown s _

theorem releaseCountdown (s : State) : ZonesHold s s.releaseCountdown := .ite (fun _ => releaseLevelOne s _) fun _ => refl s

theorem renewCountdown (s : State) : ZonesHold s s.renewCountdown := mapTiming s _ id

theorem periodEnd (s : State) : ZonesHold s s.periodEnd := by
  have hswitch (a n : Nat) : ZonesHold s (s.switchPeriodEnd a n) :=
    (requestAll s _ _ _ (Nat.le_of_ble_eq_true rfl)).trans (mapTiming _ _ id)
  unfold State.periodEnd
  split
  · dsimp only
    split
    · exact hswitch _ _
    · exact hswitch _ _
    · exact .ite (fun _ => refl s) fun _ => requestLevelOne s _ _ _
    · exact .ite (fun _ => refl s) fun _ => requestLevelOne s _ _ _
  · exact .ite (fun _ => releaseLevelOne s _) fun _ => refl s

/-! ### Expiries, windows and the records of the clock -/

theorem expire (s : State) (asks : Bool) : ZonesHold s (s.expire asks) := by
  have handed := (handOn s (s.mapTiming fun t =>
    { t with v := clockLimit t.rules, run := .stopped, atLimit := true, expiryPending := false }) rfl .expiry 0).trans
      (sendCountdown _ asks)
  have raised (u : State) (c : ExpiryCause) : ZonesHold u (u.raiseExpired c) := of_frame (raiseExpired_frame u c)
  exact handed.trans (.ite (fun _ => raised _ _)
    fun _ => ((raised _ _).trans (of_frame (hornSounds_frame _ _))).trans (periodEnd _))

theorem playExpire (s : State) (b : Bool) : ZonesHold s (s.playExpire b) := by
  have h := (mapTiming s (fun t => { t with play := 0, playPending := false }) id).trans
    (of_frame (raise_frame _ .playExpired (.playExpired b s.timing.v)))
  unfold State.playExpire
  exact (h.trans (.ite (fun _ => of_frame (hornSounds_frame _ _)) fun _ => refl _)).trans (of_frame (sendClock_frame _ _))

theorem breakExpire (s : State) : ZonesHold s s.breakExpire := by
  have h := (mapTiming s (fun t => { t with brkRunning := false, brkValue := 0 }) id).trans
    (of_frame (raise_frame _ .breakExpired (.breakExpired (s.timing.brkLength / 1000) s.timing.brkHorn)))
  exact ((h.trans (.ite (fun _ => of_frame (hornSounds_frame _ _)) fun _ => refl _)).trans
    (of_frame (featureBreakExpiry_frame _))).trans (of_frame (sendClock_frame _ _))

theorem confirmStart (s : State) : ZonesHold s s.confirmStart := by
  have started := (handOn s (s.mapTiming Timing.lineStart) rfl .line s.timing.window).trans (checkRegulation _)
  exact .ite (fun _ => (mapTiming s _ id).trans (of_frame (sendClock_frame _ _))) fun _ =>
    (started.trans (.ite (fun _ => expire _ _) fun _ => checkCountdown _)).trans
      (.ite (fun _ => playExpire _ _) fun _ => refl _)

theorem confirmStop (s : State) (asks : Bool) : ZonesHold s (s.confirmStop asks) :=
  ((handOn s (s.mapTiming Timing.lineStop) rfl .line s.timing.counted).trans (sendCountdown _ asks)).trans
    (releaseCountdown _)

theorem rejectStop (s : State) : ZonesHold s s.rejectStop := by
  have h := mapTiming s (fun t => { t.gateSteady with expiryPending := false, playPending := false }) id
  exact (h.trans (.ite (fun _ => expire _ _) fun _ => of_frame (sendClock_frame _ _))).trans
    (.ite (fun _ => playExpire _ _) fun _ => refl _)

theorem closeWindow (s : State) : ZonesHold s s.closeWindow := by
  unfold State.closeWindow
  split
  · exact refl s
  · exact (mapTiming s Timing.gateSteady id).trans (of_frame (sendClock_frame _ _))
  · exact rejectStop s

theorem sampleLine (s : State) : ZonesHold s s.sampleLine := .ite (fun _ => refl s) fun _ => mapTiming s _ id

theorem openWindow (s : State) (gate : Gate) : ZonesHold s (s.openWindow gate) := by
  refine (mapTiming s (fun t => { t.gateSteady with gate := gate }) id).trans
    (.ite (fun _ => ?_) fun _ => of_frame (sendClock_frame _ _))
  split
  · exact confirmStart _
  · exact confirmStop _ _
  · exact refl _

theorem lineEdge (s : State) (level : GateLevel) : ZonesHold s (s.lineEdge level) := by
  have settles (l : GateLevel) : ZonesHold s (s.mapTiming fun t => { t with settled := l }) := mapTiming s _ id
  unfold State.lineEdge
  dsimp only
  split
  · refine .ite (fun _ => refl s) fun _ => ?_
    split
    · exact .ite (fun _ => settles _) fun _ => openWindow s _
    · exact settles _
    · exact openWindow s _
    · exact settles _
  · exact .ite (fun _ => closeWindow s) fun _ => refl s
  · exact .ite (fun _ => closeWindow s) fun _ => refl s

theorem runLineTo (s : State) (level : LineLevel) : ZonesHold s (s.runLineTo level) :=
  .ite (fun _ => refl s) fun _ => .ite (fun _ => mapTiming s _ id) fun _ => (mapTiming s _ id).trans (lineEdge _ _)

theorem linkStart (s : State) : ZonesHold s s.linkStart :=
  ((handOn s (s.mapTiming fun t => { t with run := .running }) rfl .link 0).trans (checkRegulation _)).trans
    (checkCountdown _)

theorem linkStop (s : State) : ZonesHold s s.linkStop :=
  handOn s (s.mapTiming fun t => { t with run := .stopped }) rfl .link 0

theorem regulationAfter_run (t : Timing) : t.regulationAfter.run = t.run := by
  unfold Timing.regulationAfter
  split
  · rfl
  · split <;> rfl

theorem setClock (s : State) (v : Nat) : ZonesHold s (s.setClock v) := by
  have h := mapTiming s (fun t => { t with v := v, atLimit := decide (v = clockLimit t.rules) }.regulationAfter)
    fun hr => (regulationAfter_run { s.timing with v := v, atLimit := decide (v = clockLimit s.timing.rules) }).symm.trans hr
  exact ((h.trans (releaseCountdown _)).trans (renewCountdown _)).trans (of_frame (sendClock_frame _ _))

theorem adjust_run (delta : Int) (t : Timing) : (t.adjust delta).run = t.run := by
  have hr := regulationAfter_run { t with v := t.adjusted delta }
  unfold Timing.adjust
  dsimp only
  split
  · split <;> exact hr
  · exact hr

theorem adjustClock (s : State) (delta : Int) : ZonesHold s (s.adjustClock delta) := by
  have h := mapTiming s (Timing.adjust delta) fun hr => (adjust_run delta _).symm.trans hr
  exact ((((h.trans (releaseCountdown _)).trans (renewCountdown _)).trans (checkRegulation _)).trans
    (.ite (fun _ => expire _ _) fun _ => checkCountdown _)).trans (of_frame (sendClock_frame _ _))

theorem resetClocks (s : State) : ZonesHold s s.resetClocks := (mapTiming s _ id).trans (releaseLevelOne _ _)

theorem countClock_run (c : Nat) (own : Bool) (t : Timing) : (t.countClock c own).run = t.run := by
  unfold Timing.countClock
  split <;> rfl

theorem countPlay_run (c : Nat) (own blanked runs : Bool) (t : Timing) : (t.countPlay c own blanked runs).run = t.run := by
  unfold Timing.countPlay
  split <;> rfl

theorem step_run (own : Bool) (t : Timing) : (t.step own).run = t.run :=
  (countPlay_run _ _ _ _ _).trans (countClock_run _ _ t)

theorem timeStep (s : State) : ZonesHold s s.timeStep := by
  have h : ZonesHold s { s with
      timing := s.timing.step (s.twin.state != .follower), twin := s.twin.step (trimStep s.timing.trim s.timing.trimAcc).1 } :=
    of_canvas rfl fun hr => (step_run _ _).symm.trans hr
  have due (u : State) (d : List DueEvent) : ZonesHold u { u with due := d } := of_canvas rfl id
  exact ((h.trans (checkRegulation _)).trans (.ite (fun _ => refl _) fun _ => checkCountdown _)).trans (due _ _)

/-! ### The game record -/

theorem mapGame (s : State) (f : RecordFields → RecordFields) : ZonesHold s (s.mapGame f) := of_canvas rfl id

theorem addScore (s : State) (team : Team) (points seq : Nat) : ZonesHold s (s.addScore team points seq) := by
  have hrequest (u : State) : ZonesHold u (u.requestScoreEvent team) := by
    unfold State.requestScoreEvent
    dsimp only
    split
    · exact refl u
    · exact (requestAll u _ _ _ (Nat.le_of_ble_eq_true rfl)).trans (of_canvas rfl id)
  exact (((mapGame s _).trans (of_frame (raise_frame _ _ _))).trans (.ite (fun _ => hrequest _) fun _ => refl _)).trans
    (of_frame (sendEvent_frame _ _ _))

theorem finalGame (s : State) (cause : SessionCause) : ZonesHold s (s.finalGame cause) := by
  have h := ((mapGame s fun g => { g with session := .final }).trans
    (of_frame (raiseSession_frame _ s.record.game.session cause))).trans (of_frame (handChange_frame _ .gameFinal))
  exact .ite (fun _ => h) fun _ => h.trans (closeWindow _)

theorem openGame (s : State) (cause : SessionCause) : ZonesHold s (s.openGame cause) := by
  have cleared (u : State) : ZonesHold u (u.clearExposure.mapGame fun g => { g with session := .setup }) := of_canvas rfl id
  unfold State.openGame
  exact (((((((mapGame s newGameRecord).trans (resetClocks _)).trans (endAll _ _ _)).trans (cleared _)).trans
    (of_frame (raiseSession_frame _ s.record.game.session cause))).trans (.ite (fun _ => sampleLine _) fun _ => refl _)).trans
    (of_frame (handChange_frame _ .gameOpen))).trans
    (of_frame (sendClock_frame _ _))

theorem advancePeriod (s : State) (cause : SessionCause) : ZonesHold s (s.advancePeriod cause) :=
  (((((mapGame s _).trans (resetClocks _)).trans (mapGame _ _)).trans (of_frame (raiseSession_frame _ _ _))).trans
    (of_frame (handChange_frame _ _))).trans (of_frame (sendClock_frame _ _))

/-! ### The twin -/

theorem enterTwin (s : State) (new : TwinState) (cause : TwinCause) (reason : FaultReason) :
    ZonesHold s (s.enterTwin new cause reason) :=
  (of_canvas rfl id : ZonesHold s (s.mapTwin (Twin.enter new reason))).trans (.ite (fun _ => refl _) fun _ =>
    (of_frame (raise_frame _ _ _)).trans (.ite (fun _ => (closeWindow _).trans (sampleLine _)) fun _ => refl _))

theorem mapTwin (s : State) (f : Twin → Twin) : ZonesHold s (s.mapTwin f) := of_canvas rfl id

theorem sendTwin (s : State) (r : TwinRecord) : ZonesHold s (s.sendTwin r) := of_canvas rfl id

theorem applyDecision (s : State) (d : Decision) : ZonesHold s (s.applyDecision d) := by
  cases d with
  | master => exact (((mapTwin s _).trans (enterTwin _ _ _ _)).trans (sendTwin _ _)).trans (sendTwin _ _)
  | follower => exact mapTwin s fun t => { t with decidedFollower := true }
  | fault r => exact enterTwin s _ _ _

theorem resolveAfresh (s : State) (h : Hello) : ZonesHold s (s.resolveAfresh h) :=
  ((enterTwin s _ _ _).trans (sendTwin _ _)).trans (applyDecision _ _)

theorem takeHello (s : State) (h : Hello) : ZonesHold s (s.takeHello h) := by
  refine (mapTwin s fun t => { t.heard with peer := some h }).trans ?_
  unfold State.takeHello
  dsimp only
  split
  · exact resolveAfresh _ h
  · exact resolveAfresh _ h
  · exact applyDecision _ _
  · split
    · exact (sendTwin _ _).trans (sendTwin _ _)
    · exact (enterTwin _ _ _ _).trans (applyDecision _ _)
  · exact .ite (fun _ => refl _) fun _ => resolveAfresh _ h
  · exact .ite (fun _ => refl _) fun _ => resolveAfresh _ h

theorem conflict (s : State) : ZonesHold s s.conflict := (enterTwin s _ _ _).trans (sendTwin _ _)

theorem adoptBreak (s : State) (before : Bool) : ZonesHold s (s.adoptBreak before) := by
  unfold State.adoptBreak
  split
  · exact featureBreakStart s _
  · exact featureBreakCancel s
  · exact refl s

theorem adoptValues (s : State) (r : StateRecord) : ZonesHold s (s.adoptValues r) := by
  let u : State := { s with
    timing := s.timing.adopt r.rules (compensated r.rules s.twin.compensation r.clock)
    record := { s.record with game := r.game }
    twin := { s.twin with eventNo := r.eventNo, resync := false } }
  have h : ZonesHold s (if (compensated r.rules s.twin.compensation r.clock).run = s.timing.run then u
      else u.handOn .mirror 0) := by
    refine .ite (fun he => of_canvas rfl fun hr => ?_) fun _ => handOn s u rfl _ _
    exact he.symm.trans ((adopt_run _ _ _).symm.trans hr)
  exact (((h.trans (adoptBreak _ _)).trans (releaseLevelOne _ _)).trans (checkCountdown _)).trans
    (of_frame (raiseSession_frame _ _ _))

theorem takeState (s : State) (r : StateRecord) : ZonesHold s (s.takeState r) := by
  unfold State.takeState
  split
  · exact sendTwin s _
  · exact sendTwin s _
  · exact .ite (fun _ => (((closeWindow s).trans (mapTwin _ _)).trans (enterTwin _ _ _ _)).trans (adoptValues _ r))
      fun _ => refl s
  · exact conflict s
  · exact adoptValues s r
  · exact refl s

theorem mirrorRunChange (s : State) (c : ClockFields) : ZonesHold s (s.mirrorRunChange c) := by
  unfold State.mirrorRunChange
  split
  · exact ((handOn s (s.mapTiming (Timing.mirrorRun .running)) rfl .mirror 0).trans (checkRegulation _)).trans
      (checkCountdown _)
  · exact .ite (fun _ => expire s _) fun _ => handOn s (s.mapTiming (Timing.mirrorRun .stopped)) rfl .mirror 0
  · exact refl s

theorem mirrorBreakChange (s : State) (cause : ClockCause) (c : ClockFields) : ZonesHold s (s.mirrorBreakChange cause c) := by
  unfold State.mirrorBreakChange
  split
  · exact .ite (fun _ => (mapTiming s _ id).trans (featureBreakStart _ _)) fun _ => refl s
  · exact .ite (fun _ => (mapTiming s _ id).trans (featureBreakCancel _)) fun _ => refl s
  · exact .ite (fun _ => breakExpire s) fun _ => refl s
  · exact .ite (fun _ => refl s) fun _ => mapTiming s _ id

theorem mirrorCountdown (s : State) (cause : ClockCause) : ZonesHold s (s.mirrorCountdown cause) :=
  (trans (.ite (fun _ => releaseCountdown s) fun _ => refl s) (.ite (fun _ => renewCountdown _) fun _ => refl _)).trans
    (checkCountdown _)

theorem mirror_run (g : Gate) (c : ClockFields) (keep : Timing → Bool) (b : Bool) (t : Timing) :
    let u := if b then t.mirrorGate g else (t.mirrorGate g).mirrorClock c
    (if keep u then u else u.mirrorPlay c).run = t.run := by
  have play (u : Timing) : (if keep u then u else u.mirrorPlay c).run = u.run := by split <;> rfl
  cases b <;> exact play _

theorem applyClock (s : State) (r : ClockRecord) : ZonesHold s (s.applyClock r) := by
  have h (b : Bool) (c : ClockFields) := mapTiming s (fun t =>
    let u := if b then t.mirrorGate c.gate else (t.mirrorGate c.gate).mirrorClock c
    if u.keepsPlay r.cause then u else u.mirrorPlay c) fun hr => (mirror_run c.gate c _ b _).symm.trans hr
  exact (((h _ _).trans (.ite (fun _ => refl _) fun _ => mirrorRunChange _ _)).trans (mirrorBreakChange _ _ _)).trans
    (mirrorCountdown _ _)

theorem takeClock (s : State) (r : ClockRecord) : ZonesHold s (s.takeClock r) := by
  unfold State.takeClock
  split
  · exact sendTwin s _
  · exact sendTwin s _
  · exact refl s
  · exact conflict s
  · exact applyClock s r
  · exact refl s

theorem applyChange (s : State) (c : Change) (n : Nat) : ZonesHold s (s.applyChange c n) := by
  cases c with
  | scoreAdd team points => exact addScore s _ _ _
  | scoreRevise seq =>
    unfold State.applyChange
    dsimp only
    split
    · exact of_frame (reviseScore_frame s _ _)
    · exact mapGame s _
  | gameOpen => exact (openGame s _).trans (mapGame _ fun g => { g with nextSeq := n })
  | gameFinal => exact (finalGame s _).trans (mapGame _ fun g => { g with nextSeq := n })
  | nextPeriod => exact (advancePeriod s _).trans (mapGame _ fun g => { g with nextSeq := n })
  | teamSet team f => exact (of_frame (applyTeam_frame s team f)).trans (mapGame _ fun g => { g with nextSeq := n })
  | fieldDefine defs => exact (of_frame (applyDefs_frame s defs)).trans (mapGame _ fun g => { g with nextSeq := n })
  | fieldSet i v => exact (of_frame (applyField_frame s i v)).trans (mapGame _ fun g => { g with nextSeq := n })
  | recordConfig config => exact (of_frame (applyConfig_frame s config)).trans (mapGame _ fun g => { g with nextSeq := n })

theorem takeEvent (s : State) (r : EventRecord) : ZonesHold s (s.takeEvent r) := by
  unfold State.takeEvent
  split
  · exact sendTwin s _
  · exact sendTwin s _
  · exact refl s
  · exact conflict s
  · exact .ite (fun _ => refl s) fun _ => .ite (fun _ => (applyChange s _ _).trans (mapTwin _ _))
      fun _ => (mapTwin s _).trans (sendTwin _ _)
  · exact refl s

theorem takeHeartbeat (s : State) (b : Bool) : ZonesHold s (s.takeHeartbeat b) := by
  unfold State.takeHeartbeat
  split
  · exact sendTwin s _
  · exact sendTwin s _
  · exact refl s
  · exact .ite (fun _ => sendTwin s _) fun _ => refl s
  · exact conflict s
  · exact refl s

theorem hearTwin (s : State) {f : State → State} (hf : ∀ s, ZonesHold s (f s)) : ZonesHold s (s.hearTwin f) :=
  .ite (fun _ => refl s) fun _ => (mapTwin s _).trans (hf _)

theorem takePart (s : State) (part parts : Nat) (r : StateRecord) : ZonesHold s (s.takePart part parts r) :=
  (mapTwin s _).trans (.ite (fun _ => takeState _ r) fun _ => refl _)

theorem configureTwin (s : State) (role : TwinRole) (token comp : Nat) : ZonesHold s (s.configureTwin role token comp) := by
  have reconfigured (u : State) (old : TwinRole) : ZonesHold u (u.reconfigure old) := by
    refine .ite (fun _ => .ite (fun _ => refl u) fun _ => (enterTwin u _ _ _).trans (mapTwin _ _)) fun _ =>
      .ite (fun _ => (enterTwin u _ _ _).trans (sendTwin _ _)) fun _ => ?_
    split
    · exact sendTwin u _
    · exact sendTwin u _
    · exact (enterTwin u _ _ _).trans (sendTwin _ _)
  exact (mapTwin s _).trans (.ite (fun _ => refl _) fun _ => reconfigured _ _)

end ZonesHold

end Sys2Proof.Machine
end

section
namespace Sys2Proof.Machine

set_option Elab.async false

/-! ## The layout a LAYOUT leaves awaiting (R89) -/

theorem insertZone_perm (z : ZoneSpec) (l : List ZoneSpec) : (insertZone z l).Perm (z :: l) := by
  induction l with
  | nil => exact .refl _
  | cons y rest ih =>
    unfold insertZone
    split
    · exact .refl _
    · exact (ih.cons y).trans (.swap z y rest)

/-- The list of a LAYOUT holds its zones, each as R89 takes it. -/
theorem normalLayout_perm (zones : List ZoneSpec) : (normalLayout zones).Perm (zones.map normalZone) := by
  induction zones with
  | nil => exact .refl _
  | cons z zones ih => exact (insertZone_perm _ _).trans (ih.cons _)

theorem insertZone_ascends {z : ZoneSpec} {l : List ZoneSpec} (h : (l.map (·.id)).Pairwise (· < ·)) (hn : z.id ∉ l.map (·.id)) :
    ((insertZone z l).map (·.id)).Pairwise (· < ·) := by
  induction l with
  | nil => simp [insertZone]
  | cons y rest ih =>
    rw [List.map_cons, List.mem_cons, not_or] at hn
    obtain ⟨hy, hrest⟩ := List.pairwise_cons.mp h
    unfold insertZone
    split
    · next hle =>
      have hlt : z.id < y.id := by omega
      refine List.pairwise_cons.mpr ⟨fun i hi => ?_, h⟩
      rcases List.mem_cons.mp hi with rfl | hi
      · exact hlt
      · exact Nat.lt_trans hlt (hy i hi)
    · refine List.pairwise_cons.mpr ⟨fun i hi => ?_, ih hrest hn.2⟩
      have hperm := (insertZone_perm z rest).map (·.id)
      rcases List.mem_cons.mp (hperm.mem_iff.mp hi) with rfl | hi
      · show y.id < z.id
        omega
      · exact hy i hi

/-- The list of a LAYOUT stands in ascending id where no id is given twice. -/
theorem normalLayout_ascends {zones : List ZoneSpec} (h : (zones.map (·.id)).Nodup) :
    ((normalLayout zones).map (·.id)).Pairwise (· < ·) := by
  induction zones with
  | nil => exact .nil
  | cons z zones ih =>
    obtain ⟨hz, hrest⟩ := List.nodup_cons.mp h
    refine insertZone_ascends (ih hrest) fun hm => hz ?_
    have hids : zones.map ((·.id) ∘ normalZone) = zones.map (·.id) := List.map_congr_left fun _ _ => rfl
    rw [← hids, ← List.map_map]
    exact ((normalLayout_perm zones).map (·.id)).mem_iff.mp hm

/-- Where an owner's tests are all passed, its acceptance is what happens (R7). -/
theorem tests_keeps_of {I : State → State → Prop} {s : State} {checks : List (Bool × Status)} {accept : State → Answered}
    (hr : I s s) (h : (∀ c ∈ checks, c.1 = false) → I s (accept s).1) : I s (s.tests checks accept).1 := by
  unfold State.tests
  split
  · exact hr
  · next hn => exact h fun c hc => by simpa using List.find?_eq_none.mp hn c hc

/-! ## The new zones in the place of the old (R90) -/

theorem placeZones_canvas (specs : List ZoneSpec) (s : State) :
    (s.placeZones specs).canvas.zones = specs.map (matchZone s.canvas.zones) ∧
    (s.placeZones specs).canvas.awaitingLayout = s.canvas.awaitingLayout ∧
    (s.placeZones specs).timing = s.timing := by
  unfold State.placeZones
  dsimp only
  have h (u : State) (b : List Nat) := activityChanged_frame u b
  refine ⟨((h _ _).zones).trans ?_, ((h _ _).same .canvas (by decide)).2.2.2.1.trans ?_, (h _ _).timing.trans ?_⟩ <;>
    split <;> rfl

theorem matchZone_spec (old : List Zone) (n : ZoneSpec) : (matchZone old n).spec = n := by
  unfold matchZone
  split <;> rfl

/-- A zone of the new layout has the arbitration state of the old zone of its id and role, or an empty one (R90). -/
theorem matchZone_arb (old : List Zone) (n : ZoneSpec) :
    (∃ z ∈ old, z.spec.id = n.id ∧ z.spec.role = n.role ∧ (matchZone old n).arb = z.arb) ∨ (matchZone old n).arb = .empty := by
  unfold matchZone
  split
  · next z hz =>
    have hk := List.find?_some hz
    simp only [Bool.and_eq_true, beq_iff_eq] at hk
    exact .inl ⟨z, List.mem_of_find?_eq_some hz, hk.1, hk.2, rfl⟩
  · exact .inr rfl

/-- The state with an awaiting CANVAS_CONFIG applied (R85). -/
def State.resized (s : State) : State :=
  match s.canvas.awaitingConfig with
  | some size => s.mapCanvas fun c => { c with size := size, awaitingConfig := none }
  | none => s

theorem resized_canvas (s : State) : s.resized.canvas.zones = s.canvas.zones ∧
    s.resized.canvas.awaitingLayout = s.canvas.awaitingLayout := by
  unfold State.resized
  split <;> exact ⟨rfl, rfl⟩

theorem resized_timing (s : State) : s.resized.timing = s.timing := by
  unfold State.resized
  split <;> rfl

theorem applyAwaiting_eq (s : State) : s.applyAwaiting =
    match s.canvas.awaitingLayout with
    | some specs => (s.resized.mapCanvas fun c => { c with awaitingLayout := none }).applyLayout specs
    | none => s.resized := by
  rw [← (resized_canvas s).2]
  rfl

namespace ZonesHold

theorem placeZones {s u : State} (h : ZonesHold s u) {specs : List ZoneSpec} (hs : s.canvas.awaitingLayout = some specs)
    (hu : u.canvas.awaitingLayout = none) : ZonesHold s (u.placeZones specs) := by
  obtain ⟨hz, ha, ht⟩ := placeZones_canvas specs u
  have from_spec {y : Zone} (hy : y ∈ (u.placeZones specs).canvas.zones) : ∃ n ∈ specs, matchZone u.canvas.zones n = y :=
    List.mem_map.mp (hz ▸ hy)
  have hids : (u.placeZones specs).canvas.zones.map (·.spec.id) = specs.map (·.id) := by
    rw [hz, List.map_map]
    exact List.map_congr_left fun n _ => congrArg ZoneSpec.id (matchZone_spec _ n)
  have hnone {l : List ZoneSpec} : l ∉ (u.placeZones specs).canvas.awaitingLayout := by simp [ha, hu]
  refine ⟨fun hw => ⟨?_, fun y hy => ?_, fun y hy => ?_, fun l hl => absurd hl hnone⟩,
    fun hw hc => ⟨fun y hy hrole => ?_, fun l hl => absurd hl hnone⟩, fun hw hc hal hrun y hy hrole => ?_⟩
  · rw [hids]
    exact (hw.awaiting specs hs).1
  · obtain ⟨n, hn, rfl⟩ := from_spec hy
    rw [matchZone_spec]
    exact (hw.awaiting specs hs).2 n hn
  · obtain ⟨n, -, rfl⟩ := from_spec hy
    rcases matchZone_arb u.canvas.zones n with ⟨z, hm, -, -, he⟩ | he
    · exact he ▸ (h.wf hw).arb z hm
    · exact he ▸ emptyArb_wf
  · obtain ⟨n, hn, rfl⟩ := from_spec hy
    rw [matchZone_spec] at hrole ⊢
    exact hc.2 specs hs n hn hrole
  · obtain ⟨n, -, rfl⟩ := from_spec hy
    rw [matchZone_spec] at hrole
    rcases matchZone_arb u.canvas.zones n with ⟨z, hm, -, hzrole, he⟩ | he
    · rw [he]
      exact h.alone hw hc hal (ht ▸ hrun) z hm (hzrole.trans hrole)
    · rw [he]
      nofun

/-- The owners act on a layout by requests and releases (R46, R64, R160). -/
theorem layoutOwners (s : State) (old : List Zone) (specs : List ZoneSpec) : ZonesHold s (s.layoutOwners old specs) := by
  have countdown (u : State) (won gone : List Nat) : ZonesHold u (u.layoutCountdown won gone) := by
    unfold State.layoutCountdown
    dsimp only
    refine trans ?_ (foldl _ (fun s z => release s z 1) _ _)
    split
    · exact (requestAll u _ _ _ (Nat.le_of_ble_eq_true rfl)).trans (mapTiming _ _ id)
    · exact refl u
  have score (u : State) (gone : List Nat) : ZonesHold u (u.layoutScore gone) := foldl _ (fun s z => release s z 2) _ u
  have replay (u : State) (ch : Channel) (gone : List Nat) : ZonesHold u (u.layoutReplay ch gone) :=
    .ite (fun _ => releaseEntry u _ _) fun _ => refl u
  exact ((((countdown s _ _).trans (score _ _)).trans (replay _ _ _)).trans (replay _ _ _)).trans (followUps _)

theorem applyAwaiting (s : State) : ZonesHold s s.applyAwaiting := by
  rw [applyAwaiting_eq]
  have hu : ZonesHold s s.resized := of_zones (resized_canvas s).1 (resized_canvas s).2 (resized_timing s ▸ id)
  split
  · next specs hs =>
    have cleared : ZonesHold s (s.resized.mapCanvas fun c => { c with awaitingLayout := none }) :=
      ⟨fun hw => ⟨(hu.wf hw).ids, (hu.wf hw).small, (hu.wf hw).arb, nofun⟩, fun hw hc => ⟨(hu.specs hw hc).1, nofun⟩,
        fun hw hc ha => hu.alone hw hc ha⟩
    have ended (items : List (Nat × Nat)) := cleared.trans (endEach _ .zoneRemoved items)
    have hnone (items : List (Nat × Nat)) := ((endEach_frame (s.resized.mapCanvas fun c => { c with awaitingLayout := none })
      .zoneRemoved items).same .canvas (by decide)).2.2.2.1
    exact (((ended _).placeZones hs (hnone _)).trans (evaluateAll _ _)).trans (layoutOwners _ _ _)
  · exact hu

/-! ### The frame event -/

theorem addDueIf (s : State) (c : Bool) (e : DueEvent) : ZonesHold s (s.addDueIf c e) := of_canvas (by simp) (by simp)

theorem testOverrun (s : State) (ch : Channel) : ZonesHold s (s.testOverrun ch) :=
  .ite (fun _ => releaseEntry s _ _) fun _ => refl s

theorem frameBoundary (s : State) : ZonesHold s s.frameBoundary := by
  have holds (u : State) : ZonesHold u u.countHolds :=
    (of_zones rfl rfl id : ZonesHold u (u.mapCanvas fun c => { c with inputs := c.inputs.map Input.countHold })).trans
      (foldl _ (fun s n => addDueIf s _ (.holdEnd n)) _ _)
  exact (((of_zones rfl rfl id : ZonesHold s (s.mapCanvas fun c => { c with frame := c.frame + 1 })).trans (holds _)).trans
    (testOverrun _ .a)).trans (testOverrun _ .b)

theorem countPrograms (s : State) : ZonesHold s s.countPrograms := by
  refine foldl _ (fun u p => ?_) _ s
  unfold State.countProgram
  split
  · split
    · exact (mapRotation u _).trans (addDueIf _ _ _)
    · exact refl u
  · exact refl u

theorem countTakeovers (s : State) : ZonesHold s s.countTakeovers := by
  refine of_map (fun z => match s.shownTop z.spec.id with
    | some top => z.count s.canvas.frame top
    | none => z) rfl rfl id fun _ z _ => ?_
  split
  · next top _ =>
    have hlevel (k : InService) : (k.count s.canvas.frame top).level = k.level := by
      unfold InService.count
      split <;> rfl
    have h := ZoneUpdate.mapService s.timing.run z hlevel
    exact ⟨h.sameId, h.role, h.clock, h.wf, h.alone⟩
  · exact .refl _ z

theorem stepChannel (s : State) (ch : Channel) : ZonesHold s (s.stepChannel ch) := by
  have mapped (u : State) (f : Chan → Chan) : ZonesHold u (u.mapChan ch f) := of_frame (mapChan_frame u ch f)
  have synced (u : State) : ZonesHold u u.syncReaders := of_frame (syncReaders_frame u)
  have bounded (u : State) (f : CueFields) (clip : Clip) : ZonesHold u (u.testPass ch f clip) :=
    .ite (fun _ => (mapped u _).trans (.ite (fun _ => (mapped _ _).trans (synced _)) fun _ => completeEntry _ ch))
      fun _ => synced u
  have advanced (u : State) : ZonesHold u (u.advance ch) := by
    unfold State.advance
    split
    · split
      · exact (mapped u _).trans (bounded _ _ _)
      · exact refl u
    · exact refl u
  unfold State.stepChannel
  split
  · exact .ite (fun _ => .ite (fun _ => advanced s) fun _ => mapped s _) fun _ => refl s
  · exact refl s

theorem frameEvent (s : State) : ZonesHold s s.frameEvent := by
  have composed (u : State) : ZonesHold u u.compose := of_zones rfl rfl id
  have counted (u : State) : ZonesHold u u.reportMissing.recordShown.creditFrame :=
    ((of_frame (reportMissing_frame u)).trans (of_frame (recordShown_frame _))).trans (of_frame (creditFrame_frame _))
  have worked (u : State) (kept : Option Nat) : ZonesHold u (u.frameWork kept) :=
    (((((counted u).trans (countPrograms _)).trans (of_frame (stepCrawl_frame _ kept))).trans (countTakeovers _)).trans
      (stepChannel _ .a)).trans (stepChannel _ .b)
  unfold State.frameEvent State.frameAfter
  exact (((applyAwaiting s).trans (frameBoundary _)).trans (composed _)).trans (worked _ _)

/-! ### RESTART and messages -/

theorem restart (s : State) : ZonesHold s s.restart := by
  have arbiter (u : State) : ZonesHold u u.arbiterRestart := ((endEach u _ _).trans (evaluateAll _ _)).trans (followUps _)
  have features (u : State) : ZonesHold u u.emptyFeatures := (mapRotation u _).trans (endAll _ _ _)
  have linked : ZonesHold s (s.mapLink .production LinkState.restart) := of_canvas rfl id
  have programs (u : State) : ZonesHold u ([0, 1, 2, 3].foldl (fun u p => u.restartProgram p) u) :=
    foldl _ (fun u p => of_frame (restartProgram_frame u p)) _ u
  have channels := ((linked.trans (arbiter _)).trans (of_frame (emptyChannel_frame _ .a))).trans
    (of_frame (emptyChannel_frame _ .b))
  exact ((channels.trans (programs _)).trans (features _)).trans (of_frame (clearStrip_frame _))

theorem approveMessage (s : State) (m : Message) : ZonesHold s (s.approveMessage m) := by
  have queued (f : Message → Message) (g : Crawl → Crawl) : ZonesHold s ((s.mapMessage m.id f).mapCrawl g) := of_canvas rfl id
  unfold State.approveMessage
  dsimp only
  split
  · exact queued _ _
  · exact ((queued _ _).trans (mapCrawl _ _)).trans (.ite (fun _ => startCards _ _) fun _ => refl _)

end ZonesHold

end Sys2Proof.Machine
end

section
namespace Sys2Proof.Machine

set_option Elab.async false

/-! ## Every step keeps what zones hold -/

theorem ZonesHold.mapLink (s : State) (l : Link) (f : LinkState → LinkState) : ZonesHold s (s.mapLink l f) :=
  of_canvas (mapLink_canvas s l f) (by rw [mapLink_timing]; exact id)

/-- An owner keeps what zones hold. -/
def Holds (owner : State → Answered) : Prop := ∀ s, ZonesHold s (owner s).1

theorem tests_hold {s : State} (checks : List (Bool × Status)) {accept : State → Answered} (h : ZonesHold s (accept s).1) :
    ZonesHold s (s.tests checks accept).1 := tests_keeps ZonesHold.refl checks h

theorem Holds.of_frame {P : List Part} {owner : State → Answered} (h : ∀ s, Frame P s (owner s).1)
    (hP : (P.contains .zones || P.contains .canvas || P.contains .clock) = false := by decide) : Holds owner :=
  fun s => .of_frame (h s) hP

theorem Holds.of_read {owner : State → Answered} (h : ∀ s, (owner s).1 = s) : Holds owner :=
  fun s => by rw [h s]; exact .refl s

/-! ### The owners that reach the zones, the layout or the clock's run state -/

theorem restartOwner_holds : Holds restartOwner := fun s => by
  show ZonesHold s s.restart
  exact .restart s

theorem clockRulesOwner_holds (r : ClockRules) : Holds (clockRulesOwner r) := fun s =>
  tests_hold _ (((ZonesHold.mapTiming s (Timing.setRules r) id).trans (ZonesHold.sampleLine _)).trans
    (.of_frame (sendStateIfMaster_frame _)))

theorem clockStartOwner_holds : Holds clockStartOwner := fun s =>
  tests_hold _ (.ite (fun _ => .refl s) fun _ => .linkStart s)

theorem clockStopOwner_holds : Holds clockStopOwner := fun s =>
  tests_hold _ (.ite (fun _ => .linkStop s) fun _ => .refl s)

theorem timing_sendClock_hold (s : State) (f : Timing → Timing) (hf : (f s.timing).run = s.timing.run) (c : ClockCause) :
    ZonesHold s ((s.mapTiming f).sendClock c) :=
  (ZonesHold.mapTiming s f fun hr => hf.symm.trans hr).trans (.of_frame (sendClock_frame _ c))

theorem breakStartOwner_holds (n : Nat) (b : Bool) : Holds (breakStartOwner n b) := fun s =>
  tests_hold _ (((ZonesHold.mapTiming s (Timing.startBreak n b) id).trans (ZonesHold.featureBreakStart _ n)).trans
    (.of_frame (sendClock_frame _ .breakStart)))

theorem breakCancelOwner_holds : Holds breakCancelOwner := fun s =>
  tests_hold _ (((ZonesHold.mapTiming s _ id).trans (ZonesHold.featureBreakCancel _)).trans
    (.of_frame (sendClock_frame _ .breakCancel)))

/-- A LAYOUT leaves a list awaiting that its tests have let pass (R89). -/
theorem layoutOwner_holds (n : Nat) (zones : List ZoneSpec) : Holds (layoutOwner n zones) := fun s => by
  unfold layoutOwner
  refine tests_keeps_of (.refl s) fun hpass => ?_
  simp only [List.forall_mem_cons, Bool.not_eq_false', noRepeats, decide_eq_true_eq, List.all_eq_true,
    Bool.and_eq_true, List.any_eq_false, bne_iff_ne, ne_eq, not_and, not_not, beq_iff_eq] at hpass
  obtain ⟨-, hnodup, hids, -, -, -, hclock, -⟩ := hpass
  have mem {m : ZoneSpec} (hm : m ∈ normalLayout zones) : ∃ z ∈ zones, normalZone z = m :=
    List.mem_map.mp ((normalLayout_perm zones).mem_iff.mp hm)
  refine ⟨fun hw => ⟨hw.ids, hw.small, hw.arb, ?_⟩, fun hw hs => ⟨hs.1, ?_⟩, fun _ _ ha => ha⟩
  · rintro l ⟨⟩
    refine ⟨normalLayout_ascends hnodup, fun m hm => ?_⟩
    obtain ⟨z, hz, rfl⟩ := mem hm
    exact (hids z hz).1
  · rintro l ⟨⟩ m hm hrole
    obtain ⟨z, hz, rfl⟩ := mem hm
    exact ⟨hclock z hz hrole, if_pos hrole⟩

theorem takeoverOwner_holds (l : Nat) (z : ZoneSet) (a d : Nat) : Holds (takeoverOwner l z a d) := fun s => by
  unfold takeoverOwner
  refine tests_keeps_of (.refl s) fun hpass => ?_
  have hl : l ≤ 7 := by
    have h := hpass _ (List.mem_cons_of_mem _ (List.mem_cons_self ..))
    simp only [Bool.or_eq_false_iff, decide_eq_false_iff_not] at h
    omega
  have walk (r : Request) (hr : r.level ≤ 7) (zs : List Nat) (acc : State × List (Nat × TakeoverResult)) :
      ZonesHold acc.1 (zs.foldl (fun acc z =>
        let (s, a) := acc.1.request z r true
        (s, acc.2 ++ [(z, s.takeoverResult z r.level a)])) acc).1 := by
    induction zs generalizing acc with
    | nil => exact .refl _
    | cons z zs ih => exact (ZonesHold.request acc.1 z r true hr).trans (ih ((acc.1.request z r true).1, _))
  exact walk _ hl _ (s, [])

theorem releaseOwner_holds (l : Nat) (z : ZoneSet) : Holds (releaseOwner l z) := fun s => tests_hold _ (.endAll s _ _)

theorem clearTopOwner_holds (z : Nat) : Holds (clearTopOwner z) := fun s => by
  unfold clearTopOwner
  split
  · exact .refl s
  · exact tests_hold _ (.endAll s _ _)

theorem maskOwner_holds (zone : Nat) (levels : List Nat) : Holds (maskOwner zone levels) := fun s => by
  unfold maskOwner
  refine tests_keeps_of (.refl s) fun hpass => ?_
  have hl : levels.all (within 1 7) = true := by
    simpa using hpass _ (List.mem_cons_of_mem _ (List.mem_cons_self ..))
  exact (ZonesHold.mapArb s zone _ fun z _ => .of_arb (fun hw => hw.setMask levels hl) fun _ _ _ hs => hs).trans
    (ZonesHold.evaluate _ zone)

theorem yieldOwner_holds (zone level : Nat) (on : Bool) : Holds (yieldOwner zone level on) := fun s => by
  unfold yieldOwner
  refine tests_keeps_of (.refl s) fun hpass => ?_
  simp only [List.forall_mem_cons] at hpass
  obtain ⟨-, -, hserved, -⟩ := hpass
  refine (ZonesHold.mapArb s zone _ fun z hz => ?_).trans (ZonesHold.evaluate _ zone)
  have hs : (z.arb.serviceAt level).isSome = true := by
    rw [hz] at hserved
    simpa using hserved
  exact .of_arb (fun hw => hw.setYield on hs) fun _ _ _ h => h

theorem zonePolicyOwner_holds (zone : Nat) (policy : Policies) : Holds (zonePolicyOwner zone policy) := fun s => by
  unfold zonePolicyOwner
  refine tests_keeps_of (.refl s) fun hpass => ?_
  simp only [List.forall_mem_cons] at hpass
  obtain ⟨-, hrole, -⟩ := hpass
  refine (ZonesHold.mapZone s zone _ fun z hz => ?_).trans (ZonesHold.evaluate _ zone)
  have hne : z.spec.role ≠ .clock := by
    rw [hz] at hrole
    simpa using hrole
  exact ⟨rfl, rfl, fun h => absurd h hne, id, fun _ _ h => absurd h hne⟩

theorem msgApproveOwner_holds (id : Nat) : Holds (msgApproveOwner id) := fun s => by
  unfold msgApproveOwner
  split
  · exact .refl s
  · split
    · exact .refl s
    · exact tests_hold _ (.approveMessage s _)

theorem msgWithdrawOwner_holds (id : Nat) : Holds (msgWithdrawOwner id) := fun s => by
  unfold msgWithdrawOwner
  split
  · exact .refl s
  · split
    · exact .refl s
    · next m _ =>
      have removed : ZonesHold s (s.removeMessage m.id) := .mapCrawl s _
      exact (removed.trans (ZonesHold.endAll _ _ _)).trans (.of_frame (raise_frame _ _ _))

/-! ### Every record command -/

/-- A command is the taking of a record by an owner that keeps what zones hold. -/
def HoldsTaken (c : Instr) : Prop :=
  ∃ h kind len shape owner, Holds owner ∧ ∀ s, exec c s = .next (s.takeSized h kind len shape owner)

theorem HoldsTaken.intro {c : Instr} {h : Hdr} {kind : Nat} {len : Option Nat} {shape : Bool} {owner : State → Answered}
    (ho : Holds owner) (he : ∀ s, exec c s = .next (s.takeSized h kind len shape owner)) : HoldsTaken c :=
  ⟨h, kind, len, shape, owner, ho, he⟩

theorem record_holdsTaken {c : Instr} (hc : c.record?.isSome = true) : HoldsTaken c := by
  cases c <;> first | (cases hc; done) | clear hc
  case linkInfo => exact .intro (.of_read fun _ => rfl) fun _ => rfl
  case subscribe h _ codes =>
    exact .intro (fun s => tests_hold _ (.mapLink s h.link fun l => { l with subs := codes })) fun _ => rfl
  case conditions h =>
    exact .intro (fun s => .mapLink s h.link LinkState.clearConditions) fun _ => rfl
  case slotPost h text =>
    exact .intro (fun s => tests_hold _ (.of_frame ((setSlot_frame s _ _).next (raise_frame _ _ _)))) fun _ => rfl
  case slotTake h =>
    refine .intro (fun s => ?_) fun _ => rfl
    unfold slotTakeOwner
    split
    · exact .refl s
    · exact .of_frame ((setSlot_frame s _ _).next (raise_frame _ _ _))
  case restart => exact .intro restartOwner_holds fun _ => rfl
  case trim t => exact .intro (fun s => .mapTiming s (fun m => { m with trim := clampTrim t }) id) fun _ => rfl
  case clockRules r => exact .intro (clockRulesOwner_holds r) fun _ => rfl
  case clockStart => exact .intro clockStartOwner_holds fun _ => rfl
  case clockStop => exact .intro clockStopOwner_holds fun _ => rfl
  case clockSet v => exact .intro (fun s => tests_hold _ (.setClock s v)) fun _ => rfl
  case clockAdjust d => exact .intro (fun s => tests_hold _ (.adjustClock s d)) fun _ => rfl
  case playReset x => exact .intro (fun s => tests_hold _ (timing_sendClock_hold s _ rfl _)) fun _ => rfl
  case playEnable on => exact .intro (fun s => tests_hold _ (timing_sendClock_hold s _ rfl _)) fun _ => rfl
  case breakStart n b => exact .intro (breakStartOwner_holds n b) fun _ => rfl
  case breakCancel => exact .intro breakCancelOwner_holds fun _ => rfl
  case horn w d => exact .intro (.of_frame (hornOwner_frame · w d)) fun _ => rfl
  case clockRead => exact .intro (.of_read fun _ => rfl) fun _ => rfl
  case gameFinal => exact .intro (fun s => tests_hold _ (.finalGame s _)) fun _ => rfl
  case gameOpen => exact .intro (fun s => tests_hold _ (.openGame s _)) fun _ => rfl
  case nextPeriod => exact .intro (fun s => tests_hold _ (.advancePeriod s _)) fun _ => rfl
  case scoreAdd t n => exact .intro (fun s => tests_hold _ (.addScore s _ _ _)) fun _ => rfl
  case scoreRevise n => exact .intro (.of_frame (scoreReviseOwner_frame · n)) fun _ => rfl
  case teamSet t f => exact .intro (.of_frame (teamSetOwner_frame · t f)) fun _ => rfl
  case fieldDefine n d => exact .intro (.of_frame (fieldDefineOwner_frame · d)) fun _ => rfl
  case fieldSet i v => exact .intro (.of_frame (fieldSetOwner_frame · i v)) fun _ => rfl
  case recordRead => exact .intro (.of_read fun _ => rfl) fun _ => rfl
  case logRead n => exact .intro (.of_frame (logReadOwner_frame · n)) fun _ => rfl
  case recordConfig x => exact .intro (.of_frame (recordConfigOwner_frame · x)) fun _ => rfl
  case twinConfig r t x => exact .intro (fun s => tests_hold _ (.configureTwin s r t x)) fun _ => rfl
  case twinStatus => exact .intro (.of_read fun _ => rfl) fun _ => rfl
  case canvasConfig r w x => exact .intro (fun s => tests_hold _ (.of_zones rfl rfl id)) fun _ => rfl
  case layout n z => exact .intro (layoutOwner_holds n z) fun _ => rfl
  case assetDefine a b x d => exact .intro (.of_frame (assetDefineOwner_frame · a b x d)) fun _ => rfl
  case assetChunk a b x d => exact .intro (.of_frame (assetChunkOwner_frame · a b x d)) fun _ => rfl
  case assetDrop a => exact .intro (.of_frame (assetDropOwner_frame · a)) fun _ => rfl
  case inputConfig a b x d => exact .intro (.of_frame (inputConfigOwner_frame · a b x d)) fun _ => rfl
  case takeover l z a d => exact .intro (takeoverOwner_holds l z a d) fun _ => rfl
  case release l z => exact .intro (releaseOwner_holds l z) fun _ => rfl
  case clearTop z => exact .intro (clearTopOwner_holds z) fun _ => rfl
  case mask z l => exact .intro (maskOwner_holds z l) fun _ => rfl
  case yield z l b => exact .intro (yieldOwner_holds z l b) fun _ => rfl
  case zonePolicy z p => exact .intro (zonePolicyOwner_holds z p) fun _ => rfl
  case zoneQuery z => exact .intro (.of_frame (zoneQueryOwner_frame · z)) fun _ => rfl
  case ringPartition a b x d => exact .intro (.of_frame (ringPartitionOwner_frame · a b x d)) fun _ => rfl
  case captureRestart n => exact .intro (.of_frame (captureRestartOwner_frame · n)) fun _ => rfl
  case marginSet n t => exact .intro (.of_frame (marginSetOwner_frame · n t)) fun _ => rfl
  case ringStatus n => exact .intro (.of_frame (ringStatusOwner_frame · n)) fun _ => rfl
  case clipCreate a b x d e f => exact .intro (.of_frame (clipCreateOwner_frame · a b x d e f)) fun _ => rfl
  case clipSave n => exact .intro (.of_frame (clipSaveOwner_frame · n)) fun _ => rfl
  case clipDelete n => exact .intro (.of_frame (clipDeleteOwner_frame · n)) fun _ => rfl
  case clipRead n => exact .intro (.of_frame (clipReadOwner_frame · n)) fun _ => rfl
  case cueAdd x f => exact .intro (.of_frame (cueAddOwner_frame · x f)) fun _ => rfl
  case cueRemove x n => exact .intro (.of_frame (cueRemoveOwner_frame · x n)) fun _ => rfl
  case channelRoll x => exact .intro (fun s => tests_hold _ (.roll s x)) fun _ => rfl
  case channelStop x => exact .intro (fun s => tests_hold _ (.releaseEntry s x _)) fun _ => rfl
  case channelSpeed x v => exact .intro (.of_frame (channelSpeedOwner_frame · x v)) fun _ => rfl
  case channelChain x b => exact .intro (.of_frame (channelChainOwner_frame · x b)) fun _ => rfl
  case channelStatus x => exact .intro (.of_read fun _ => rfl) fun _ => rfl
  case sponsorDefine a n q => exact .intro (.of_frame (sponsorDefineOwner_frame · a n q)) fun _ => rfl
  case sponsorRemove a => exact .intro (.of_frame (sponsorRemoveOwner_frame · a)) fun _ => rfl
  case rotationLoad p n es => exact .intro (.of_frame (rotationLoadOwner_frame · p n es)) fun _ => rfl
  case rotationMode p m x => exact .intro (.of_frame (rotationModeOwner_frame · p m x)) fun _ => rfl
  case rotationSuspend p n => exact .intro (.of_frame (rotationSuspendOwner_frame · p n)) fun _ => rfl
  case rotationResume p n => exact .intro (.of_frame (rotationResumeOwner_frame · p n)) fun _ => rfl
  case rotationFront p n => exact .intro (.of_frame (rotationFrontOwner_frame · p n)) fun _ => rfl
  case rotationStatus p => exact .intro (.of_frame (rotationStatusOwner_frame · p)) fun _ => rfl
  case featureAdd a b x z => exact .intro (fun s => tests_hold _ (.appendFeature s _ _ _ _ _)) fun _ => rfl
  case breakFeature x => exact .intro (.of_frame (breakFeatureOwner_frame · x)) fun _ => rfl
  case quotaSet n q => exact .intro (.of_frame (quotaSetOwner_frame · n q)) fun _ => rfl
  case counterMask m n => exact .intro (.of_frame (counterMaskOwner_frame · m n)) fun _ => rfl
  case exposureRead n => exact .intro (.of_frame (exposureReadOwner_frame · n)) fun _ => rfl
  case crawlConfig x => exact .intro (.of_frame (crawlConfigOwner_frame · x)) fun _ => rfl
  case msgSubmit n t m x => exact .intro (.of_frame (msgSubmitOwner_frame · n t m x)) fun _ => rfl
  case msgApprove n => exact .intro (msgApproveOwner_holds n) fun _ => rfl
  case msgReject n => exact .intro (.of_frame (msgRejectOwner_frame · n)) fun _ => rfl
  case msgWithdraw n => exact .intro (msgWithdrawOwner_holds n) fun _ => rfl
  case msgList n f => exact .intro (.of_frame (msgListOwner_frame · n f)) fun _ => rfl

/-! ### Due events and commands -/

namespace ZonesHold

theorem hornEnds_run (which : Horn) (t : Timing) : (t.hornEnds which).run = t.run := by
  cases which <;> unfold Timing.hornEnds <;> dsimp only <;> split <;> rfl

theorem runDue (s : State) (e : DueEvent) : ZonesHold s (s.runDue e) := by
  cases e with
  | startConfirm => exact .ite (fun _ => confirmStart s) fun _ => refl s
  | stopConfirm => exact .ite (fun _ => confirmStop s _) fun _ => refl s
  | gameExpiry => exact .ite (fun _ => expire s _) fun _ => refl s
  | playExpiry b => exact .ite (fun _ => playExpire s b) fun _ => refl s
  | breakExpiry => exact .ite (fun _ => breakExpire s) fun _ => refl s
  | hornEnd which => exact mapTiming s _ fun hr => (hornEnds_run which s.timing).symm.trans hr
  | helloTimer => exact .ite (fun _ => of_frame (helloExpire_frame s)) fun _ => refl s
  | heartbeatTimer => exact .ite (fun _ => of_frame (heartbeatExpire_frame s)) fun _ => refl s
  | clockTimer => exact .ite (fun _ => of_frame (sendClock_frame s _)) fun _ => refl s
  | lossTimer => exact .ite (fun _ => enterTwin s _ _ _) fun _ => refl s
  | takeoverExpiry zone => exact .ite (fun _ => refl s) fun _ => endAll s _ _
  | dwellEnd p =>
    show ZonesHold s (s.endDwell p)
    unfold State.endDwell
    split
    · exact .ite (fun _ => of_frame (endAppearance_frame s p)) fun _ => refl s
    · exact refl s
  | holdEnd n => exact of_frame (endHold_frame s n)
  | replyPlace l => exact mapLink s l _

theorem setDue (s : State) (d : List DueEvent) : ZonesHold s { s with due := d } := of_canvas rfl id

theorem settle (s : State) : ZonesHold s s.settle := (setDue s []).trans (foldl _ runDue _ _)

theorem perform (s : State) (p : DueEvent → Bool) : ZonesHold s (s.perform p) := by
  unfold State.perform
  split
  · exact (setDue s _).trans (runDue _ _)
  · exact refl s

theorem takeSized (s : State) {owner : State → Answered} (ho : Holds owner) (h : Hdr) (kind : Nat) (len : Option Nat)
    (shape : Bool) : ZonesHold s (s.takeSized h kind len shape owner) := by
  have served (u : State) (fits : Bool) : ZonesHold u (u.serve h.link kind len fits owner).1 := by
    unfold State.serve
    split
    · exact refl u
    · exact ho u
  refine (settle s).trans ?_
  unfold State.takeSized
  dsimp only
  refine .ite (fun _ => mapLink _ _ _) fun _ => ?_
  split
  · exact refl _
  · exact ((mapLink _ _ _).trans (served _ _)).trans (mapLink _ _ _)

/-- A state without zones and without an awaiting layout, on a stopped clock, holds what zones hold (R19, R50, R100). -/
theorem of_empty {s t : State} (hz : t.canvas.zones = []) (ha : t.canvas.awaitingLayout = none)
    (hr : t.timing.run = .stopped) : ZonesHold s t := by
  refine ⟨fun _ => ⟨?_, ?_, ?_, ?_⟩, fun _ _ => ⟨?_, ?_⟩, fun _ _ _ hrun => ?_⟩ <;> simp_all

theorem atPowerOn (s : State) (a b : Nat) (level : LineLevel) (q : List Instr) : ZonesHold s (State.atPowerOn a b level q) :=
  of_empty rfl rfl rfl

theorem exec {c : Instr} {s t : State} (h : exec c s = .next t) : ZonesHold s t := by
  have of {u : State} (hu : ZonesHold s u) (he : Machine.exec c s = .next u) : ZonesHold s t := by
    cases h.symm.trans he
    exact hu
  cases hr : c.record? with
  | some p =>
    obtain ⟨h, kind, len, shape, owner, ho, he⟩ := record_holdsTaken (c := c) (by rw [hr]; rfl)
    exact of (takeSized s ho _ _ _ _) (he s)
  | none =>
    have settled {u : State} (hu : ZonesHold s.settle u) : ZonesHold s u := (settle s).trans hu
    cases c <;> first | (cases hr; done) | clear hr
    case powerOn a b l => exact of (atPowerOn s a b l s.pending) rfl
    case frameReceived l cs => exact of (settled (mapLink _ l _)) rfl
    case receiverSilenceExpiry l => exact of (settled (mapLink _ l _)) rfl
    case lenOversized l n => exact of (settled (mapLink _ l _)) rfl
    case replyPlaceFreed l => exact of (perform s _) rfl
    case frameTransmit l => exact of (settled ((mapLink _ l _).trans (addDueIf _ _ _))) rfl
    case unknownKindRecord l tag kind =>
      exact of (.ite (fun _ => settle s) fun _ => takeSized s (.of_read fun _ => rfl) ⟨l, tag, true⟩ kind _ true) rfl
    case timeBaseStep => exact of (settled (timeStep _)) rfl
    case runLineEdge l => exact of (settled (runLineTo _ l)) rfl
    case twinHelloReceived x => exact of (settled (hearTwin _ (takeHello · x))) rfl
    case twinStateReceived a b r =>
      exact of (settled (.ite (fun _ => hearTwin _ (takePart · a b r)) fun _ => mapTwin _ _))
        (by simp only [Machine.exec, execTwinStateReceived]; rfl)
    case twinClockReceived r => exact of (settled (hearTwin _ (takeClock · r))) rfl
    case twinEventReceived r => exact of (settled (hearTwin _ (takeEvent · r))) rfl
    case twinHeartbeatReceived n b => exact of (settled (hearTwin _ (takeHeartbeat · b))) rfl
    case twinReceiverSilenceExpiry cs => exact of (settled (mapTwin _ _)) rfl
    case twinFrameDiscarded w => exact of (settled (mapTwin _ _)) rfl
    case outputFrameEvent => exact of (settled (frameEvent _)) rfl
    case cameraFrame n v => exact of (settled (of_frame (cameraFrame_frame _ n v))) rfl
    case inputSignalTimeout n => exact of (settled (of_frame (signalTimeout_frame _ n))) rfl
    case saveCopyFrame => exact of (settled (of_frame (copyFrame_frame _))) rfl
    all_goals exact of (perform s _) rfl

theorem step {s t : State} (h : step s = .next t) : ZonesHold s t := by
  unfold Machine.step at h
  split at h
  · next c rest _ =>
    have hq : ZonesHold s { s with pending := rest } := of_canvas rfl id
    exact hq.trans (exec h)
  · cases h
    exact of_frame (whenIdle_frame s)

end ZonesHold

end Sys2Proof.Machine

namespace Sys2Proof

open Machine

/-- Settles O13: every operation that reaches a zone keeps its arbitration state well formed, and a layout awaits in
ascending id. -/
theorem everyStepKeepsTheZones : Obligations.EveryStepKeepsTheZones :=
  fun _ _ hs h => (ZonesHold.step h).wf hs

/-- Settles O37: a running clock's requests at levels 1..7 are held in a CLOCK zone, and a start ends what stood there. -/
theorem clockZonesShowTheClock : Obligations.ClockZonesShowTheClock := by
  have hzones : State.reset.canvas.zones = [] := rfl
  have hawait : State.reset.canvas.awaitingLayout = none := rfl
  refine ⟨⟨by simp [hzones], by simp [hawait]⟩, fun s t hw ⟨hzones, hlayout⟩ h => ?_⟩
  have hspecs : s.clockSpecs := ⟨fun z hz hc => ⟨(hzones z hz hc).1, (hzones z hz hc).2.1⟩, hlayout⟩
  have halone : s.clockAlone := fun hr z hz hc => (hzones z hz hc).2.2 hr
  have hold := ZonesHold.step h
  obtain ⟨hbase, hnext⟩ := hold.specs hw hspecs
  exact ⟨fun z hz hc => ⟨(hbase z hz hc).1, (hbase z hz hc).2, fun hr => hold.alone hw hspecs halone hr z hz hc⟩, hnext⟩

end Sys2Proof
end

section
namespace Sys2Proof.Machine

set_option Elab.async false

/-! ## The asset store (R96 to R99) -/

theorem not_frameCountOk (kind : AssetKind) (frames : Nat) : (!frameCountOk kind frames) = true ↔
    (kind = .still ∧ frames ≠ 1) ∨ (kind ≠ .still ∧ (frames < 2 ∨ 65535 < frames)) := by
  cases kind
  · simp [frameCountOk]
  · simpa [frameCountOk] using within_eq_false 2 65535 frames
  · simpa [frameCountOk] using within_eq_false 2 65535 frames

theorem asset?_isSome (s : State) (id : Nat) : (s.asset? id).isSome = s.canvas.assets.any (·.id == id) := by
  rw [Bool.eq_iff_iff]
  simp [State.asset?, List.find?_isSome]

/-- The canvas with a new asset in its store, not reported missing (R96, R99). -/
def Canvas.define (id : Nat) (kind : AssetKind) (frames size : Nat) (c : Canvas) : Canvas :=
  { c with
    assets := c.assets ++ [⟨id, kind, frames, size, [], false⟩]
    missingReported := c.missingReported.filter (· != id) }

theorem assetDefineOwner_eq (id : Nat) (kind : AssetKind) (frames size : Nat) (s : State) :
    assetDefineOwner id kind frames size s =
      if 1023 < id ∨ size = 0 ∨ 268435456 < size ∨ (kind = .still ∧ frames ≠ 1) ∨
          (kind ≠ .still ∧ (frames < 2 ∨ 65535 < frames)) then s.refuse .range
      else if s.canvas.assets.any (·.id == id) = true then s.refuse .duplicate
      else if s.assetFree < size then s.refuse .noSpace
      else (s.mapCanvas (Canvas.define id kind frames size)).okWith (.count (s.assetFree - size)) := by
  have hfree : (s.mapCanvas (Canvas.define id kind frames size)).assetFree = s.assetFree - size := by
    simp only [State.assetFree, mapCanvas_canvas, Canvas.define, List.map_append, List.sum_append, List.map_cons, List.map_nil,
      List.sum_singleton]
    omega
  rw [← hfree]
  simp only [assetDefineOwner, tests_cons, tests_nil, Bool.or_eq_true, decide_eq_true_eq, within_eq_false,
    not_frameCountOk, asset?_isSome, Nat.lt_one_iff, or_assoc, assetCapacity]
  rfl

/-- A chunk's counts are outside their sets, or its body is not 8 bytes and the data count long (R97). -/
theorem chunk_unfit (l : LinkState) (count : Nat) (data : List Byte) :
    (count == data.length && within 1 1016 count && l.lengthFits (some (8 + count))) = false ↔
      l.inbound.head?.any (fun r => r.body.length != 8 + count) = true ∨ count ≠ data.length ∨ count = 0 ∨ 1016 < count := by
  have hfits : l.lengthFits (some (8 + count)) = !(l.inbound.head?.any fun r => r.body.length != 8 + count) := by
    unfold LinkState.lengthFits
    cases l.inbound.head? <;> simp [bne]
  have hrange : within 1 1016 count = false ↔ count = 0 ∨ 1016 < count := by
    have h := within_eq_false 1 1016 count
    rw [Bool.not_eq_true', Nat.lt_one_iff] at h
    exact h
  rw [hfits, Bool.and_eq_false_iff, Bool.and_eq_false_iff, hrange, beq_eq_false_iff_ne, Bool.not_eq_false', or_comm]

/-- The assets with a chunk stored in those of an id (R97). -/
def storeChunk (id : Nat) (data : List Byte) (assets : List Asset) : List Asset :=
  assets.map fun b =>
    if b.id = id then { b with data := b.data ++ data, ready := b.data.length + data.length == b.size } else b

theorem loadChunk_eq (a : Asset) (data : List Byte) (s : State) : s.loadChunk a data =
    if a.data.length + data.length = a.size then
      (({ s with canvas := { s.canvas with
          assets := storeChunk a.id data s.canvas.assets
          missingReported := s.canvas.missingReported.filter (· != a.id) } } : State).raise .assetState
        (.assetState a.id .ready none a.size))
    else { s with canvas := { s.canvas with assets := storeChunk a.id data s.canvas.assets } } := rfl

theorem assetChunkOwner_of_above {id : Nat} (offset count : Nat) (data : List Byte) {s : State} (hid : 1023 < id) :
    assetChunkOwner id offset count data s = s.refuse .range := if_pos hid

theorem assetChunkOwner_of_none {id : Nat} (offset count : Nat) (data : List Byte) {s : State} (hid : id ≤ 1023)
    (hn : s.asset? id = none) : assetChunkOwner id offset count data s = s.refuse .notFound := by
  unfold assetChunkOwner
  rw [if_neg (by omega), hn]

theorem assetChunkOwner_of_some {id : Nat} (offset count : Nat) (data : List Byte) {s : State} {a : Asset} (hid : id ≤ 1023)
    (ha : s.asset? id = some a) : assetChunkOwner id offset count data s =
      if a.ready = true ∨ offset ≠ a.data.length ∨ a.size < offset + count then s.refuse .range
      else (s.loadChunk a data).okWith (.count (a.data.length + data.length)) := by
  unfold assetChunkOwner
  rw [if_neg (by omega), ha]
  simp only [tests_cons, tests_nil, Bool.or_eq_true, decide_eq_true_eq, bne_iff_ne, or_assoc]

theorem assetDropOwner_eq (id : Nat) (s : State) : assetDropOwner id s =
    if 1023 < id then s.refuse .range
    else if s.canvas.assets.any (·.id == id) = false then s.refuse .notFound
    else (({ s with canvas := { s.canvas with assets := s.canvas.assets.filter (·.id != id) } } : State).raise .assetState
        (.assetState id .dropped none 0)).okWith
      (.count (268435456 - ((s.canvas.assets.filter (·.id != id)).map (·.size)).sum)) := by
  simp only [assetDropOwner, tests_cons, tests_nil, decide_eq_true_eq, ← Option.not_isSome, asset?_isSome, Bool.not_eq_true']
  rfl

end Sys2Proof.Machine

namespace Sys2Proof

open Machine

/-- Settles O34: each owner by its tests; a chunk that fits is stored, and the last one makes its asset READY. -/
theorem assetsAreDefinedLoadedAndDropped : Obligations.AssetsAreDefinedLoadedAndDropped := by
  refine ⟨fun h id kind frames size s ha => ?_, fun h id offset count data s ha => ?_, fun h id s ha => ?_⟩
  · rw [exec_admitted (owner := assetDefineOwner id kind frames size) ha rfl (assetDefineOwner_frame s id kind frames size),
      assetDefineOwner_eq]
    dsimp only
    split
    · rfl
    split
    · rfl
    split
    · next hsize => rw [if_pos (show 268435456 - _ < size from hsize)]; rfl
    · next hsize => rw [if_neg (show ¬268435456 - _ < size from hsize)]; rfl
  · have he : exec (.assetChunk h id offset count data) s = .next (s.takeSized h 0x3B (some (8 + count))
        (count == data.length && within 1 1016 count) (assetChunkOwner id offset count data)) := rfl
    rw [he, takeSized_admitted ha _ _ _ ((assetChunkOwner_frame s id offset count data).replies h.link)]
    cases hshape : count == data.length && within 1 1016 count && (s.link h.link).lengthFits (some (8 + count)) with
    | false => rw [if_neg (by simp), if_pos ((chunk_unfit _ count data).mp hshape)]
    | true =>
      have hfit : ¬(_ ∨ _ ∨ _ ∨ _) := fun hu => Bool.false_ne_true (((chunk_unfit _ count data).mpr hu).symm.trans hshape)
      rw [if_pos rfl, if_neg hfit]
      obtain rfl : count = data.length := by
        by_contra hne
        exact hfit (.inr (.inl hne))
      split
      · next hid =>
        rw [assetChunkOwner_of_above offset _ data hid]
        rfl
      next hid =>
      dsimp only
      split
      · next hn =>
        rw [assetChunkOwner_of_none offset _ data (Nat.not_lt.mp hid) hn]
        rfl
      · next a hs =>
        have haid : a.id = id := by simpa using List.find?_some hs
        rw [assetChunkOwner_of_some offset _ data (Nat.not_lt.mp hid) hs, loadChunk_eq, haid]
        split
        · rfl
        split <;> rfl
  · rw [exec_admitted (owner := assetDropOwner id) ha rfl (assetDropOwner_frame s id), assetDropOwner_eq]
    dsimp only
    split
    · rfl
    split <;> rfl

end Sys2Proof
end

section
namespace Sys2Proof.Machine

set_option Elab.async false

/-! ## What a selection chooses, starts and reports -/

section
variable (s : State)

theorem assetReady_eq_any (n : Nat) : s.assetReady n = (s.asset? n).any (·.ready) := by
  unfold State.assetReady
  cases s.asset? n <;> rfl

theorem entryFulfilled_eq_any (e : RotEntry) : s.entryFulfilled e = e.sponsor.any fun i => (s.exposed i).fulfilled := by
  unfold State.entryFulfilled
  cases e.sponsor <;> rfl

theorem candidates_eq (g : Program) :
    g.candidates = if g.mode = .rotate then g.entries else g.entries.drop g.pointer ++ g.entries.take g.pointer := by
  unfold Program.candidates
  cases g.mode <;> rfl

theorem choose_eq_or (es : List RotEntry) : s.choose es = (es.find? s.firstChoice).or (es.find? s.fillChoice) := by
  unfold State.choose
  cases es.find? s.firstChoice <;> rfl

/-! ### What one operation reports -/

/-- A selection that examines the candidate reports its asset as missing (R168). -/
def State.missesAsset (e : RotEntry) : Bool := !e.suspended && !s.assetReady e.asset

/-- The occurrence of a missing asset that a selection passes over (R168). -/
def State.passedOver (p : Nat) (e : RotEntry) : Cond × Detail :=
  (.assetState, .assetState e.asset .missing (s.carrying p).head? (s.assetSize e.asset))

variable {s} in
theorem Chooses.missesAsset {t : State} (h : Chooses s t) : t.missesAsset = s.missesAsset := by
  funext e
  unfold State.missesAsset
  rw [h.assetReady]

variable {s} in
theorem Chooses.passedOver {t : State} (h : Chooses s t) (p : Nat) : t.passedOver p = s.passedOver p := by
  funext e
  unfold State.passedOver State.assetSize State.asset?
  rw [carrying_eq, carrying_eq, h.specs, h.config, h.assets]

theorem raiseSkipped_reports (p : Nat) (e : RotEntry) :
    Reports [] s (s.raiseSkipped p e) (if s.missesAsset e then [s.passedOver p e] else []) := by
  unfold State.raiseSkipped
  exact .ite (fun _ => .raise rfl s _) fun _ => .refl [] s

theorem raiseSkippeds_reports (p : Nat) (es : List RotEntry) :
    Reports [] s (es.foldl (fun s e => s.raiseSkipped p e) s) ((es.filter s.missesAsset).map (s.passedOver p)) := by
  induction es generalizing s with
  | nil => exact .refl [] s
  | cons e es ih =>
    have hc := raiseSkipped_chooses s p e
    have hr := ih (s.raiseSkipped p e)
    rw [hc.missesAsset, hc.passedOver] at hr
    have hn := (raiseSkipped_reports s p e).next hr
    rw [List.filter_cons]
    split at hn <;> simpa [*] using hn

theorem mapProgram_links (p : Nat) (f : Program → Program) : Reports [] s (s.mapProgram p f) [] := .of_links rfl rfl

/-- The occurrence of a selection that finds no entry (R171). -/
def State.emptied (p : Nat) : Cond × Detail :=
  (.rotationEmpty, .rotationEmpty p (s.program p).entries.length ((s.program p).entries.filter (·.suspended)).length
    ((s.program p).entries.filter fun e => !s.assetReady e.asset).length
    ((s.program p).entries.filter fun e => !e.suspended && s.entryFulfilled e).length)

theorem startSlate_emptied (p : Nat) : Reports [] s (s.startSlate p) [s.emptied p] :=
  (mapProgram_links s p _).next (.raise rfl _ _)

variable {s} in
theorem Chooses.emptied {t : State} {p : Nat} (h : Chooses s t) (hp : t.program p = s.program p) :
    t.emptied p = s.emptied p := by
  have hf : t.entryFulfilled = s.entryFulfilled := funext fun e => by
    simp only [entryFulfilled_eq_any, h.fulfilled]
  unfold State.emptied
  simp only [hp, h.assetReady, hf]

/-! ### What a selection makes of its program and of the exposure -/

theorem tellStart_exposure (e : RotEntry) : (s.tellStart e).exposure = (match e.sponsor with
    | some i => { s.exposure with ids := s.exposure.ids.set i { s.exposed i with
        appearances := creditTo s.exposure.mask.appearances (s.exposed i).appearances 1 } }
    | none => s.exposure) := by
  unfold State.tellStart
  cases e.sponsor <;> rfl

theorem startEntry_program_of {p : Nat} (hp : p < s.rotation.programs.length) (e : RotEntry) :
    (s.startEntry p e).program p =
      { s.program p with
        onAir := some ⟨some e, s.toFrames e.dwell, 0, 0, 0⟩
        pointer := if (s.program p).mode = .fixed then indexAfter (s.program p).entries e.id
          else (s.program p).pointer } := by
  unfold State.startEntry
  rw [program_of_rotation (tellStart_rotation _ e), program_mapProgram_same hp]
  cases hm : (s.program p).mode <;> simp [hm]

end

section
variable {s : State} {p : Nat}

/-- The state in which a selection starts its choice: the missing assets passed over have been reported. -/
theorem select_eq (s : State) (p : Nat) : ∃ u : State, Chooses s u ∧ u.rotation = s.rotation ∧ u.exposure = s.exposure ∧
    Reports [] s u (((s.examined (s.program p).candidates).filter s.missesAsset).map (s.passedOver p)) ∧
    s.select p = match s.choose (s.program p).candidates with
      | some e => u.startEntry p e
      | none => u.startSlate p := by
  obtain ⟨hr, hc, he⟩ := raiseSkippeds_keep s p (s.examined (s.program p).candidates)
  exact ⟨_, hc, hr, he, raiseSkippeds_reports s p _, rfl⟩

theorem select_program (hp : p < s.rotation.programs.length) : (s.select p).program p =
    let choice := s.choose (s.program p).candidates
    { s.program p with
      onAir := some ⟨choice, s.toFrames ((choice.map (·.dwell)).getD 5000), 0, 0, 0⟩
      pointer := (match (s.program p).mode, choice with
        | .fixed, some e => indexAfter (s.program p).entries e.id
        | _, _ => (s.program p).pointer)
      slates := if choice = none then min 65535 ((s.program p).slates + 1) else (s.program p).slates } := by
  obtain ⟨u, hc, hr, -, -, hu⟩ := select_eq s p
  rw [hu]
  cases hx : s.choose (s.program p).candidates with
  | none =>
    dsimp only
    rw [startSlate_program (by rw [hr]; exact hp), program_of_rotation hr, hc.toFrames]
    cases hm : (s.program p).mode <;> simp [hm]
  | some e =>
    dsimp only
    rw [startEntry_program_of _ (by rw [hr]; exact hp), program_of_rotation hr, hc.toFrames]
    cases hm : (s.program p).mode <;> simp [hm]

theorem select_exposure : (s.select p).exposure =
    match (s.choose (s.program p).candidates).bind (·.sponsor) with
    | some i => { s.exposure with ids := s.exposure.ids.set i { s.exposed i with
        appearances := creditTo s.exposure.mask.appearances (s.exposed i).appearances 1 } }
    | none => s.exposure := by
  obtain ⟨u, -, hr, he, -, hu⟩ := select_eq s p
  rw [hu]
  cases s.choose (s.program p).candidates with
  | none => exact he
  | some e =>
    have hx : ∀ i, u.exposed i = s.exposed i := fun i => by
      unfold State.exposed
      rw [he]
    refine (tellStart_exposure _ e).trans ?_
    cases hs : e.sponsor with
    | none =>
      simp only [Option.bind_some, hs]
      exact he
    | some i =>
      simp only [Option.bind_some, hs]
      rw [← hx i, ← he]
      rfl

theorem select_reports_all : Reports [] s (s.select p)
    (((s.examined (s.program p).candidates).filter s.missesAsset).map (s.passedOver p) ++
      if s.choose (s.program p).candidates = none then [s.emptied p] else []) := by
  obtain ⟨u, hc, hr, -, hl, hu⟩ := select_eq s p
  rw [hu]
  cases s.choose (s.program p).candidates with
  | none => simpa [hc.emptied (program_of_rotation hr p)] using hl.next (startSlate_emptied u p)
  | some e => simpa using hl.next (startEntry_reports u p e)

end

end Sys2Proof.Machine

namespace Sys2Proof
open Machine

/-- Settles O49: the selection's missing assets, its choice and its start, each through its own lemma. -/
theorem selectionsChooseTheNextEntry : Obligations.SelectionsChooseTheNextEntry := by
  intro p s hp hw
  have hl : p < s.rotation.programs.length := by
    rw [hw.programs]
    omega
  have hcands := candidates_eq (s.program p)
  have hchoice := choose_eq_or s (s.program p).candidates
  have hprogram := select_program hl
  have hexposure := select_exposure (s := s) (p := p)
  have hreports := (select_reports_all (s := s) (p := p)).link
  unfold State.examined State.missesAsset State.passedOver State.emptied at hreports
  rw [hchoice, hcands] at hprogram hexposure hreports
  unfold State.firstChoice State.fillChoice at hprogram hexposure hreports
  simp only [assetReady_eq_any, entryFulfilled_eq_any] at hprogram hexposure hreports
  dsimp only
  refine ⟨hprogram, (select_one s p).others, hexposure.trans ?_, fun link => ?_, select_frame s p⟩
  · rfl
  · rw [hreports link]
    simp only [Bool.not_not]

end Sys2Proof
end

section
namespace Sys2Proof.Machine

set_option Elab.async false

/-! ## Plain requests in any zones named (R104, R105) -/

section
variable {s : State} {r : Request}

/-- A plain request in a zone that is not in the layout changes nothing, and the zone does not join (R104). -/
theorem request_of_absent {zone : Nat} (h : s.zone? zone = none) :
    (s.request zone r false).1 = s ∧ (s.request zone r false).2.joins = false := by
  unfold State.request
  rw [h]
  exact ⟨rfl, rfl⟩

/-- The level is free in a zone of the layout. -/
def State.freeAt (s : State) (level zone : Nat) : Bool :=
  (s.zone? zone).any fun z => (z.arb.serviceAt level).isNone && (z.arb.pendingAt level).isNone

theorem freeAt_iff {level zone : Nat} :
    s.freeAt level zone = true ↔ (s.zone? zone).isSome = true ∧ s.standsAt zone level = none := by
  unfold State.freeAt State.standsAt
  cases s.zone? zone with
  | none => simp
  | some z =>
    simp only [Option.any_some, Bool.and_eq_true, Option.isNone_iff_eq_none, Option.isSome_some, true_and,
      Option.bind_some, standing_eq_none]
    exact and_comm

/-- A plain request where its level is not free changes nothing, and its zone does not join (R104, R105). -/
theorem request_of_not_free {zone : Nat} (h : s.freeAt r.level zone = false) :
    (s.request zone r false).1 = s ∧ (s.request zone r false).2.joins = false := by
  cases hz : s.zone? zone with
  | none => exact request_of_absent hz
  | some z =>
    refine request_of_standing (Option.isSome_iff_ne_none.mpr fun hn => ?_)
    rw [freeAt_iff.mpr ⟨by rw [hz]; rfl, hn⟩] at h
    cases h

/-- Plain requests where the level is free nowhere change nothing, and no zone joins. -/
theorem requestAll_of_not_free {zones : List Nat} (h : ∀ k ∈ zones, s.freeAt r.level k = false) :
    s.requestAll r false zones = (s, []) := by
  induction zones with
  | nil => rfl
  | cons z zones ih =>
    obtain ⟨he, hj⟩ := request_of_not_free (h z (by simp))
    rw [requestAll_cons, he, hj, ih fun k hk => h k (by simp [hk])]
    rfl

theorem freeAt_of_zone {t : State} {k : Nat} (h : t.zone? k = s.zone? k) (level : Nat) :
    t.freeAt level k = s.freeAt level k := by
  unfold State.freeAt
  rw [h]

theorem requestAll_zone_other {k : Nat} (r : Request) (b : Bool) (zones : List Nat) (s : State) (h : k ∉ zones) :
    (s.requestAll r b zones).1.zone? k = s.zone? k := by
  induction zones generalizing s with
  | nil => rfl
  | cons z zones ih =>
    rw [List.mem_cons, not_or] at h
    rw [requestAll_cons]
    exact (ih _ h.2).trans (request_zone_other h.1 r b)

/-- Plain requests in distinct zones: those where the level is free join, and hold the request (R104). -/
theorem requestAll_named (r : Request) (zones : List Nat) (s : State) (hn : zones.Nodup) :
    (s.requestAll r false zones).2 = zones.filter (s.freeAt r.level) ∧
      ∀ k ∈ zones.filter (s.freeAt r.level), ∃ y, (s.requestAll r false zones).1.zone? k = some y ∧
        y.arb.Holds r (s.canvas.frame + 1) := by
  induction zones generalizing s with
  | nil => exact ⟨rfl, nofun⟩
  | cons z zones ih =>
    obtain ⟨hm, hn⟩ := List.nodup_cons.mp hn
    have hother (k : Nat) (hk : k ≠ z) := request_zone_other (s := s) hk r false
    have hfree : zones.filter ((s.request z r false).1.freeAt r.level) = zones.filter (s.freeAt r.level) :=
      List.filter_congr fun k hk => freeAt_of_zone (hother k fun he => hm (he ▸ hk)) _
    obtain ⟨i1, i2⟩ := ih (s.request z r false).1 hn
    rw [hfree] at i1 i2
    rw [(request_frame s z r false).canvasFrame] at i2
    rw [requestAll_cons]
    dsimp only
    cases hs : s.freeAt r.level z with
    | false =>
      rw [List.filter_cons_of_neg (by simp [hs]), (request_of_not_free hs).2, i1]
      exact ⟨rfl, i2⟩
    | true =>
      obtain ⟨hz, hst⟩ := freeAt_iff.mp hs
      obtain ⟨y, hy⟩ := Option.isSome_iff_exists.mp hz
      obtain ⟨he, hj⟩ := request_of_free hy hst false
      rw [List.filter_cons_of_pos hs, hj, i1]
      refine ⟨rfl, fun k hk => ?_⟩
      rcases List.mem_cons.mp hk with rfl | hk
      · rw [requestAll_zone_other r false zones _ hm, he]
        exact record_evaluate_holds hy r
      · exact i2 k hk

end

/-! ## The head of the feature list (R175, R176) -/

/-- The request of a feature (R176). -/
def State.featureRequest (s : State) (f : Feature) : Request :=
  ⟨5, .asset f.asset, some (s.toFrames f.duration), some f.sponsor⟩

/-- The zones that take a feature (R176). -/
def State.featureTakers (s : State) (f : Feature) : List Nat := (s.resolveZones f.zones).filter (s.freeAt 5)

section
variable {s : State}

theorem featureTargetZones_nodup (hw : s.zonesWf) : s.featureTargetZones.Nodup :=
  ((hw.ids.imp (fun hlt => Nat.ne_of_lt hlt) : List.Nodup _).sublist (List.filter_sublist.map _) : List.Nodup _)

theorem resolveZones_nodup (hw : s.zonesWf) (zones : List Nat) : (s.resolveZones zones).Nodup := by
  unfold State.resolveZones
  split
  · exact featureTargetZones_nodup hw
  · exact ascending8_nodup zones

theorem startFeatures_nil : s.startFeatures [] = s.mapRotation fun r => { r with features := [] } := rfl

/-- A feature that no zone takes leaves the list, is counted, and the rest follows (R176). -/
theorem startFeatures_untaken {f : Feature} (h : s.featureTakers f = []) (rest : List Feature) :
    s.startFeatures (f :: rest) =
      (s.mapRotation fun r => { r with featuresDropped := min 65535 (r.featuresDropped + 1) }).startFeatures rest := by
  have hq : s.requestAll (s.featureRequest f) false (s.resolveZones f.zones) = (s, []) :=
    requestAll_of_not_free fun k hk => Bool.eq_false_iff.mpr fun ht => List.filter_eq_nil_iff.mp h k hk ht
  unfold State.featureRequest at hq
  rw [State.startFeatures, hq]
  rfl

/-- A feature that some zone takes heads the list, its takers outstanding (R176). -/
theorem startFeatures_taken {f : Feature} (hw : s.zonesWf) (h : s.featureTakers f ≠ []) (rest : List Feature) :
    s.startFeatures (f :: rest) =
      (s.requestAll (s.featureRequest f) false (s.resolveZones f.zones)).1.mapRotation fun r =>
        { r with features := { f with outstanding := s.featureTakers f } :: rest } := by
  have hq : (s.requestAll (s.featureRequest f) false (s.resolveZones f.zones)).2 = s.featureTakers f :=
    (requestAll_named _ _ s (resolveZones_nodup hw f.zones)).1
  unfold State.featureRequest at hq ⊢
  rw [State.startFeatures]
  dsimp only
  rw [hq, if_neg (by simpa using h)]

/-- The features at the front of a list that no zone takes (R176). -/
def State.untaken (s : State) (list : List Feature) : List Feature := list.takeWhile fun f => (s.featureTakers f).isEmpty

/-- What the start of a list makes of the rotation unit (R176). -/
theorem startFeatures_rotation (list : List Feature) (s : State) (hw : s.zonesWf)
    (hd : s.rotation.featuresDropped ≤ 65535) : (s.startFeatures list).rotation =
      { s.rotation with
        featuresDropped := min 65535 (s.rotation.featuresDropped + (s.untaken list).length)
        features := match list.drop (s.untaken list).length with
          | f :: rest => { f with outstanding := s.featureTakers f } :: rest
          | [] => [] } := by
  induction list generalizing s with
  | nil =>
    rw [startFeatures_nil, mapRotation_rotation]
    simp [State.untaken, Nat.min_eq_right hd]
  | cons f rest ih =>
    by_cases h : s.featureTakers f = []
    · have hu : s.untaken (f :: rest) = f :: s.untaken rest := List.takeWhile_cons_of_pos (by rw [h]; rfl)
      rw [startFeatures_untaken h, hu]
      refine (ih (s.mapRotation _) ⟨hw.ids, hw.small, hw.arb, hw.awaiting⟩ (Nat.min_le_left _ _)).trans ?_
      rw [show (s.mapRotation _).untaken rest = s.untaken rest from rfl,
        show ((s.mapRotation _).featureTakers : Feature → List Nat) = s.featureTakers from rfl]
      simp only [mapRotation_rotation, List.length_cons, List.drop_succ_cons]
      congr 1
      omega
    · have hu : s.untaken (f :: rest) = [] := List.takeWhile_cons_of_neg (by simpa using h)
      rw [startFeatures_taken hw h, hu, mapRotation_rotation, (requestAll_frame s _ _ _).rotation]
      simp [Nat.min_eq_right hd]

/-- What the start of a list leaves standing for its head: each outstanding zone holds the head's request (R176). -/
theorem startFeatures_holds (list : List Feature) (s : State) (hw : s.zonesWf) :
    ∀ f ∈ (s.startFeatures list).rotation.features.head?, ∀ zone ∈ f.outstanding,
      ∃ y, (s.startFeatures list).zone? zone = some y ∧ y.arb.Holds (s.featureRequest f) (s.canvas.frame + 1) := by
  induction list generalizing s with
  | nil => exact nofun
  | cons f rest ih =>
    by_cases h : s.featureTakers f = []
    · rw [startFeatures_untaken h]
      exact ih (s.mapRotation _) ⟨hw.ids, hw.small, hw.arb, hw.awaiting⟩
    · rw [startFeatures_taken hw h]
      rintro g ⟨⟩ zone hz
      exact (requestAll_named (s.featureRequest f) _ s (resolveZones_nodup hw f.zones)).2 zone hz

/-- What remains of a list once it is started is a part of it, from some feature on (R176). -/
theorem startFeatures_numbers (list : List Feature) (s : State) :
    (s.startFeatures list).rotation.features.map (·.number) <:+ list.map (·.number) := by
  induction list generalizing s with
  | nil => exact List.nil_suffix
  | cons f rest ih =>
    unfold State.startFeatures
    dsimp only
    split
    · exact (ih _).trans (List.suffix_cons _ _)
    · exact List.suffix_rfl

theorem featureFollow_of_cons {f : Feature} {rest : List Feature} (h : s.rotation.features = f :: rest) :
    s.featureFollow = if f.outstanding = [] then s.startFeatures rest else s := by
  unfold State.featureFollow
  rw [h]
  simp only [List.isEmpty_iff]

/-- The start of a list whose features name zones reaches no other zone (R176). -/
theorem startFeatures_zone_other {k : Nat} (list : List Feature) (s : State)
    (h : ∀ g ∈ list, g.zones ≠ [] ∧ k ∉ g.zones) : (s.startFeatures list).zone? k = s.zone? k := by
  induction list generalizing s with
  | nil => rfl
  | cons f rest ih =>
    obtain ⟨hf, hrest⟩ := List.forall_mem_cons.mp h
    have hk : k ∉ s.resolveZones f.zones := by
      unfold State.resolveZones
      rw [if_neg (by simpa using hf.1)]
      exact fun hm => hf.2 (mem_ascending8.mp hm).2
    have hq := requestAll_zone_other (s.featureRequest f) false _ s hk
    unfold State.featureRequest at hq
    unfold State.startFeatures
    dsimp only
    split
    · exact (ih _ hrest).trans hq
    · exact hq

end

end Sys2Proof.Machine
end

section
namespace Sys2Proof.Machine

set_option Elab.async false

/-! ## FEATURE_ADD (R175) -/

theorem not_zoneSetCounted (z : ZoneSet) : (!zoneSetCounted z) = true ↔ z.count ≠ z.ids.length ∨ 8 < z.count := by
  simp only [zoneSetCounted, Bool.not_and, Bool.or_eq_true, Bool.not_eq_true', beq_eq_false_iff_ne, decide_eq_false_iff_not,
    Nat.not_le, ne_eq]

theorem not_zoneSetIdsOk (z : ZoneSet) : (!zoneSetIdsOk z) = true ↔ z.ids.any (7 < ·) = true ∨ ¬z.ids.Nodup := by
  simp only [zoneSetIdsOk, noRepeats, Bool.not_and, Bool.or_eq_true, Bool.not_eq_true', decide_eq_false_iff_not,
    List.all_eq_false, decide_eq_true_eq, Nat.not_le, List.any_eq_true]

/-- The list with a feature at its tail, and the next number (R175). -/
def Rotation.join (sponsor asset duration : Nat) (zones : List Nat) (brk : Bool) (r : Rotation) : Rotation :=
  { r with
    features := r.features ++ [⟨r.nextFeature, sponsor, asset, duration, zones, brk, []⟩]
    nextFeature := nextNumber r.nextFeature }

section
variable {s : State} (sponsor asset duration : Nat) (zones : List Nat) (brk : Bool)

theorem appendFeature_eq : s.appendFeature sponsor asset duration zones brk =
    if s.rotation.features = [] then
      (s.mapRotation (Rotation.join sponsor asset duration zones brk)).startFeatures
        (s.rotation.join sponsor asset duration zones brk).features
    else s.mapRotation (Rotation.join sponsor asset duration zones brk) := by
  unfold State.appendFeature
  simp only [List.isEmpty_iff]
  rfl

theorem featureAddOwner_eq (zones : ZoneSet) : featureAddOwner sponsor asset duration zones s =
    if 63 < sponsor ∨ 1023 < asset ∨ duration < 1000 ∨ 120000 < duration ∨ zones.ids.any (7 < ·) = true ∨ ¬zones.ids.Nodup
      then s.refuse .range
    else if s.rotation.sponsors.any (·.id == sponsor) = false then s.refuse .notFound
    else if 8 ≤ s.rotation.features.length then s.refuse .full
    else (s.appendFeature sponsor asset duration zones.ids false).okWith
      (.pair s.rotation.nextFeature s.rotation.features.length) := by
  have hsponsor : (!s.sponsorDefined sponsor) = true ↔ s.rotation.sponsors.any (·.id == sponsor) = false := by
    rw [Bool.not_eq_true']
    rfl
  simp only [featureAddOwner, tests_cons, tests_nil, Bool.or_eq_true, decide_eq_true_eq, within_eq_false, not_zoneSetIdsOk,
    or_assoc, hsponsor]

end

theorem featureTakers_eq {s : State} (f : Feature) : s.featureTakers f =
    (if f.zones = [] then (s.canvas.zones.filter (·.spec.attrs.featureTarget)).map (·.spec.id)
      else (List.range 8).filter f.zones.contains).filter fun z =>
        (s.zone? z).any fun y => (y.arb.serviceAt 5).isNone && (y.arb.pendingAt 5).isNone := by
  unfold State.featureTakers State.resolveZones
  simp only [List.isEmpty_iff]
  rfl

/-! ## The break feature (R177) -/

section
variable {s : State}

theorem featureBreakStart_of_some {seconds sponsor asset : Nat} (h : s.rotation.breakConfig = some (sponsor, asset)) :
    s.featureBreakStart seconds =
      if 8 ≤ s.rotation.features.length then
        s.mapRotation fun r => { r with featuresDropped := satInc 65535 r.featuresDropped }
      else (s.appendFeature sponsor asset (seconds * 1000) [] true).mapRotation fun r =>
        { r with breakRecorded := some s.rotation.nextFeature } := by
  unfold State.featureBreakStart
  rw [h]

/-- Ends of level 5 take each zone where it stands out of the head feature's outstanding set, and change no other feature
(R176). -/
theorem endEach_levelFive_features (zones : List Nat) (s : State) {f : Feature} {rest : List Feature}
    (hf : s.rotation.features = f :: rest) :
    ∃ out, out ⊆ f.outstanding ∧ (∀ zone ∈ zones, zone ∈ out → s.standsAt zone 5 = none) ∧
      (s.endEach .released (zones.map fun zone => (zone, 5))).rotation.features = { f with outstanding := out } :: rest := by
  induction zones generalizing s f with
  | nil => exact ⟨f.outstanding, List.Subset.refl _, nofun, hf⟩
  | cons z zones ih =>
    show ∃ out, _ ∧ _ ∧ ((s.endOne .released z 5).endEach .released (zones.map fun zone => (zone, 5))).rotation.features = _
    cases hst : s.standsAt z 5 with
    | none =>
      rw [endOne_of_none hst]
      obtain ⟨out, hsub, hout, he⟩ := ih s hf
      exact ⟨out, hsub, List.forall_mem_cons.mpr ⟨fun _ => hst, hout⟩, he⟩
    | some k =>
      have hfe : (s.endOne .released z 5).rotation.features =
          { f with outstanding := f.outstanding.filter (· != z) } :: rest := by
        rw [endOne_of_some (stage := k.1) (frames := k.2) hst]
        show (Rotation.levelEnded z s.rotation).features = _
        unfold Rotation.levelEnded
        rw [hf]
      obtain ⟨out, hsub, hout, he⟩ := ih (s.endOne .released z 5) hfe
      have hne {zone : Nat} (hm : zone ∈ out) : zone ≠ z := by simpa using (List.mem_filter.mp (hsub hm)).2
      refine ⟨out, fun x hx => List.mem_of_mem_filter (hsub hx),
        List.forall_mem_cons.mpr ⟨fun hm => absurd rfl (hne hm), fun zone hz hm => ?_⟩, he⟩
      have ho := endOne_standsAt_other s .released (i := (z, 5)) (j := (zone, 5)) fun h => hne hm (congrArg Prod.fst h)
      exact ho.symm.trans (hout zone hz hm)

/-- The same, once the zones of the event are evaluated (R114). -/
theorem evaluated_levelFive_features (zones items : List Nat) {f : Feature} {rest : List Feature}
    (hf : s.rotation.features = f :: rest) :
    ∃ out, out ⊆ f.outstanding ∧ (∀ zone ∈ zones, zone ∈ out → s.standsAt zone 5 = none) ∧
      ((s.endEach .released (zones.map fun zone => (zone, 5))).evaluateAll items).rotation.features =
        { f with outstanding := out } :: rest := by
  rw [(evaluateAll_frame _ _).rotation]
  exact endEach_levelFive_features zones s hf

/-- Once one event has ended level 5 in every outstanding zone of the head, the head has left the list (R176). -/
theorem endAll_levelFive_numbers {f : Feature} {rest : List Feature} (hf : s.rotation.features = f :: rest)
    (hs : ∀ zone ∈ f.outstanding, (s.standsAt zone 5).isSome = true) :
    (s.endAll .released (f.outstanding.map fun zone => (zone, 5))).rotation.features.map (·.number) <:+
      rest.map (·.number) := by
  unfold State.endAll State.followUps
  obtain ⟨out, hsub, hout, he⟩ := evaluated_levelFive_features f.outstanding
    ((f.outstanding.map fun zone => (zone, 5)).map (·.1)) hf
  have hnil : out = [] := List.eq_nil_iff_forall_not_mem.mpr fun zone hz => by
    have hst := hs zone (hsub hz)
    rw [hout zone (hsub hz) hz] at hst
    cases hst
  rw [(cardFollow_frame _).rotation, featureFollow_of_cons he, if_pos hnil]
  exact startFeatures_numbers rest _

/-- Level 5 is free in the zones that one event ends it in, where no waiting feature is for one of them (R114, R176). -/
theorem endAll_levelFive_free {f : Feature} {rest : List Feature} (hf : s.rotation.features = f :: rest)
    (hr : ∀ g ∈ rest, g.zones ≠ [] ∧ ∀ z ∈ f.outstanding, z ∉ g.zones) {zone : Nat} (hz : zone ∈ f.outstanding) :
    (s.endAll .released (f.outstanding.map fun zone => (zone, 5))).standsAt zone 5 = none := by
  have hend := endEach_ends .released (f.outstanding.map fun zone => (zone, 5)) s (zone, 5) (List.mem_map.mpr ⟨zone, hz, rfl⟩)
  have heval := (evaluateAll_zoneWise (staysFree_rule 5) _ ((f.outstanding.map fun zone => (zone, 5)).map (·.1))).standsAt hend
  obtain ⟨out, -, -, h⟩ := evaluated_levelFive_features f.outstanding
    ((f.outstanding.map fun zone => (zone, 5)).map (·.1)) hf
  unfold State.endAll
  generalize (s.endEach .released _).evaluateAll _ = v at heval h ⊢
  refine (cardFollow_zoneWise (staysFree_rule 5) (fun f a r hr => staysFree_record f a r (by omega)) _).standsAt ?_
  rw [featureFollow_of_cons h]
  split
  · rw [standsAt_of_zone (startFeatures_zone_other rest v fun g hg => ⟨(hr g hg).1, (hr g hg).2 zone hz⟩)]
    exact heval
  · exact heval

theorem dropWaiting_cons {r : Rotation} {f : Feature} {rest : List Feature} (h : r.features = f :: rest) (n : Nat) :
    r.dropWaiting n = { r with features := f :: rest.filter (·.number != n) } := by
  unfold Rotation.dropWaiting
  rw [h]

theorem featureBreakCancel_waiting {n : Nat} {f : Feature} {rest : List Feature} (hb : s.rotation.breakRecorded = some n)
    (hf : s.rotation.features = f :: rest) (hn : f.number ≠ n) :
    s.featureBreakCancel = s.mapRotation fun r => { r with features := f :: rest.filter (·.number != n), breakRecorded := none } := by
  unfold State.featureBreakCancel
  rw [hb, hf]
  dsimp only
  rw [if_neg hn]
  exact congrArg (fun r : Rotation => ({ s with rotation := { r with breakRecorded := none } } : State)) (dropWaiting_cons hf n)

theorem featureBreakCancel_head {n : Nat} {f : Feature} {rest : List Feature} (hb : s.rotation.breakRecorded = some n)
    (hf : s.rotation.features = f :: rest) (hn : f.number = n) :
    s.featureBreakCancel = (s.endAll .released (f.outstanding.map fun zone => (zone, 5))).mapRotation fun r =>
      { r with breakRecorded := none } := by
  unfold State.featureBreakCancel
  rw [hb, hf]
  dsimp only
  rw [if_pos hn]

theorem featureBreakExpiry_of_some {n : Nat} {f : Feature} {rest : List Feature} (hb : s.rotation.breakRecorded = some n)
    (hf : s.rotation.features = f :: rest) :
    s.featureBreakExpiry = s.mapRotation fun r => { r with features := f :: rest.filter (·.number != n), breakRecorded := none } := by
  unfold State.featureBreakExpiry
  rw [hb]
  exact congrArg (fun r : Rotation => ({ s with rotation := { r with breakRecorded := none } } : State)) (dropWaiting_cons hf n)

/-- A cancel reports each end of the head, where it stands (R114, R177). -/
theorem featureBreakCancel_gains {n : Nat} {f : Feature} {rest : List Feature} (hb : s.rotation.breakRecorded = some n)
    (hf : s.rotation.features = f :: rest) (hn : f.number = n) (hw : s.linksWf) (ho : f.outstanding.Nodup) :
    Gains s s.featureBreakCancel .takeoverEnded (f.outstanding.filterMap fun zone =>
      (s.standsAt zone 5).map fun stood => .takeoverEnded zone 5 .released stood.1 stood.2) := by
  have hitems : (f.outstanding.map fun zone => (zone, 5)).Nodup := ho.map fun a b h => congrArg Prod.fst h
  have h := ((endAll_told s .released _ hitems).next (mapRotation_reports (K := endBeside) _
    fun r => { r with breakRecorded := none })).gains hw
    (c := .takeoverEnded)
  rw [featureBreakCancel_head hb hf hn]
  rw [List.append_nil, detailsOf_kind_map, List.filterMap_map] at h
  exact h

end
end Sys2Proof.Machine

namespace Sys2Proof
open Machine

/-- Settles O52: a record by its owner's tests, a list by the zones that take its features, the break feature by where it
stands. -/
theorem featuresFollowTheirList : Obligations.FeaturesFollowTheirList := by
  refine ⟨⟨fun h sponsor asset duration zones s ha => ?_, fun list s hw hd => ?_, fun s => ⟨featureFollow_of_nil, ?_⟩⟩,
    fun seconds s hne => ?_, fun seconds s hnil => ⟨fun hc => ?_, fun sponsor asset hc => ?_⟩,
    fun n f rest s hb hf => ⟨featureBreakExpiry_of_some hb hf, featureBreakCancel_waiting hb hf, fun hn => ?_⟩,
    fun s hb => ?_⟩
  · rw [exec_shaped ha rfl (featureAddOwner_frame s sponsor asset duration zones) (not_zoneSetCounted zones),
      featureAddOwner_eq, appendFeature_eq]
    dsimp only
    split
    · rfl
    split
    · rfl
    split
    · rfl
    split <;> rfl
  · have hrotation := startFeatures_rotation list s hw hd
    unfold State.untaken at hrotation
    rw [funext (featureTakers_eq (s := s))] at hrotation
    refine ⟨hrotation, startFeatures_frame s list, fun f hf zone hz => ?_⟩
    obtain ⟨y, hy, hr | ⟨q, hq, hc, hfr, hcr⟩⟩ := startFeatures_holds list s hw f hf zone hz
    · exact ⟨y, hy, .inr ⟨_, hr, rfl, rfl, rfl, rfl, rfl⟩⟩
    · exact ⟨y, hy, .inl ⟨q, hq, hc, hfr, hcr⟩⟩
  · intro f rest hf
    rw [featureFollow_of_cons hf]
    exact ⟨fun h => if_neg h, fun h => if_pos h⟩
  · cases hc : s.rotation.breakConfig with
    | none =>
      unfold State.featureBreakStart
      rw [hc]
    | some c =>
      rw [featureBreakStart_of_some hc, appendFeature_eq, if_neg hne]
      dsimp only
      split <;> rfl
  · unfold State.featureBreakStart
    rw [hc]
  · rw [featureBreakStart_of_some hc, appendFeature_eq, if_pos hnil, if_neg (by simp [hnil])]
    unfold State.mapRotation Rotation.join
    rw [hnil]
    rfl
  · refine ⟨featureBreakCancel_frame s, featureBreakCancel_head hb hf hn, featureBreakCancel_gains hb hf hn, fun hs => ?_,
      fun _ hr zone hz => ?_⟩
    · rw [featureBreakCancel_head hb hf hn]
      exact endAll_levelFive_numbers hf hs
    · rw [featureBreakCancel_head hb hf hn]
      exact endAll_levelFive_free hf hr hz
  · unfold State.featureBreakCancel State.featureBreakExpiry
    rw [hb]
    exact ⟨rfl, rfl⟩

end Sys2Proof
end

section
namespace Sys2Proof.Machine

set_option Elab.async false

/-! ## Inputs and rings, one by one -/

theorem getD_set {α : Type} (l : List α) (n m : Nat) (a d : α) :
    (l.set n a).getD m d = if m = n ∧ n < l.length then a else l.getD m d := by
  rw [List.getD_eq_getElem?_getD, List.getElem?_set, List.getD_eq_getElem?_getD]
  by_cases h : n = m
  · subst h
    by_cases hl : n < l.length <;> simp [hl]
  · simp [h, Ne.symm h]

section
variable {s : State} {n m : Nat}

theorem input_mapInput_same (h : n < s.canvas.inputs.length) (f : Input → Input) :
    (s.mapInput n f).input n = f (s.input n) := (getD_set _ n n _ _).trans (if_pos ⟨rfl, h⟩)

theorem input_mapInput_other (h : m ≠ n) (f : Input → Input) : (s.mapInput n f).input m = s.input m :=
  (getD_set _ n m _ _).trans (if_neg fun k => h k.1)

theorem ring_mapRing_same (h : n < s.capture.rings.length) (f : Ring → Ring) : (s.mapRing n f).ring n = f (s.ring n) :=
  (getD_set _ n n _ _).trans (if_pos ⟨rfl, h⟩)

theorem ring_mapRing_other (h : m ≠ n) (f : Ring → Ring) : (s.mapRing n f).ring m = s.ring m :=
  (getD_set _ n m _ _).trans (if_neg fun k => h k.1)

theorem Frame.input {P : List Part} {t : State} (h : Frame P s t) (n : Nat) (hP : P.contains .inputs = false := by decide) :
    t.input n = s.input n := by
  have hi : t.canvas.inputs = s.canvas.inputs := h.same .inputs (by simpa using hP)
  unfold State.input
  rw [hi]

theorem mapInput_reports {K : List Cond} (n : Nat) (f : Input → Input) : Reports K s (s.mapInput n f) [] := .of_links rfl rfl

end

/-! ## Clips that one event loses (R140) -/

/-- What the loss of those clips of `cs` that have a cause makes of the clip table, and what it reports (R140). -/
structure ClipsLost (cause : Clip → Option ClipCause) (seq : Option Nat) (cs : List Clip) (s t : State) : Prop where
  frame : Frame [.clips] s t
  clips : t.replay.clips = s.replay.clips.map fun c =>
    if cs.any fun d => d.id == c.id && (cause d).isSome then { c with state := .lost } else c
  queue : t.replay.saveQueue = s.replay.saveQueue.filter fun i => !(cs.any fun c => c.id == i && (cause c).isSome)
  reports : Reports [] s t (cs.filterMap fun c => (cause c).map fun why =>
    (.clipState, .clipState c.id c.input .lost why seq))

section
variable {cause : Clip → Option ClipCause} {seq : Option Nat} {s t : State}

theorem ClipsLost.nil : ClipsLost cause seq [] s s :=
  ⟨.refl _ s, by simp, by simp, .refl _ s⟩

theorem ClipsLost.skip {c : Clip} {cs : List Clip} (hc : cause c = none) (h : ClipsLost cause seq cs s t) :
    ClipsLost cause seq (c :: cs) s t :=
  ⟨h.frame, by simpa [hc] using h.clips, by simpa [hc] using h.queue, by simpa [hc] using h.reports⟩

theorem ClipsLost.lose {c : Clip} {cs : List Clip} {why : ClipCause} (hc : cause c = some why)
    (h : ClipsLost cause seq cs (s.loseClip why seq c) t) : ClipsLost cause seq (c :: cs) s t where
  frame := (loseClip_frame s why seq c).next h.frame
  clips := by
    rw [h.clips]
    show ((s.replay.clips.map fun d => if d.id = c.id then { d with state := .lost } else d).map _) = _
    rw [List.map_map]
    refine List.map_congr_left fun d _ => ?_
    by_cases hd : d.id = c.id
    · simp [hd, hc]
    · simp [hd, Ne.symm hd]
  queue := by
    rw [h.queue]
    show (s.replay.saveQueue.filter (· != c.id)).filter _ = _
    rw [List.filter_filter]
    refine List.filter_congr fun i _ => ?_
    rw [List.any_cons, hc, Bool.not_or, bne_comm]
    simp [bne, Bool.and_comm]
  reports := by
    have hr : Reports [] s (s.loseClip why seq c) [(.clipState, .clipState c.id c.input .lost why seq)] :=
      (Reports.of_links (t := (s.mapClip c.id fun d => { d with state := .lost }).mapReplay fun r =>
        { r with saveQueue := r.saveQueue.filter (· != c.id) }) rfl rfl).next (.raise (by rfl) _ _)
    rw [List.filterMap_cons, hc]
    exact hr.next h.reports

variable (cause seq)

/-- The loss of the clips of a list that have a cause, one by one. -/
theorem loseClips_lost (cs : List Clip) (s : State) : ClipsLost cause seq cs s (cs.foldl (fun s c =>
    match cause c with
    | some why => s.loseClip why seq c
    | none => s) s) := by
  induction cs generalizing s with
  | nil => exact .nil
  | cons c cs ih =>
    rw [List.foldl_cons]
    cases hc : cause c with
    | none => exact .skip hc (ih s)
    | some why => exact .lose hc (ih _)

variable {cause seq}

/-- A clip of a table of distinct ids is lost exactly where it has a cause itself. -/
theorem any_cause_of_nodup {cs : List Clip} (hn : (cs.map (·.id)).Nodup) {c : Clip} (hc : c ∈ cs) :
    (cs.any fun d => d.id == c.id && (cause d).isSome) = (cause c).isSome := by
  rw [Bool.eq_iff_iff, List.any_eq_true]
  constructor
  · rintro ⟨d, hd, h⟩
    simp only [Bool.and_eq_true, beq_iff_eq] at h
    rw [← List.inj_on_of_nodup_map hn hd hc h.1]
    exact h.2
  · exact fun h => ⟨c, hc, by simp [h]⟩

end

/-! ## Readers that follow at once (R135, R136) -/

theorem syncReaders_follow {s u : State} (hr : u.reader = s.reader) :
    ReadersFollow s u.syncReaders ∧ Reports [] u u.syncReaders (warnings s u.syncReaders) := by
  have k := syncReaders_synced u
  have f := syncReaders_frame u
  have hreads : u.syncReaders.reads = u.reads := reads_congr (.of_frame f)
  refine ⟨fun name => ?_, ?_⟩
  · rw [k.follow, hr, hreads, readerAfter_congr f.ring]
  · rw [warnings_congr (s := u) (t := u) hr.symm hreads f.ring]
    exact k.reports

/-- Something is told, clips that have a cause are lost, and then the readers of `start` follow, where they are synchronised
(R135, R136, R140). -/
structure Followed (cause : Clip → Option ClipCause) (seq : Option Nat) (syncs : Bool) (told : List (Cond × Detail))
    (start s t : State) : Prop where
  clips : t.replay.clips = s.replay.clips.map fun c =>
    if s.replay.clips.any fun d => d.id == c.id && (cause d).isSome then { c with state := .lost } else c
  queue : t.replay.saveQueue =
    s.replay.saveQueue.filter fun i => !(s.replay.clips.any fun c => c.id == i && (cause c).isSome)
  follow : if syncs = true then ReadersFollow start t else t.reader = start.reader
  reports : Reports [] s t (told ++ (s.replay.clips.filterMap fun c => (cause c).map fun why =>
    (.clipState, .clipState c.id c.input .lost why seq)) ++ if syncs = true then warnings start t else [])

section
variable {cause : Clip → Option ClipCause} {seq : Option Nat} {start s t u v : State} {syncs : Bool}
  {a told : List (Cond × Detail)}

theorem ClipsLost.synced (h : ClipsLost cause seq s.replay.clips s v) (hr : s.reader = start.reader) :
    Followed cause seq true [] start s v.syncReaders := by
  obtain ⟨hc, hq⟩ := (syncReaders_frame v).same .clips (by decide)
  obtain ⟨hfollow, hrep⟩ := syncReaders_follow (s := start) (u := v) ((funext h.frame.reader).trans hr)
  exact ⟨hc.trans h.clips, hq.trans h.queue, hfollow, h.reports.next hrep⟩

/-- The same, seen from a state before one that agrees with it in the clip table and the save queue. -/
theorem Followed.before (h : Followed cause seq syncs told start u v) (hc : u.replay.clips = s.replay.clips)
    (hq : u.replay.saveQueue = s.replay.saveQueue) (hr : Reports [] s u a) :
    Followed cause seq syncs (a ++ told) start s v := by
  obtain ⟨h1, h2, h3, h4⟩ := h
  rw [hc] at h1 h2 h4
  rw [hq] at h2
  exact ⟨h1, h2, h3, by simpa using hr.next h4⟩

/-- The same, up to a state after that differs in nothing that clips and readers look at. -/
theorem Followed.after {P : List Part} (h : Followed cause seq syncs told start s t) (hf : Frame P t u)
    (hr : Reports [] t u [])
    (hP : (P.contains .clips || P.contains .channels || P.contains .readers || P.contains .rings) = false := by decide) :
    Followed cause seq syncs told start s u := by
  simp only [Bool.or_eq_false_iff] at hP
  obtain ⟨⟨⟨hclips, hchan⟩, hread⟩, hrings⟩ := hP
  obtain ⟨hc, hq⟩ := hf.same .clips (by simpa using hclips)
  have hreader : u.reader = t.reader := funext fun name => hf.reader name hread
  have hreads : u.reads = t.reads := reads_congr (.of_frame hf (by rw [hclips, hchan]; rfl))
  have hring (n : Nat) : u.ring n = t.ring n := hf.ring n hrings
  refine ⟨hc.trans h.clips, hq.trans h.queue, ?_, ?_⟩
  · have k := h.follow
    split at k
    · rw [if_pos ‹_›]
      exact k.congr rfl hreader hreads hring
    · rw [if_neg ‹_›]
      exact hreader.trans k
  · rw [warnings_congr (s := start) rfl hreads hring]
    simpa using h.reports.next hr

/-- The readers followed are those of any state with the same readers. -/
theorem Followed.from_reader {start' : State} (h : Followed cause seq syncs told start s t) (hr : start'.reader = start.reader) :
    Followed cause seq syncs told start' s t := by
  refine ⟨h.clips, h.queue, ?_, ?_⟩
  · have k := h.follow
    split at k
    · rw [if_pos ‹_›]
      exact k.congr hr rfl rfl fun _ => rfl
    · rw [if_neg ‹_›]
      exact k.trans hr.symm
  · rw [warnings_congr (t := t) hr rfl fun _ => rfl]
    exact h.reports

/-- Where nothing is lost or synchronised. -/
theorem Followed.of_frame {P : List Part} (hf : Frame P s t) (hr : Reports [] s t told) (hc : ∀ c, cause c = none)
    (hP : (P.contains .clips || P.contains .readers) = false := by decide) : Followed cause seq false told s s t := by
  simp only [Bool.or_eq_false_iff] at hP
  obtain ⟨hclips, hq⟩ := hf.same .clips (by simpa using hP.1)
  refine ⟨?_, ?_, funext fun name => hf.reader name hP.2, ?_⟩
  · simp [hclips, hc]
  · rw [hq]
    exact (List.filter_eq_self.mpr fun _ _ => by simp [hc]).symm
  · simpa [hc] using hr

end

/-! ## A capture restart (R134) -/

/-- Why a capture restart of an input loses a clip, if it does (R134). -/
def Clip.restartCause (n : Nat) (c : Clip) : Option ClipCause :=
  if c.input = n ∧ c.uncopied = true then some .captureRestart else none

theorem filter_uncopied_foldl (n : Nat) (cs : List Clip) (s : State) :
    (cs.filter fun c => c.input == n && c.uncopied).foldl (fun s c => s.loseClip .captureRestart none c) s =
      cs.foldl (fun s c => match c.restartCause n with
        | some why => s.loseClip why none c
        | none => s) s := by
  rw [List.foldl_filter]
  congr 1
  funext s c
  unfold Clip.restartCause
  simp only [Bool.and_eq_true, beq_iff_eq]
  split <;> rfl

/-- A ring emptied (R134). -/
def Ring.clear (r : Ring) : Ring := { r with floor := r.w, rate := none }

/-- The ring of an input emptied and its readers disarmed: what a capture restart does before its clips are lost (R134). -/
def State.ringCleared (n : Nat) (s : State) : State :=
  (s.mapRing n Ring.clear).mapCapture fun c =>
    { c with readSave := disarm n c.readSave, readA := disarm n c.readA, readB := disarm n c.readB }

theorem ringCleared_reader (s : State) (n : Nat) : (s.ringCleared n).reader = (s.disarmed n).reader := by
  funext name
  cases name <;> rfl

/-- What a capture restart makes (R134, R140). -/
structure Restarted (n : Nat) (s t : State) : Prop where
  frame : Frame [.rings, .readers, .clips] s t
  ring : t.ring n = (s.ring n).clear
  rings : ∀ m, m ≠ n → t.ring m = s.ring m
  lost : Followed (Clip.restartCause n) none true [] (s.disarmed n) s t

theorem captureRestart_restarted {s : State} {n : Nat} (hn : n < s.capture.rings.length) :
    Restarted n s (s.captureRestart n) := by
  obtain ⟨v, hv, he⟩ : ∃ v, ClipsLost (Clip.restartCause n) none s.replay.clips (s.ringCleared n) v ∧
      s.captureRestart n = v.syncReaders :=
    ⟨_, loseClips_lost (Clip.restartCause n) none s.replay.clips (s.ringCleared n),
      congrArg State.syncReaders (filter_uncopied_foldl n s.replay.clips (s.ringCleared n))⟩
  have hring (m : Nat) : (s.captureRestart n).ring m = (s.ringCleared n).ring m := by
    rw [he, (syncReaders_frame v).ring, hv.frame.ring]
  refine ⟨captureRestart_frame s n, (hring n).trans (ring_mapRing_same hn Ring.clear),
    fun m hm => (hring m).trans (ring_mapRing_other hm Ring.clear), ?_⟩
  rw [he]
  exact Followed.before (s := s) (a := []) (ClipsLost.synced hv (ringCleared_reader s n)) rfl rfl (.of_links rfl rfl)

/-! ## A frame written to its ring (R130, R131, R146) -/

/-- Why a write to the ring of an input loses a clip, if it does (R130, R140, R146). -/
def Clip.writeCause (n : Nat) (r : Ring) (c : Clip) : Option ClipCause :=
  if c.input = n ∧ 0 < r.size ∧ r.floor + r.size ≤ r.w then c.overwriteCause (r.w - r.size) else none

/-- A ring after one more frame of the rate given (R130, R131). -/
def Ring.write (rate : Rate) (r : Ring) : Ring := { r with w := r.w + 1, rate := some (r.rate.getD rate) }

/-- What a write to the ring of an input makes, where it has one. -/
structure Written (n : Nat) (s t : State) : Prop where
  frame : Frame [.rings, .clips, .readers] s t
  ring : t.ring n = (s.ring n).write (s.input n).rate
  rings : ∀ m, m ≠ n → t.ring m = s.ring m
  lost : Followed (Clip.writeCause n (s.ring n)) (some ((s.ring n).w - (s.ring n).size)) true [] s s t

theorem writeFrame_of_empty {s : State} {n : Nat} (h : (s.ring n).size = 0) : s.writeFrame n = s := if_pos h

theorem overwriteReport_lost {s u : State} {n : Nat} {r : Ring} (h0 : r.size ≠ 0) (hu : u.replay = s.replay) :
    ClipsLost (Clip.writeCause n r) (some (r.w - r.size)) s.replay.clips u
      (if r.floor + r.size ≤ r.w then u.overwriteReport n (r.w - r.size) else u) := by
  by_cases h : r.floor + r.size ≤ r.w
  · rw [if_pos h]
    have hc : Clip.writeCause n r = fun c => if c.input = n then c.overwriteCause (r.w - r.size) else none := by
      funext c
      simp [Clip.writeCause, h, Nat.pos_of_ne_zero h0]
    rw [hc, ← hu]
    exact loseClips_lost _ (some (r.w - r.size)) u.replay.clips u
  · rw [if_neg h]
    have hc : Clip.writeCause n r = fun _ => none := by
      funext c
      simp [Clip.writeCause, h]
    rw [hc]
    exact ⟨.refl _ u, by simp, (List.filter_eq_self.mpr fun _ _ => by simp).symm, by simpa using Reports.refl [] u⟩

theorem writeFrame_written {s : State} {n : Nat} (hn : n < s.capture.rings.length) (h : (s.ring n).size ≠ 0) :
    Written n s (s.writeFrame n) := by
  have hv := overwriteReport_lost (n := n) (u := s.mapRing n (Ring.write (s.input n).rate)) (s := s) h rfl
  obtain ⟨v, hv, he⟩ : ∃ v, ClipsLost (Clip.writeCause n (s.ring n)) (some ((s.ring n).w - (s.ring n).size))
      s.replay.clips (s.mapRing n (Ring.write (s.input n).rate)) v ∧ s.writeFrame n = v.syncReaders := ⟨_, hv, if_neg h⟩
  have hring (m : Nat) : (s.writeFrame n).ring m = (s.mapRing n (Ring.write (s.input n).rate)).ring m := by
    rw [he, (syncReaders_frame v).ring, hv.frame.ring]
  refine ⟨writeFrame_frame s n, (hring n).trans (ring_mapRing_same hn _),
    fun m hm => (hring m).trans (ring_mapRing_other hm _), ?_⟩
  rw [he]
  exact Followed.before (s := s) (a := []) (ClipsLost.synced hv (funext fun name => (mapRing_frame s n _).reader name)) rfl rfl
    (.of_links rfl rfl)

/-! ## A valid frame captured (R91, R129) -/

/-- An input with one more frame captured (R91, R129). -/
def Input.capture (i : Input) : Input := { i with latest := some i.captured, captured := i.captured + 1 }

/-- What a captured frame makes of its input and its ring. -/
structure Captured (n : Nat) (s t : State) : Prop where
  frame : Frame [.inputs, .rings, .clips, .readers] s t
  own : t.input n = (s.input n).capture
  inputs : ∀ m, m ≠ n → t.input m = s.input m
  ring : t.ring n = if (s.ring n).size = 0 then s.ring n else (s.ring n).write (s.input n).rate
  rings : ∀ m, m ≠ n → t.ring m = s.ring m
  lost : Followed (Clip.writeCause n (s.ring n)) (some ((s.ring n).w - (s.ring n).size)) (decide (0 < (s.ring n).size)) []
    s s t

theorem captureFrame_captured {s : State} {n : Nat} (hn : n < 4) (hw : s.tablesWf) : Captured n s (s.captureFrame n) := by
  have hi : n < s.canvas.inputs.length := by rw [hw.inputs]; exact hn
  have hr : n < s.capture.rings.length := by rw [hw.rings]; exact hn
  have hfu := mapInput_frame s n Input.capture
  have hown := input_mapInput_same hi Input.capture
  have hothers (m : Nat) (hm : m ≠ n) := input_mapInput_other hm (s := s) Input.capture
  have hframe : Frame [.inputs, .rings, .clips, .readers] s (s.captureFrame n) := captureFrame_frame s n
  have he : s.captureFrame n = (s.mapInput n Input.capture).writeFrame n := rfl
  by_cases h0 : (s.ring n).size = 0
  · rw [writeFrame_of_empty (s := s.mapInput n Input.capture) h0] at he
    rw [he] at hframe ⊢
    refine ⟨hframe, hown, hothers, (if_pos h0).symm, fun _ _ => rfl, ?_⟩
    rw [decide_eq_false (by omega)]
    exact .of_frame hfu (.of_links rfl rfl) fun c => by simp [Clip.writeCause, h0]
  · have k := writeFrame_written (s := s.mapInput n Input.capture) hr h0
    rw [← he] at k
    refine ⟨hframe, (k.frame.input n).trans hown, fun m hm => (k.frame.input m).trans (hothers m hm), ?_, k.rings, ?_⟩
    · rw [if_neg h0, k.ring, hown]
      rfl
    · rw [decide_eq_true (Nat.pos_of_ne_zero h0)]
      exact Followed.before (s := s) (a := []) (k.lost.from_reader (start' := s) (funext fun name => (hfu.reader name).symm))
        rfl rfl (.of_links rfl rfl)

end Sys2Proof.Machine
end

section
namespace Sys2Proof.Machine

set_option Elab.async false

/-! ## What the loss of clips makes of the condition CLIP_STATE (R12, R140) -/

/-- A list of occurrences gained leaves its condition pending, with the last of them. -/
theorem gained_last {e : CondEntry} {ds : List Detail} {d : Detail} (h : ds.getLast? = some d) :
    (e.gained ds).pending = true ∧ (e.gained ds).count = min 255 (e.count + ds.length) ∧ (e.gained ds).latest = d := by
  cases ds with
  | nil => cases h
  | cons x xs =>
    have hg : e.gained (x :: xs) =
        ⟨true, min 255 (e.count + (x :: xs).length), if e.pending then e.first else x, d⟩ := by
      unfold CondEntry.gained
      rw [h]
      rfl
    rw [hg]
    exact ⟨rfl, rfl, rfl⟩

theorem detailsOf_filterMap (c : Cond) {α : Type} (f : α → Option Detail) (l : List α) :
    detailsOf c (l.filterMap fun a => (f a).map fun d => (c, d)) = l.filterMap f := by
  rw [detailsOf_of_kind fun e he => by obtain ⟨a, -, ha⟩ := List.mem_filterMap.mp he; aesop, List.map_filterMap]
  refine List.filterMap_congr fun a _ => ?_
  cases f a <;> rfl

/-- The last item with an image, and the number of images. -/
theorem filterMap_getLast {α β : Type} (f : α → Option β) (l : List α) :
    (l.filterMap f).length = (l.filter fun a => (f a).isSome).length ∧
      ∀ a ∈ (l.filter fun a => (f a).isSome).getLast?, (l.filterMap f).getLast? = f a := by
  induction l using List.reverseRecOn with
  | nil => exact ⟨rfl, nofun⟩
  | append_singleton l x ih =>
    obtain ⟨hl, hlast⟩ := ih
    rw [List.filterMap_append, List.filter_append]
    cases hx : f x with
    | none =>
      have hf : [x].filter (fun a => (f a).isSome) = [] := by simp [hx]
      have hm : [x].filterMap f = [] := by simp [hx]
      rw [hf, hm, List.append_nil, List.append_nil]
      exact ⟨hl, hlast⟩
    | some y => simp [hx, hl]

section
variable {cause : Clip → Option ClipCause} {seq : Option Nat} {syncs : Bool} {told : List (Cond × Detail)} {start s t : State}

/-- The reports of lost clips, alone (R140). -/
theorem Followed.clipState (h : Followed cause seq syncs told start s t) (hw : s.linksWf)
    (ht : detailsOf .clipState told = []) :
    Gains s t .clipState (s.replay.clips.filterMap fun c => (cause c).map fun why => .clipState c.id c.input .lost why seq) := by
  have hg := h.reports.gains hw (c := .clipState)
  have hd := detailsOf_filterMap .clipState (fun c : Clip => (cause c).map fun why =>
    (.clipState c.id c.input .lost why seq : Detail)) s.replay.clips
  simp only [Option.map_map, Function.comp_def] at hd
  rw [detailsOf_append, detailsOf_append, ht, hd, List.nil_append] at hg
  cases syncs
  · simpa [detailsOf] using hg
  · rw [if_pos rfl, detailsOf_of_other (fun _ he => warnings_kind _ he) (by decide), List.append_nil] at hg
    exact hg

/-- The warnings of the readers that follow, alone (R136). -/
theorem Followed.nearOvertake (h : Followed cause seq syncs told start s t) (hw : s.linksWf)
    (ht : detailsOf .nearOvertake told = []) :
    Gains s t .nearOvertake (if syncs = true then (warnings start t).map (·.2) else []) := by
  have hg := h.reports.gains hw (c := .nearOvertake)
  rw [detailsOf_append, detailsOf_append, ht, List.nil_append, detailsOf_of_other (k := .clipState) (fun e he => by
    obtain ⟨c, -, hc⟩ := List.mem_filterMap.mp he
    obtain ⟨why, -, rfl⟩ := Option.map_eq_some_iff.mp hc
    rfl) (by decide), List.nil_append] at hg
  cases syncs
  · simpa [detailsOf] using hg
  · rw [if_pos rfl, detailsOf_of_kind fun _ he => warnings_kind _ he] at hg
    exact hg

/-- What is told before the clips are lost, of its own kind. -/
theorem Followed.told_gains (h : Followed cause seq syncs told start s t) (hw : s.linksWf) {c : Cond}
    (hc : c ≠ .clipState) (hn : c ≠ .nearOvertake) : Gains s t c (detailsOf c told) := by
  have hg := h.reports.gains hw (c := c) rfl
  rw [detailsOf_append, detailsOf_append, detailsOf_of_other (k := .clipState) (es := s.replay.clips.filterMap _) (fun e he => by
    obtain ⟨c, -, hc⟩ := List.mem_filterMap.mp he
    obtain ⟨why, -, rfl⟩ := Option.map_eq_some_iff.mp hc
    rfl) hc.symm, List.append_nil] at hg
  cases syncs
  · simpa [detailsOf] using hg
  · rw [if_pos rfl, detailsOf_of_other (fun _ he => warnings_kind _ he) hn.symm, List.append_nil] at hg
    exact hg

/-- What an event that loses clips of one input makes of the table, the save queue and the condition CLIP_STATE (R140). -/
theorem Followed.loses (h : Followed cause seq syncs told start s t) (hn : (s.replay.clips.map (·.id)).Nodup)
    (ht : detailsOf .clipState told = []) {n : Nat} (hi : ∀ c, (cause c).isSome = true → c.input = n) :
    t.replay.clips = (s.replay.clips.map fun c => if (cause c).isSome then { c with state := .lost } else c) ∧
    t.replay.saveQueue =
      (s.replay.saveQueue.filter fun id => !(s.replay.clips.any fun c => c.id == id && (cause c).isSome)) ∧
    (s.linksWf → ∀ c ∈ (s.replay.clips.filter fun c => (cause c).isSome).getLast?, ∀ link,
      let x := (t.link link).entry .clipState
      x.pending = true ∧
      x.count = min 255 (((s.link link).entry .clipState).count + (s.replay.clips.filter fun c => (cause c).isSome).length) ∧
      ∀ why ∈ cause c, x.latest = .clipState c.id n .lost why seq) := by
  refine ⟨?_, h.queue, fun hw c hc link => ?_⟩
  · rw [h.clips]
    exact List.map_congr_left fun c hc => by rw [any_cause_of_nodup hn hc]
  · obtain ⟨hlen, hlast⟩ := filterMap_getLast (fun c : Clip => (cause c).map fun why =>
      (.clipState c.id c.input .lost why seq : Detail)) s.replay.clips
    simp only [Option.isSome_map] at hlen hlast
    have hsome : (cause c).isSome = true := (List.mem_filter.mp (List.mem_of_getLast? hc)).2
    obtain ⟨why, hwhy⟩ := Option.isSome_iff_exists.mp hsome
    have hd := hlast c hc
    rw [hwhy] at hd
    obtain ⟨h1, h2, h3⟩ := gained_last (e := (s.link link).entry .clipState) hd
    rw [h.clipState hw ht link, ← hlen]
    refine ⟨h1, h2, fun why' hw' => ?_⟩
    rw [h3, ← hi c hsome]
    rw [hwhy] at hw'
    cases hw'
    rfl

end

end Sys2Proof.Machine
end

section
namespace Sys2Proof.Machine

set_option Elab.async false

/-! ## The signal becomes PRESENT (R94, R131) -/

/-- An input whose signal has become PRESENT (R94). -/
def Input.detect (i : Input) : Input :=
  { i with signal := true, validRun := 8, loss := .live, holdFrames := 0, held := none }

/-- An input whose signal is lost, its hold begun (R94, R95). -/
def Input.lose (frames : Nat) (i : Input) : Input :=
  { i with signal := false, validRun := 0, loss := .holding, holdFrames := frames, held := i.latest }

/-- The ring of an input holds frames of another rate (R131). -/
def State.otherRate (s : State) (n : Nat) : Bool := (s.ring n).rate.any fun rate => rate != (s.input n).rate

/-- The input whose signal is found, and its report, before a restart (R94). -/
def State.signalFound (n : Nat) (s : State) : State := (s.mapInput n Input.detect).raiseSignal n .detected

section
variable {s t u : State} {n : Nat}

theorem signalFound_input (hn : n < s.canvas.inputs.length) : (s.signalFound n).input n = (s.input n).detect :=
  input_mapInput_same hn Input.detect

theorem signalFound_tables (s : State) (n : Nat) : TablesKept s (s.signalFound n) :=
  (mapInput_tables s n _).frame (raiseSignal_frame _ n _)

theorem detectSignal_eq (hn : n < s.canvas.inputs.length) :
    s.detectSignal n = if s.otherRate n = true then (s.signalFound n).captureRestart n else s.signalFound n := by
  have hrate : ((s.signalFound n).input n).rate = (s.input n).rate := by
    rw [signalFound_input hn]
    rfl
  have hring : (s.signalFound n).ring n = s.ring n := rfl
  have he : s.detectSignal n = (match ((s.signalFound n).ring n).rate with
    | some rate => if rate = ((s.signalFound n).input n).rate then s.signalFound n else (s.signalFound n).captureRestart n
    | none => s.signalFound n) := rfl
  rw [he, hrate, hring]
  unfold State.otherRate
  cases (s.ring n).rate with
  | none => rfl
  | some rate => by_cases h : rate = (s.input n).rate <;> simp [h]

/-- A reader whose margin and threshold stand follows as it did. -/
theorem readerAfter_of_margins (hm : ∀ w, t.marginOf w = s.marginOf w) (ht : ∀ w, t.thresholdOf w = s.thresholdOf w) :
    t.readerAfter = s.readerAfter ∧ t.warningOf = s.warningOf := by
  refine ⟨?_, ?_⟩
  · funext old want
    unfold State.readerAfter
    simp only [hm, ht]
  · funext name old want
    unfold State.warningOf
    simp only [hm, ht]

/-- Readers that have followed and then follow again, with the same to read at the same margins, stand and warn of nothing
more (R135, R136). -/
theorem follow_again {start : State} (h : ReadersFollow start u) (k : ReadersFollow u t) (hreads : t.reads = u.reads)
    (hm : ∀ w, t.marginOf w = u.marginOf w) (ht : ∀ w, t.thresholdOf w = u.thresholdOf w) :
    ReadersFollow start t ∧ warnings u t = [] ∧ warnings start t = warnings start u := by
  obtain ⟨ha, hw⟩ := readerAfter_of_margins hm ht
  refine ⟨fun name => ?_, ?_, ?_⟩
  · rw [k name, ha, hreads, h name, readerAfter_again]
  · refine List.flatMap_eq_nil_iff.mpr fun name _ => ?_
    rw [hw, hreads, h name, warningOf_again]
  · unfold warnings
    rw [hw, hreads]

/-- The frame written right after a restart is the oldest one and moves no margin (R130, R134, R135). -/
theorem oldest_write_clear {r : Ring} (h : r.size ≠ 0) (rate : Rate) : (r.clear.write rate).oldest = r.clear.oldest := by
  unfold Ring.oldest Ring.write Ring.clear
  dsimp only
  omega

/-- What the synchronised frame that follows a restart of its ring leaves as it was (R130, R134). -/
theorem Followed.again {cause none' : Clip → Option ClipCause} {seq seq' : Option Nat} {told : List (Cond × Detail)}
    {start : State} (h : Followed cause seq true told start s u) (k : Followed none' seq' true [] u u t)
    (hnone : ∀ c, none' c = none) (hchan : t.chan = u.chan) (hm : ∀ w, t.marginOf w = u.marginOf w)
    (ht : ∀ w, t.thresholdOf w = u.thresholdOf w) : Followed cause seq true told start s t := by
  have hclips : t.replay.clips = u.replay.clips := by simpa [hnone] using k.clips
  have hqueue : t.replay.saveQueue = u.replay.saveQueue :=
    k.queue.trans (List.filter_eq_self.mpr fun _ _ => by simp [hnone])
  have hreads : t.reads = u.reads := reads_congr ⟨hclips, hqueue, fun ch => by rw [hchan]; exact ⟨rfl, rfl⟩⟩
  obtain ⟨hfollow, hquiet, hwarn⟩ := follow_again h.follow k.follow hreads hm ht
  refine ⟨hclips.trans h.clips, hqueue.trans h.queue, hfollow, ?_⟩
  have hr := h.reports.next k.reports
  rw [hwarn]
  simpa [hnone, hquiet] using hr

theorem captureFrame_of_empty (h : (s.ring n).size = 0) : s.captureFrame n = s.mapInput n Input.capture :=
  writeFrame_of_empty (s := s.mapInput n Input.capture) h

theorem margins_of_rings (h : ∀ m, (t.ring m).oldest = (u.ring m).oldest ∧ (t.ring m).threshold = (u.ring m).threshold) :
    (∀ w, t.marginOf w = u.marginOf w) ∧ ∀ w, t.thresholdOf w = u.thresholdOf w := by
  refine ⟨fun w => ?_, fun w => ?_⟩
  · unfold State.marginOf
    rw [(h w.input).1]
  · unfold State.thresholdOf
    rw [(h w.input).2]

/-- Why the first captured frame of a signal loses a clip, if it does (R131, R134, R140). -/
def State.foundCause (s : State) (n : Nat) : Clip → Option ClipCause :=
  if s.otherRate n = true then Clip.restartCause n else Clip.writeCause n (s.ring n)

/-- What a signal found and its first frame captured make (R94, R129 to R131). -/
structure Found (n : Nat) (s t : State) : Prop where
  own : t.input n = (s.input n).detect.capture
  ring : t.ring n =
    let r := if s.otherRate n = true then (s.ring n).clear else s.ring n
    if r.size = 0 then r else r.write (s.input n).rate
  lost : Followed (s.foundCause n) (if s.otherRate n = true then none else some ((s.ring n).w - (s.ring n).size))
    (s.otherRate n || decide (0 < (s.ring n).size)) [(.inputSignal, .inputSignal n true .detected (s.ring n).w)]
    (if s.otherRate n = true then s.disarmed n else s) s t

theorem signalFound_reports (hn : n < s.canvas.inputs.length) :
    Reports [] s (s.signalFound n) [(.inputSignal, .inputSignal n true .detected (s.ring n).w)] := by
  have hi : ((s.mapInput n Input.detect).input n).signal = true := congrArg Input.signal (input_mapInput_same hn Input.detect)
  have hr : Reports [] (s.mapInput n Input.detect) (s.signalFound n)
      [(.inputSignal, .inputSignal n ((s.mapInput n Input.detect).input n).signal .detected (s.ring n).w)] := .raise rfl _ _
  rw [hi] at hr
  exact (mapInput_reports n _).next hr

theorem found_same (hn : n < 4) (hw : s.tablesWf) (ho : s.otherRate n = false) :
    Found n s ((s.signalFound n).captureFrame n) := by
  have hi : n < s.canvas.inputs.length := by rw [hw.inputs]; exact hn
  have hown := signalFound_input hi
  have hu : (s.signalFound n).tablesWf := (signalFound_tables s n).tablesWf hw
  have k := captureFrame_captured hn hu
  refine ⟨k.own.trans (congrArg Input.capture hown), ?_, ?_⟩
  · rw [k.ring, hown]
    simp only [ho, Bool.false_eq_true, if_false]
    rfl
  · unfold State.foundCause
    simp only [ho, Bool.false_eq_true, if_false, Bool.false_or]
    exact Followed.before (s := s) (k.lost.from_reader (start' := s) rfl) rfl rfl (signalFound_reports hi)

theorem found_other (hn : n < 4) (hw : s.tablesWf) (ho : s.otherRate n = true) :
    Found n s (((s.signalFound n).captureRestart n).captureFrame n) := by
  have hi : n < s.canvas.inputs.length := by rw [hw.inputs]; exact hn
  have hown := signalFound_input hi
  have hf := signalFound_tables s n
  have hr := captureRestart_restarted (s := s.signalFound n) (n := n) (by rw [(hf.tablesWf hw).rings]; exact hn)
  have hu : ((s.signalFound n).captureRestart n).tablesWf := (hf.trans (captureRestart_tables _ n)).tablesWf hw
  have hlost : Followed (Clip.restartCause n) none true [(.inputSignal, .inputSignal n true .detected (s.ring n).w)]
      (s.disarmed n) s ((s.signalFound n).captureRestart n) :=
    Followed.before (s := s) (hr.lost.from_reader (start' := s.disarmed n) rfl) rfl rfl (signalFound_reports hi)
  have hring : ((s.signalFound n).captureRestart n).ring n = (s.ring n).clear := hr.ring
  have hinput : ((s.signalFound n).captureRestart n).input n = (s.input n).detect := (hr.frame.input n).trans hown
  generalize (s.signalFound n).captureRestart n = u at hu hlost hring hinput
  have k := captureFrame_captured hn hu
  have hfound : s.foundCause n = Clip.restartCause n := if_pos ho
  refine ⟨by rw [k.own, hinput], ?_, ?_⟩
  · rw [k.ring, hring, hinput, if_pos ho]
    rfl
  · rw [hfound, if_pos ho, if_pos ho, ho, Bool.true_or]
    by_cases h0 : (u.ring n).size = 0
    · rw [captureFrame_of_empty h0]
      exact hlost.after (mapInput_frame u n _) (.of_links rfl rfl)
    · have hl := k.lost
      rw [decide_eq_true (Nat.pos_of_ne_zero h0)] at hl
      obtain ⟨hm, ht⟩ := margins_of_rings (u := u) (t := u.captureFrame n) fun m => by
        by_cases hmn : m = n
        · subst hmn
          rw [k.ring, if_neg h0, hring]
          exact ⟨oldest_write_clear (r := s.ring m) (by rw [hring] at h0; exact h0) _, rfl⟩
        · rw [k.rings m hmn]
          exact ⟨rfl, rfl⟩
      refine hlost.again hl (fun c => if_neg fun hc => ?_) (funext fun ch => k.frame.chan ch) hm ht
      rw [hring] at hc h0
      exact h0 (by have := hc.2.2; unfold Ring.clear at this ⊢; dsimp only at this ⊢; omega)

theorem cameraFrame_found (hn : n < 4) (hw : s.tablesWf) (hen : (s.input n).enabled = true) (hs : (s.input n).signal = false)
    (hv : 8 ≤ (s.input n).validRun + 1) : Found n s (s.cameraFrame n true) := by
  have he : s.cameraFrame n true = (s.detectSignal n).captureFrame n := by
    unfold State.cameraFrame
    simp [hen, hs, hv]
  rw [he, detectSignal_eq (by rw [hw.inputs]; exact hn)]
  cases ho : s.otherRate n with
  | true => exact found_other hn hw ho
  | false => exact found_same hn hw ho

/-! ## The other camera events, by enable and signal (R94, R95) -/

theorem cameraFrame_disabled (h : (s.input n).enabled = false) (valid : Bool) : s.cameraFrame n valid = s := by
  unfold State.cameraFrame
  simp [h]

theorem cameraFrame_absent (h : (s.input n).enabled = true) (hs : (s.input n).signal = false) :
    s.cameraFrame n false = s.mapInput n fun i => { i with validRun := 0 } := by
  unfold State.cameraFrame
  simp [h, hs]

theorem cameraFrame_running (h : (s.input n).enabled = true) (hs : (s.input n).signal = false)
    (hv : (s.input n).validRun + 1 < 8) :
    s.cameraFrame n true = s.mapInput n fun i => { i with validRun := i.validRun + 1 } := by
  unfold State.cameraFrame
  simp [h, hs, Nat.not_le.mpr hv]

theorem cameraFrame_present (h : (s.input n).enabled = true) (hs : (s.input n).signal = true) :
    s.cameraFrame n true = s.captureFrame n ∧ s.cameraFrame n false = s.loseSignal n := by
  unfold State.cameraFrame
  simp [h, hs]

theorem loseSignal_eq (hn : n < s.canvas.inputs.length) : s.loseSignal n =
    (s.mapInput n (Input.lose (s.toFrames 2000))).raise .inputSignal (.inputSignal n false .lost (s.ring n).w) := by
  have hi : ((s.mapInput n (Input.lose (s.toFrames 2000))).input n).signal = false :=
    congrArg Input.signal (input_mapInput_same hn _)
  have he : s.loseSignal n = (s.mapInput n (Input.lose (s.toFrames 2000))).raise .inputSignal
    (.inputSignal n ((s.mapInput n (Input.lose (s.toFrames 2000))).input n).signal .lost (s.ring n).w) := rfl
  rw [he, hi]

theorem signalTimeout_eq (s : State) (n : Nat) : s.signalTimeout n =
    if (s.input n).enabled = false then s
    else if (s.input n).signal = true then s.loseSignal n else s.mapInput n fun i => { i with validRun := 0 } := by
  unfold State.signalTimeout
  simp

end

end Sys2Proof.Machine
end

section
namespace Sys2Proof.Machine

set_option Elab.async false

/-! ## One input takes its part of an INPUT_CONFIG (R93) -/

/-- What a setting makes of an input (R93). -/
def Input.configured (c : InputSetting) (i : Input) : Input :=
  if i.enabled = true ∧ c.enable = true ∧ c.rate = i.rate then i
  else if i.enabled = true ∨ c.enable = true then
    { i with
      enabled := c.enable, rate := c.rate, signal := false, validRun := 0, loss := .slated, holdFrames := 0, held := none }
  else { i with rate := c.rate }

/-- A setting restarts the ring of an input (R93, R134). -/
def State.restarts (s : State) (n : Nat) (c : InputSetting) : Bool :=
  (s.input n).enabled && c.enable && decide ((s.input n).rate ≠ c.rate) && decide (0 < (s.ring n).size)

/-- What a setting reports of the signal of an input (R93, R94). -/
def State.signalTold (s : State) (n : Nat) (c : InputSetting) : List Detail :=
  if (s.input n).enabled = true ∧ (s.input n).signal = true ∧ c.enable = false then
    [.inputSignal n false .disabled (s.ring n).w]
  else if (s.input n).enabled = true ∧ (s.input n).signal = true ∧ (s.input n).rate ≠ c.rate then
    [.inputSignal n false .rate (s.ring n).w]
  else []

/-- Why a setting loses a clip, if it does (R134). -/
def State.configCause (s : State) (n : Nat) (c : InputSetting) : Clip → Option ClipCause :=
  if s.restarts n c = true then Clip.restartCause n else fun _ => none

/-- What the part of an INPUT_CONFIG for one input makes (R93, R134). -/
structure Configured (n : Nat) (c : InputSetting) (s t : State) : Prop where
  frame : Frame [.inputs, .rings, .clips, .readers] s t
  still : s.restarts n c = false → Frame [.inputs] s t
  tables : TablesKept s t
  own : t.input n = (s.input n).configured c
  inputs : ∀ m, m ≠ n → t.input m = s.input m
  ring : t.ring n = if s.restarts n c = true then (s.ring n).clear else s.ring n
  rings : ∀ m, m ≠ n → t.ring m = s.ring m
  lost : Followed (s.configCause n c) none (s.restarts n c) ((s.signalTold n c).map fun d => (.inputSignal, d))
    (if s.restarts n c = true then s.disarmed n else s) s t

section
variable {s u : State} {n : Nat} {c : InputSetting} {f : Input → Input}

theorem Configured.of_still (hn : n < s.canvas.inputs.length) (hf : f (s.input n) = (s.input n).configured c)
    (hr : s.restarts n c = false) (hu : Frame [] (s.mapInput n f) u)
    (hrep : Reports [] s u ((s.signalTold n c).map fun d => (.inputSignal, d))) : Configured n c s u := by
  have hframe : Frame [.inputs] s u := (mapInput_frame s n f).next hu
  refine ⟨.mono hframe, fun _ => hframe, (mapInput_tables s n f).frame hu,
    (hu.input n).trans ((input_mapInput_same hn f).trans hf),
    fun m hm => (hu.input m).trans (input_mapInput_other hm f), ?_, fun m _ => hframe.ring m, ?_⟩
  · rw [hr]
    exact hframe.ring n
  · unfold State.configCause
    simp only [hr, Bool.false_eq_true, if_false]
    exact .of_frame hframe hrep fun _ => rfl

theorem Configured.of_restart (hi : n < s.canvas.inputs.length) (hn : n < s.capture.rings.length)
    (hf : f (s.input n) = (s.input n).configured c) (hr : s.restarts n c = true) (hu : Frame [] (s.mapInput n f) u)
    (hreplay : u.replay = s.replay) (hrep : Reports [] s u ((s.signalTold n c).map fun d => (.inputSignal, d))) :
    Configured n c s (u.captureRestart n) := by
  have hframe : Frame [.inputs] s u := (mapInput_frame s n f).next hu
  have htables : TablesKept s u := (mapInput_tables s n f).frame hu
  have hrings : u.capture.rings = s.capture.rings := hframe.same .rings (by decide)
  have k := captureRestart_restarted (s := u) (n := n) (by rw [hrings]; exact hn)
  refine ⟨(Frame.mono hframe).next k.frame, fun h => ?_, htables.trans (captureRestart_tables u n),
    (k.frame.input n).trans ((hu.input n).trans ((input_mapInput_same hi f).trans hf)),
    fun m hm => (k.frame.input m).trans ((hu.input m).trans (input_mapInput_other hm f)), ?_,
    fun m hm => (k.rings m hm).trans (hframe.ring m), ?_⟩
  · rw [hr] at h
    cases h
  · rw [if_pos hr, k.ring, hframe.ring n]
  · unfold State.configCause
    rw [if_pos hr, if_pos hr, hr]
    have hread : (s.disarmed n).reader = (u.disarmed n).reader := by
      obtain ⟨h1, h2, h3⟩ := hframe.readers
      funext name
      cases name
      · exact congrArg (disarm n) h1.symm
      · exact congrArg (disarm n) h2.symm
      · exact congrArg (disarm n) h3.symm
    have h := Followed.before (s := s) (k.lost.from_reader hread) (congrArg Replay.clips hreplay)
      (congrArg Replay.saveQueue hreplay) hrep
    rwa [List.append_nil] at h

/-- The report of a signal that a setting ends (R93, R94). -/
theorem raiseSignal_off (hn : n < s.canvas.inputs.length) (hf : f (s.input n) = (s.input n).configured c)
    (hoff : ((s.input n).configured c).signal = false) (cause : SignalCause) :
    Reports [] s ((s.mapInput n f).raiseSignal n cause) [(.inputSignal, .inputSignal n false cause (s.ring n).w)] := by
  have hi : ((s.mapInput n f).input n).signal = false := by rw [input_mapInput_same hn, hf, hoff]
  have hr : Reports [] (s.mapInput n f) ((s.mapInput n f).raiseSignal n cause)
    [(.inputSignal, .inputSignal n ((s.mapInput n f).input n).signal cause (s.ring n).w)] := .raise rfl _ _
  rw [hi] at hr
  exact (mapInput_reports n f).next hr

/-- An enabled input that another rate is given while it stays enabled (R93, R134). -/
theorem configureInput_rerated (hi : n < s.canvas.inputs.length) (hn : n < s.capture.rings.length)
    (he : (s.input n).enabled = true) (hc : c.enable = true) (hrate : c.rate ≠ (s.input n).rate) :
    let off := s.mapInput n fun i =>
      { i with signal := false, validRun := 0, loss := .slated, holdFrames := 0, held := none, rate := c.rate }
    let u := if (s.input n).signal = true then off.raiseSignal n .rate else off
    Configured n c s (if 0 < (u.ring n).size then u.captureRestart n else u) := by
  intro off u
  have hf : ({ s.input n with
      signal := false, validRun := 0, loss := .slated, holdFrames := 0, held := none, rate := c.rate } : Input) =
      (s.input n).configured c := by simp [Input.configured, he, hc, hrate]
  have hoff : ((s.input n).configured c).signal = false := by rw [← hf]
  have hu : Frame [] off u := .ite (raiseSignal_frame _ _ _) (.refl _ _)
  have hreplay : u.replay = s.replay := by
    show (if _ then _ else _ : State).replay = _
    split <;> rfl
  have hring : u.ring n = s.ring n := hu.ring n
  have hrep : Reports [] s u ((s.signalTold n c).map fun d => (.inputSignal, d)) := by
    show Reports [] s (if _ then _ else _) _
    split
    · next hs => simpa [State.signalTold, he, hc, hs, Ne.symm hrate] using raiseSignal_off hi hf hoff .rate
    · next hs => simpa [State.signalTold, hs] using mapInput_reports n _
  have hrestarts : s.restarts n c = decide (0 < (s.ring n).size) := by simp [State.restarts, he, hc, Ne.symm hrate]
  rw [hring]
  by_cases h0 : 0 < (s.ring n).size
  · rw [if_pos h0]
    exact .of_restart hi hn hf (hrestarts.trans (decide_eq_true h0)) hu hreplay hrep
  · rw [if_neg h0]
    exact .of_still hi hf (hrestarts.trans (decide_eq_false h0)) hu hrep

theorem configureInput_configured (hn : n < 4) (hw : s.tablesWf) : Configured n c s (s.configureInput n c) := by
  have hi : n < s.canvas.inputs.length := by rw [hw.inputs]; exact hn
  have hr : n < s.capture.rings.length := by rw [hw.rings]; exact hn
  unfold State.configureInput
  dsimp only
  cases he : (s.input n).enabled <;> cases hc : c.enable <;> dsimp only
  · refine .of_still hi (by simp [Input.configured, he, hc]) (by simp [State.restarts, he]) (.refl _ _) ?_
    simpa [State.signalTold, he] using mapInput_reports n _
  · refine .of_still hi (by simp [Input.configured, he, hc]) (by simp [State.restarts, he]) (.refl _ _) ?_
    simpa [State.signalTold, he] using mapInput_reports n _
  · have hf : ({ s.input n with
        signal := false, validRun := 0, loss := .slated, holdFrames := 0, held := none, enabled := false, rate := c.rate } :
        Input) = (s.input n).configured c := by simp [Input.configured, he, hc]
    have hoff : ((s.input n).configured c).signal = false := by rw [← hf]
    cases hs : (s.input n).signal
    · rw [if_neg Bool.false_ne_true]
      refine .of_still hi hf (by simp [State.restarts, hc]) (.refl _ _) ?_
      simpa [State.signalTold, hs] using mapInput_reports n _
    · rw [if_pos rfl]
      refine .of_still hi hf (by simp [State.restarts, hc]) (raiseSignal_frame _ n _) ?_
      simpa [State.signalTold, he, hs, hc] using raiseSignal_off hi hf hoff .disabled
  · by_cases hrate : c.rate = (s.input n).rate
    · rw [if_pos hrate]
      have hr0 : s.restarts n c = false := by simp [State.restarts, hrate]
      have hown : (s.input n).configured c = s.input n := if_pos ⟨he, hc, hrate⟩
      have htold : s.signalTold n c = [] := by simp [State.signalTold, hc, hrate]
      refine ⟨.refl _ s, fun _ => .refl _ s, .refl s, hown.symm, fun _ _ => rfl, by simp [hr0], fun _ _ => rfl, ?_⟩
      unfold State.configCause
      simp only [hr0, Bool.false_eq_true, if_false, htold]
      exact .of_frame (.refl [] s) (.refl _ s) fun _ => rfl
    · rw [if_neg hrate]
      exact configureInput_rerated hi hr he hc hrate

end

end Sys2Proof.Machine
end

section
namespace Sys2Proof.Machine

set_option Elab.async false

/-! ## The four parts of an INPUT_CONFIG, one after the other (R93) -/

theorem Reports.weaken {s t : State} {es : List (Cond × Detail)} (h : Reports [] s t es) (K : List Cond) :
    Reports K s t (es.filter fun e => !K.contains e.1) := by
  obtain ⟨all, hp, ht, he⟩ := h
  have hall : all = es := (List.filter_eq_self.mpr fun _ _ => rfl).symm.trans he
  exact ⟨all, hp, ht, by rw [hall]⟩

/-- Occurrences of one kind, filtered by whether the kind is left out. -/
theorem filter_kind {K : List Cond} {c : Cond} {es : List (Cond × Detail)} (h : ∀ e ∈ es, e.1 = c) :
    es.filter (fun e => !K.contains e.1) = if K.contains c = true then [] else es := by
  split
  · next hc => exact List.filter_eq_nil_iff.mpr fun e he => by rw [h e he, hc]; simp
  · next hc => exact List.filter_eq_self.mpr fun e he => by rw [h e he]; simpa using hc

/-- The occurrences of the clips that a restart of an input loses (R134, R140). -/
def lostTold (n : Nat) (cs : List Clip) : List (Cond × Detail) := cs.filterMap fun c => (c.restartCause n).map fun why =>
  (.clipState, .clipState c.id c.input .lost why none)

theorem lostTold_kind {n : Nat} {cs : List Clip} {e : Cond × Detail} (h : e ∈ lostTold n cs) : e.1 = .clipState := by
  obtain ⟨c, -, hc⟩ := List.mem_filterMap.mp h
  obtain ⟨why, -, rfl⟩ := Option.map_eq_some_iff.mp hc
  rfl

/-- A clip after the restart of an input, where there is one (R134). -/
def Clip.afterRestart (n : Nat) (restarts : Bool) (c : Clip) : Clip :=
  if (restarts && (c.restartCause n).isSome) = true then { c with state := .lost } else c

theorem restartCause_isSome {n : Nat} {c : Clip} : (c.restartCause n).isSome = true ↔ c.input = n ∧ c.uncopied = true := by
  unfold Clip.restartCause
  split <;> simp_all

/-- The restart of one input changes nothing that the restart of another loses. -/
theorem restartCause_afterRestart {n m : Nat} (h : m ≠ n) (b : Bool) (c : Clip) :
    (c.afterRestart n b).restartCause m = c.restartCause m := by
  unfold Clip.afterRestart
  split
  · next hb =>
    have hi : c.input = n := (restartCause_isSome.mp (Bool.and_eq_true_iff.mp hb).2).1
    unfold Clip.restartCause
    rw [if_neg fun k => h (k.1.symm.trans hi), if_neg fun k => h (k.1.symm.trans hi)]
  · rfl

theorem afterRestart_keeps (n : Nat) (b : Bool) (c : Clip) :
    (c.afterRestart n b).id = c.id ∧ (c.afterRestart n b).input = c.input := by
  unfold Clip.afterRestart
  split <;> exact ⟨rfl, rfl⟩

theorem lostTold_afterRestart {n m : Nat} (h : m ≠ n) (b : Bool) (cs : List Clip) :
    lostTold m (cs.map (Clip.afterRestart n b)) = lostTold m cs := by
  unfold lostTold
  rw [List.filterMap_map]
  refine List.filterMap_congr fun c _ => ?_
  rw [Function.comp_apply, restartCause_afterRestart h, (afterRestart_keeps n b c).1, (afterRestart_keeps n b c).2]

section
variable {s t u : State} {n : Nat} {c : InputSetting}

theorem configCause_isSome (c : InputSetting) (d : Clip) :
    (s.configCause n c d).isSome = (s.restarts n c && (d.restartCause n).isSome) := by
  unfold State.configCause
  cases s.restarts n c <;> rfl

theorem Configured.clips (k : Configured n c s t) (hn : (s.replay.clips.map (·.id)).Nodup) :
    t.replay.clips = s.replay.clips.map (Clip.afterRestart n (s.restarts n c)) := by
  rw [k.lost.clips]
  refine List.map_congr_left fun d hd => ?_
  rw [any_cause_of_nodup hn hd, configCause_isSome]
  rfl

/-- What one part reports, in order: the signal, the clips lost, the warnings of the readers. -/
theorem Configured.reports (k : Configured n c s t) : Reports [] s t
    ((s.signalTold n c).map (fun d => (.inputSignal, d)) ++ if s.restarts n c = true then
      lostTold n s.replay.clips ++ warnings (s.disarmed n) t else []) := by
  have h := k.lost.reports
  unfold State.configCause at h
  cases hr : s.restarts n c with
  | true => simpa [hr, lostTold, List.append_assoc] using h
  | false => simpa [hr] using h

theorem signalTold_kind {e : Cond × Detail} (h : e ∈ (s.signalTold n c).map fun d => ((.inputSignal, d) : Cond × Detail)) :
    e.1 = .inputSignal := by
  obtain ⟨d, -, rfl⟩ := List.mem_map.mp h
  rfl

/-- The same, of the kinds outside `K` alone. -/
theorem Configured.reports_outside (k : Configured n c s t) (K : List Cond) : Reports K s t
    ((if K.contains .inputSignal = true then [] else (s.signalTold n c).map fun d => (.inputSignal, d)) ++
      if s.restarts n c = true then
        (if K.contains .clipState = true then [] else lostTold n s.replay.clips) ++
          if K.contains .nearOvertake = true then [] else warnings (s.disarmed n) t
      else []) := by
  have h := k.reports.weaken K
  rw [List.filter_append, filter_kind (K := K) fun e he => signalTold_kind he] at h
  by_cases hr : s.restarts n c = true
  · rw [if_pos hr, List.filter_append, filter_kind (K := K) fun e he => lostTold_kind he,
      filter_kind (K := K) fun e he => warnings_kind _ he] at h
    rw [if_pos hr]
    exact h
  · rw [if_neg hr] at h ⊢
    exact h

/-- A state in which one input's part has been taken reads the other inputs and rings as they were. -/
theorem Configured.restarts_other (k : Configured n c s t) {m : Nat} (hm : m ≠ n) (d : InputSetting) :
    t.restarts m d = s.restarts m d ∧ t.signalTold m d = s.signalTold m d := by
  unfold State.restarts State.signalTold
  rw [k.inputs m hm, k.rings m hm]
  exact ⟨rfl, rfl⟩

end

/-- The parts that restart the ring of their input. -/
def State.restarting (s : State) (cs : List (Nat × InputSetting)) : List (Nat × InputSetting) :=
  cs.filter fun p => s.restarts p.1 p.2

/-- What the parts of an INPUT_CONFIG make, one after the other (R93, R134, R135, R140). -/
structure AllConfigured (cs : List (Nat × InputSetting)) (s t : State) : Prop where
  inputs : ∀ p ∈ cs, t.input p.1 = (s.input p.1).configured p.2
  otherInputs : ∀ m, m ∉ cs.map (·.1) → t.input m = s.input m
  rings : ∀ p ∈ cs, t.ring p.1 = if s.restarts p.1 p.2 = true then (s.ring p.1).clear else s.ring p.1
  otherRings : ∀ m, m ∉ cs.map (·.1) → t.ring m = s.ring m
  clips : (s.replay.clips.map (·.id)).Nodup → t.replay.clips = s.replay.clips.map fun c =>
    if (s.restarting cs).any (fun p => (c.restartCause p.1).isSome) = true then { c with state := .lost } else c
  signal : Reports [.clipState, .nearOvertake] s t
    (cs.flatMap fun p => (s.signalTold p.1 p.2).map fun d => (.inputSignal, d))
  clipsTold : (s.replay.clips.map (·.id)).Nodup → Reports [.inputSignal, .nearOvertake] s t
    ((s.restarting cs).flatMap fun p => lostTold p.1 s.replay.clips)
  still : s.restarting cs = [] → Frame [.inputs] s t ∧ Reports [.inputSignal, .clipState] s t []
  one : ∀ p, s.restarting cs = [p] → ReadersFollow (s.disarmed p.1) t ∧
    Reports [.inputSignal, .clipState] s t (warnings (s.disarmed p.1) t)

theorem AllConfigured.nil (s : State) : AllConfigured [] s s :=
  ⟨nofun, fun _ _ => rfl, nofun, fun _ _ => rfl, fun _ => by simp [State.restarting], .refl _ s, fun _ => .refl _ s,
    fun _ => ⟨.refl _ s, .refl _ s⟩, nofun⟩

theorem disarmed_reader_congr {s u : State} (h : u.reader = s.reader) (n : Nat) :
    (u.disarmed n).reader = (s.disarmed n).reader := by
  funext name
  cases name
  · exact congrArg (disarm n) (congrFun h .save)
  · exact congrArg (disarm n) (congrFun h .channelA)
  · exact congrArg (disarm n) (congrFun h .channelB)

section
variable {s u t : State} {n : Nat} {c : InputSetting} {cs : List (Nat × InputSetting)}

theorem Configured.restarting_tail (k : Configured n c s u) (hn : n ∉ cs.map (·.1)) : u.restarting cs = s.restarting cs :=
  List.filter_congr fun p hp => (k.restarts_other (fun h => hn (h ▸ List.mem_map_of_mem hp)) p.2).1

theorem AllConfigured.cons (k : Configured n c s u) (hn : n ∉ cs.map (·.1)) (h : AllConfigured cs u t) :
    AllConfigured ((n, c) :: cs) s t := by
  have hne {p : Nat × InputSetting} (hp : p ∈ cs) : p.1 ≠ n := fun he => hn (he ▸ List.mem_map_of_mem hp)
  have hrest := k.restarting_tail hn
  have hcons : s.restarting ((n, c) :: cs) = (if s.restarts n c = true then [(n, c)] else []) ++ s.restarting cs := by
    unfold State.restarting
    rw [List.filter_cons]
    split <;> rfl
  have hmem {p : Nat × InputSetting} (hp : p ∈ s.restarting cs) : p.1 ≠ n := hne (List.mem_of_mem_filter hp)
  constructor
  case inputs =>
    refine List.forall_mem_cons.mpr ⟨(h.otherInputs n hn).trans k.own, fun p hp => ?_⟩
    rw [h.inputs p hp, k.inputs _ (hne hp)]
  case otherInputs =>
    intro m hm
    rw [List.map_cons, List.mem_cons, not_or] at hm
    exact (h.otherInputs m hm.2).trans (k.inputs m hm.1)
  case rings =>
    refine List.forall_mem_cons.mpr ⟨(h.otherRings n hn).trans k.ring, fun p hp => ?_⟩
    rw [h.rings p hp, k.rings _ (hne hp), (k.restarts_other (hne hp) _).1]
  case otherRings =>
    intro m hm
    rw [List.map_cons, List.mem_cons, not_or] at hm
    exact (h.otherRings m hm.2).trans (k.rings m hm.1)
  case clips =>
    intro hd
    have hu := k.clips hd
    have hud : (u.replay.clips.map (·.id)).Nodup := by
      rw [hu, List.map_map, show (fun d : Clip => d.id) ∘ Clip.afterRestart n (s.restarts n c) = fun d => d.id from
        funext fun d => (afterRestart_keeps n _ d).1]
      exact hd
    rw [h.clips hud, hu, List.map_map, hrest, hcons]
    refine List.map_congr_left fun d _ => ?_
    have htail : (s.restarting cs).any (fun p => ((d.afterRestart n (s.restarts n c)).restartCause p.1).isSome) =
        (s.restarting cs).any fun p => (d.restartCause p.1).isSome := by
      rw [Bool.eq_iff_iff, List.any_eq_true, List.any_eq_true]
      exact exists_congr fun p => and_congr_right fun hp => by rw [restartCause_afterRestart (hmem hp)]
    have hhead : ((if s.restarts n c = true then [(n, c)] else []).any fun p => (d.restartCause p.1).isSome) =
        (s.restarts n c && (d.restartCause n).isSome) := by
      cases s.restarts n c <;> simp
    rw [Function.comp_apply, htail, List.any_append, hhead]
    unfold Clip.afterRestart
    cases s.restarts n c && (d.restartCause n).isSome with
    | true => simp
    | false =>
      simp only [Bool.false_or]
      rfl
  case signal =>
    have hr := (k.reports_outside [.clipState, .nearOvertake]).next h.signal
    have htail : (cs.flatMap fun p => (u.signalTold p.1 p.2).map fun d => ((.inputSignal, d) : Cond × Detail)) =
        cs.flatMap fun p => (s.signalTold p.1 p.2).map fun d => (.inputSignal, d) :=
      List.flatMap_congr fun p hp => by rw [(k.restarts_other (hne hp) p.2).2]
    rw [htail] at hr
    simpa using hr
  case clipsTold =>
    intro hd
    have hu := k.clips hd
    have hud : (u.replay.clips.map (·.id)).Nodup := by
      rw [hu, List.map_map, show (fun d : Clip => d.id) ∘ Clip.afterRestart n (s.restarts n c) = fun d => d.id from
        funext fun d => (afterRestart_keeps n _ d).1]
      exact hd
    have hr := (k.reports_outside [.inputSignal, .nearOvertake]).next (h.clipsTold hud)
    have htail : ((s.restarting cs).flatMap fun p => lostTold p.1 u.replay.clips) =
        (s.restarting cs).flatMap fun p => lostTold p.1 s.replay.clips :=
      List.flatMap_congr fun p hp => by rw [hu, lostTold_afterRestart (hmem hp)]
    rw [hrest, htail] at hr
    rw [hcons, List.flatMap_append]
    cases hc : s.restarts n c <;> simpa [hc] using hr
  case still =>
    intro he
    rw [hcons, List.append_eq_nil_iff] at he
    have hc : s.restarts n c = false := by
      by_contra hc
      simp [hc] at he
    obtain ⟨hf, hr⟩ := h.still (hrest.trans he.2)
    have hk := k.reports_outside [.inputSignal, .clipState]
    rw [hc] at hk
    exact ⟨(k.still hc).next hf, hk.next hr⟩
  case one =>
    intro p he
    have hk := k.reports_outside [.inputSignal, .clipState]
    rw [hcons] at he
    cases hc : s.restarts n c with
    | true =>
      rw [hc] at he hk
      obtain ⟨rfl, htail⟩ : (n, c) = p ∧ s.restarting cs = [] := by simpa using he
      obtain ⟨hf, hr⟩ := h.still (hrest.trans htail)
      have hreader : t.reader = u.reader := funext fun name => hf.reader name
      have hreads : t.reads = u.reads := reads_congr (.of_frame hf)
      have hl := k.lost.follow
      simp only [hc, if_true] at hl
      refine ⟨hl.congr rfl hreader hreads hf.ring, ?_⟩
      rw [warnings_congr (s := s.disarmed n) rfl hreads hf.ring]
      simpa using hk.next hr
    | false =>
      rw [hc] at he hk
      have hf := k.still hc
      obtain ⟨hl, hr⟩ := h.one p (hrest.trans (by simpa using he))
      have hstart := disarmed_reader_congr (s := s) (u := u) (funext fun name => hf.reader name) p.1
      refine ⟨hl.congr hstart.symm rfl rfl fun _ => rfl, ?_⟩
      rw [warnings_congr (t := t) hstart.symm rfl fun _ => rfl]
      exact hk.next hr

end

/-- The parts of an INPUT_CONFIG for distinct inputs. -/
theorem configureInputs_configured (cs : List (Nat × InputSetting)) (s : State) (hw : s.tablesWf)
    (hn : (cs.map (·.1)).Nodup) (h4 : ∀ p ∈ cs, p.1 < 4) :
    AllConfigured cs s (cs.foldl (fun s p => s.configureInput p.1 p.2) s) := by
  induction cs generalizing s with
  | nil => exact .nil s
  | cons p cs ih =>
    obtain ⟨hp, hn⟩ := List.nodup_cons.mp hn
    obtain ⟨hp4, h4⟩ := List.forall_mem_cons.mp h4
    have k := configureInput_configured (c := p.2) hp4 hw
    exact .cons k hp (ih _ (k.tables.tablesWf hw) hn h4)

end Sys2Proof.Machine
end

section
namespace Sys2Proof.Machine

set_option Elab.async false

/-! ## INPUT_CONFIG as a record (R93) -/

/-- The settings of an INPUT_CONFIG with their inputs. -/
def numbered (c0 c1 c2 c3 : InputSetting) : List (Nat × InputSetting) := [(0, c0), (1, c1), (2, c2), (3, c3)]

section
variable {c0 c1 c2 c3 : InputSetting} {s t : State}

theorem inputConfigOwner_eq : inputConfigOwner c0 c1 c2 c3 s =
    if ([c0, c1, c2, c3].any fun c => !cameraRates.contains c.rate) = true then s.refuse .range
    else ((numbered c0 c1 c2 c3).foldl (fun s p => s.configureInput p.1 p.2) s).ok := by
  have hrates : (!([c0, c1, c2, c3].all fun i => cameraRates.contains i.rate)) =
      [c0, c1, c2, c3].any fun c => !cameraRates.contains c.rate := List.not_all_eq_any_not ..
  simp only [inputConfigOwner, tests_cons, tests_nil, hrates]
  rfl

theorem mem_numbered {n : Nat} {c : InputSetting} (h : [c0, c1, c2, c3][n]? = some c) : (n, c) ∈ numbered c0 c1 c2 c3 := by
  match n with
  | 0 => cases h; simp [numbered]
  | 1 => cases h; simp [numbered]
  | 2 => cases h; simp [numbered]
  | 3 => cases h; simp [numbered]
  | n + 4 => simp at h

theorem numbered_setting {p : Nat × InputSetting} (h : p ∈ numbered c0 c1 c2 c3) : [c0, c1, c2, c3][p.1]? = some p.2 := by
  simp only [numbered, List.mem_cons, List.not_mem_nil, or_false] at h
  rcases h with rfl | rfl | rfl | rfl <;> rfl

/-- The inputs whose ring a setting restarts. -/
theorem restarting_numbered {restarts : Nat → Bool}
    (h : ∀ n c, [c0, c1, c2, c3][n]? = some c → restarts n = s.restarts n c) :
    [0, 1, 2, 3].filter restarts = (s.restarting (numbered c0 c1 c2 c3)).map (·.1) := by
  have he : [0, 1, 2, 3] = (numbered c0 c1 c2 c3).map (·.1) := rfl
  rw [he, List.filter_map]
  exact congrArg _ (List.filter_congr fun p hp => h p.1 p.2 (numbered_setting hp))

theorem detailsOf_flatMap {α : Type} (c : Cond) (f : α → List (Cond × Detail)) (l : List α) :
    detailsOf c (l.flatMap f) = l.flatMap fun a => detailsOf c (f a) := by
  induction l with
  | nil => rfl
  | cons a l ih => rw [List.flatMap_cons, List.flatMap_cons, detailsOf_append, ih]

/-- The reports of the clips that a restart loses, one by one. -/
theorem detailsOf_lostTold {n : Nat} {lost : Clip → Bool} (h : ∀ c, lost c = (c.restartCause n).isSome) (cs : List Clip) :
    detailsOf .clipState (lostTold n cs) =
      (cs.filter lost).map fun c => .clipState c.id c.input .lost .captureRestart none := by
  induction cs with
  | nil => rfl
  | cons c cs ih =>
    unfold lostTold at ih ⊢
    rw [List.filterMap_cons, List.filter_cons, h c]
    unfold Clip.restartCause
    by_cases hc : c.input = n ∧ c.uncopied = true
    · simp only [if_pos hc, Option.map_some, Option.isSome_some, if_true, List.map_cons]
      rw [← ih]
      rfl
    · simp only [if_neg hc, Option.map_none, Option.isSome_none, Bool.false_eq_true, if_false]
      exact ih

theorem configured_values (i : Input) (c : InputSetting) :
    (i.configured c).enabled = c.enable ∧ (i.configured c).rate = c.rate ∧
      ((i.enabled && c.enable && decide (i.rate = c.rate)) = true → i.configured c = i) ∧
      ((i.enabled && c.enable && decide (i.rate = c.rate)) = false → (i.enabled = true ∨ c.enable = true) →
        (i.configured c).signal = false ∧ (i.configured c).validRun = 0 ∧ (i.configured c).loss = .slated ∧
        (i.configured c).held = none) := by
  have hstays : (i.enabled && c.enable && decide (i.rate = c.rate)) = true ↔
      i.enabled = true ∧ c.enable = true ∧ c.rate = i.rate := by
    simp only [Bool.and_eq_true, decide_eq_true_eq, and_assoc, eq_comm (a := i.rate)]
  unfold Input.configured
  by_cases h : i.enabled = true ∧ c.enable = true ∧ c.rate = i.rate
  · rw [if_pos h]
    obtain ⟨he, hc, hr⟩ := h
    refine ⟨he.trans hc.symm, hr.symm, fun _ => rfl, fun hn => ?_⟩
    rw [hstays.mpr ⟨he, hc, hr⟩] at hn
    cases hn
  · rw [if_neg h]
    refine ⟨?_, ?_, fun hy => absurd (hstays.mp hy) h, fun _ hor => ?_⟩
    · split
      · rfl
      · next hor =>
        rw [not_or] at hor
        exact (Bool.eq_false_iff.mpr hor.1).trans (Bool.eq_false_iff.mpr hor.2).symm
    · split <;> rfl
    · rw [if_pos hor]
      exact ⟨rfl, rfl, rfl, rfl⟩

theorem uncopied_eq (c : Clip) : c.uncopied = (match c.state with
    | .ring => true
    | .saving _ _ => true
    | _ => false) := by
  unfold Clip.uncopied
  cases c.state <;> rfl

end

section
variable {s t : State} {n : Nat}

/-! ## Camera events, as the statements say them -/

theorem writeCause_input {r : Ring} {c : Clip} (h : (Clip.writeCause n r c).isSome = true) : c.input = n := by
  unfold Clip.writeCause at h
  split at h
  · next hc => exact hc.1
  · cases h

theorem restartCause_input {c : Clip} (h : (Clip.restartCause n c).isSome = true) : c.input = n :=
  (restartCause_isSome.mp h).1

/-- The occurrences of lost clips, all of one input. -/
theorem filterMap_cause_input {cause : Clip → Option ClipCause} (hi : ∀ c, (cause c).isSome = true → c.input = n)
    (seq : Option Nat) (cs : List Clip) :
    (cs.filterMap fun c => (cause c).map fun why => ((.clipState, .clipState c.id c.input .lost why seq) : Cond × Detail)) =
      cs.filterMap fun c => (cause c).map fun why => (.clipState, .clipState c.id n .lost why seq) := by
  refine List.filterMap_congr fun c _ => ?_
  cases hc : cause c with
  | none => rfl
  | some why => rw [hi c (by rw [hc]; rfl)]

/-- The ring of an input whose signal is found, field by field (R130, R131). -/
theorem Found.ring_fields (k : Found n s t) :
    (t.ring n).w = (if (s.ring n).size = 0 then (s.ring n).w else (s.ring n).w + 1) ∧
    (t.ring n).floor = (if s.otherRate n = true then (s.ring n).w else (s.ring n).floor) ∧
    (t.ring n).rate = (if (s.ring n).size = 0 then (if s.otherRate n = true then none else (s.ring n).rate)
      else some (s.input n).rate) := by
  have hr := k.ring
  have hrate : s.otherRate n = false → (s.ring n).rate.getD (s.input n).rate = (s.input n).rate := by
    unfold State.otherRate
    cases (s.ring n).rate with
    | none => exact fun _ => rfl
    | some rate => simp
  cases ho : s.otherRate n with
  | true =>
    rw [ho, if_pos rfl] at hr
    by_cases h0 : (s.ring n).size = 0 <;> simp [hr, h0, Ring.clear, Ring.write]
  | false =>
    rw [ho, if_neg Bool.false_ne_true] at hr
    by_cases h0 : (s.ring n).size = 0 <;> simp [hr, h0, Ring.write, hrate ho]

/-- The clips that a found signal loses, by what its ring holds (R131, R134, R140). -/
theorem Found.lost_other (k : Found n s t) (ho : s.otherRate n = true) : Followed (Clip.restartCause n) none true
    [(.inputSignal, .inputSignal n true .detected (s.ring n).w)] (s.disarmed n) s t := by
  have h := k.lost
  unfold State.foundCause at h
  simpa only [ho, if_true, Bool.true_or] using h

theorem Found.lost_same (k : Found n s t) (ho : s.otherRate n = false) : Followed (Clip.writeCause n (s.ring n))
    (some ((s.ring n).w - (s.ring n).size)) (decide (0 < (s.ring n).size))
    [(.inputSignal, .inputSignal n true .detected (s.ring n).w)] s s t := by
  have h := k.lost
  unfold State.foundCause at h
  simpa only [ho, Bool.false_eq_true, if_false, Bool.false_or] using h

/-- The readers of the input disarmed, where a found signal restarts its ring. -/
def State.foundStart (s : State) (n : Nat) : State := if s.otherRate n = true then s.disarmed n else s

/-- The readers after a found signal (R134 to R136). -/
theorem Found.readers (k : Found n s t) :
    (if s.otherRate n = true ∨ 0 < (s.ring n).size then ReadersFollow (s.foundStart n) t
      else ∀ name, t.reader name = s.reader name) ∧
    (s.linksWf → Gains s t .inputSignal [.inputSignal n true .detected (s.ring n).w] ∧
      Gains s t .nearOvertake (if s.otherRate n = true ∨ 0 < (s.ring n).size then (warnings (s.foundStart n) t).map (·.2)
        else [])) := by
  have hf := k.lost.follow
  have hsyncs : (s.otherRate n || decide (0 < (s.ring n).size)) = true ↔ s.otherRate n = true ∨ 0 < (s.ring n).size := by
    simp
  simp only [hsyncs] at hf
  refine ⟨?_, fun hw => ⟨k.lost.told_gains hw (by decide) (by decide), ?_⟩⟩
  · split at hf
    · next h =>
      rw [if_pos h]
      exact hf
    · next h =>
      rw [if_neg h]
      rw [if_neg fun ho => h (.inl ho)] at hf
      exact fun name => congrFun hf name
  · have hg := k.lost.nearOvertake hw rfl
    simp only [hsyncs] at hg
    exact hg

end

end Sys2Proof.Machine

namespace Sys2Proof
open Machine

/-- The first part of O35: an INPUT_CONFIG, input by input. -/
theorem inputConfig_applied (h : Hdr) (c0 c1 c2 c3 : InputSetting) (s : State) (ha : s.admits h 0x3D = true)
    (hw : s.tablesWf) :
    let t := (numbered c0 c1 c2 c3).foldl (fun s p => s.configureInput p.1 p.2) s
    AllConfigured (numbered c0 c1 c2 c3) s t ∧ Frame [.inputs, .rings, .clips, .readers] s t ∧
      exec (.inputConfig h c0 c1 c2 c3) s = .next
        (if ([c0, c1, c2, c3].any fun c => !cameraRates.contains c.rate) = true then s.replied h 0x3D .range .none
        else t.replied h 0x3D .ok .none) := by
  refine ⟨configureInputs_configured _ s hw (show [0, 1, 2, 3].Nodup by decide) (by simp [numbered]),
    Frame.foldl _ (fun s p => configureInput_frame s _ _) _ s, ?_⟩
  rw [exec_admitted (owner := inputConfigOwner c0 c1 c2 c3) ha rfl (inputConfigOwner_frame s c0 c1 c2 c3), inputConfigOwner_eq]
  split <;> rfl

end Sys2Proof
end

section
namespace Sys2Proof
open Machine

set_option Elab.async false

/-- Settles O35: INPUT_CONFIG from `AllConfigured`, a camera frame from what a found signal and a captured frame make, the
timeout and the end of a hold from their equations. -/
theorem cameraSignalsAreDecidedAndHeld : Obligations.CameraSignalsAreDecidedAndHeld := by
  refine ⟨fun h c0 c1 c2 c3 s ha hw => ?_, fun n s hd hn hw => ?_, fun n s hd hn hw => ?_, fun n rest s hd hn hw => ?_⟩
  · obtain ⟨hall, hframe, hexec⟩ := inputConfig_applied h c0 c1 c2 c3 s ha hw
    intro settings
    split
    · next hr =>
      rw [hexec, if_pos hr]
    · next hr =>
      rw [if_neg hr] at hexec
      generalize (numbered c0 c1 c2 c3).foldl (fun s p => s.configureInput p.1 p.2) s = t at hall hframe hexec
      refine ⟨t, hexec, fun n c hc => ?_, ?_, hframe⟩
      · have hm := mem_numbered hc
        obtain ⟨h1, h2, h3, h4⟩ := configured_values (s.input n) c
        dsimp only
        rw [hall.inputs _ hm]
        exact ⟨h1, h2, h3, h4, hall.rings _ hm⟩
      · intro restarts restarted lost
        have hrestarted : restarted = (s.restarting (numbered c0 c1 c2 c3)).map (·.1) := restarting_numbered fun n c hc => by
          show (match settings[n]? with | some c => _ | none => _) = _
          rw [show settings[n]? = some c from hc]
          rfl
        have hlost (n : Nat) (c : Clip) : lost n c = (c.restartCause n).isSome := by
          rw [Bool.eq_iff_iff, restartCause_isSome, uncopied_eq]
          exact Bool.and_eq_true_iff.trans (and_congr_left' decide_eq_true_iff)
        have hnil : restarted = [] → s.restarting (numbered c0 c1 c2 c3) = [] := fun he =>
          List.map_eq_nil_iff.mp (hrestarted.symm.trans he)
        have hone {n : Nat} (he : restarted = [n]) : ∃ p, s.restarting (numbered c0 c1 c2 c3) = [p] ∧ p.1 = n :=
          List.map_eq_singleton_iff.mp (hrestarted.symm.trans he)
        refine ⟨fun hn => ?_, fun he name => (hall.still (hnil he)).1.reader name, fun n he => ?_, fun hl => ⟨?_, fun hn => ?_,
          fun he => (hall.still (hnil he)).2.gains hl, fun n he => ?_⟩⟩
        · rw [hall.clips hn, hrestarted]
          simp only [List.any_map, Function.comp_def, hlost]
        · obtain ⟨p, hp, rfl⟩ := hone he
          exact (hall.one p hp).1
        · have hg := hall.signal.gains hl (c := .inputSignal)
          rw [detailsOf_flatMap] at hg
          simp only [detailsOf_kind_map] at hg
          exact hg
        · have hg := (hall.clipsTold hn).gains hl (c := .clipState)
          rw [detailsOf_flatMap] at hg
          rw [hrestarted, List.flatMap_map]
          have he : (fun p : Nat × InputSetting => detailsOf .clipState (lostTold p.1 s.replay.clips)) = fun p =>
              (s.replay.clips.filter (lost p.1)).map fun c => .clipState c.id c.input .lost .captureRestart none :=
            funext fun p => detailsOf_lostTold (hlost p.1) _
          rw [he] at hg
          exact hg
        · obtain ⟨p, hp, rfl⟩ := hone he
          have hg := (hall.one p hp).2.gains hl (c := .nearOvertake)
          rwa [detailsOf_of_kind fun _ he => warnings_kind _ he] at hg
  · have hi : n < s.canvas.inputs.length := by rw [hw.inputs]; exact hn
    have hexec (valid : Bool) : exec (.cameraFrame n valid) s = .next (s.cameraFrame n valid) :=
      congrArg (fun u : State => Host.Outcome.next (u.cameraFrame n valid)) (settle_of_due_nil s hd)
    rw [hexec true, hexec false]
    intro i r lost other hit old loses
    have hhit : hit = Clip.writeCause n r := by
      funext c
      show (if _ then (match c.state with | .ring => _ | .saving _ _ => _ | _ => none) else none) = _
      unfold Clip.writeCause Clip.overwriteCause
      split
      · cases c.state <;> simp only [within, Bool.and_eq_true, decide_eq_true_eq] <;> rfl
      · rfl
    have hold : old = Clip.restartCause n := by
      funext c
      show (if c.input = n then (match c.state with | .ring => _ | .saving _ _ => _ | _ => none) else none) = _
      unfold Clip.restartCause
      rw [uncopied_eq]
      by_cases hc : c.input = n <;> cases c.state <;> simp [hc]
    refine ⟨fun hen => ⟨congrArg _ (cameraFrame_disabled hen true), congrArg _ (cameraFrame_disabled hen false)⟩,
      fun hen hs => ⟨?_, fun hv => ?_, fun hv => ?_⟩, fun hen hs => ⟨?_, ?_⟩⟩
    · rw [cameraFrame_absent hen hs]
      exact ⟨_, rfl, input_mapInput_same hi _, fun link => by cases link <;> rfl, mapInput_frame s n _⟩
    · rw [cameraFrame_running hen hs hv]
      exact ⟨_, rfl, input_mapInput_same hi _, fun link => by cases link <;> rfl, mapInput_frame s n _⟩
    · have k := cameraFrame_found hn hw hen hs hv
      obtain ⟨hwrite, hfloor, hrate⟩ := k.ring_fields
      refine ⟨_, rfl, by rw [k.own]; rfl, by rw [k.own]; rfl, by rw [k.own]; rfl, by rw [k.own]; rfl, by rw [k.own]; rfl,
        hwrite, hfloor, hrate, fun hdup => ⟨fun ho => ?_, fun ho => ?_⟩, k.readers, cameraFrame_frame s n true⟩
      · rw [hold]
        exact (k.lost_other ho).loses hdup rfl fun c => restartCause_input
      · rw [hhit]
        exact (k.lost_same ho).loses hdup rfl fun c => writeCause_input
    · have k := captureFrame_captured hn hw
      have hl := k.lost
      rw [(cameraFrame_present hen hs).1]
      refine ⟨_, rfl, k.own, k.ring, fun m hm => ⟨k.inputs m hm, k.rings m hm⟩, fun hdup => ?_, ?_, fun link => ?_, k.frame⟩
      · rw [hhit]
        exact hl.loses hdup rfl fun c => writeCause_input
      · have hf := hl.follow
        simp only [decide_eq_true_eq] at hf
        split at hf
        · rw [if_pos ‹_›]
          exact hf
        · rw [if_neg ‹_›]
          exact fun name => congrFun hf name
      · have hr := hl.reports.link link
        rw [List.nil_append, filterMap_cause_input fun c => writeCause_input] at hr
        simp only [decide_eq_true_eq] at hr
        rw [hr, hhit]
    · rw [(cameraFrame_present hen hs).2, loseSignal_eq hi]
      have hown := input_mapInput_same hi (Input.lose (s.toFrames 2000))
      refine ⟨_, rfl, ?_, ?_, ?_, ?_, ?_, fun link => raise_link _ _ _ link, (mapInput_frame s n _).next (raise_frame _ _ _)⟩ <;>
        exact congrArg _ hown
  · have hi : n < s.canvas.inputs.length := by rw [hw.inputs]; exact hn
    have hexec : exec (.inputSignalTimeout n) s = .next (s.signalTimeout n) :=
      congrArg (fun u : State => Host.Outcome.next (u.signalTimeout n)) (settle_of_due_nil s hd)
    rw [hexec, signalTimeout_eq]
    intro i
    refine ⟨fun hen => by rw [if_pos hen], fun hen hs => ?_, fun hen hs => ?_⟩
    · rw [if_neg (by rw [hen]; decide), if_neg (by rw [hs]; decide)]
      exact ⟨_, rfl, input_mapInput_same hi _, mapInput_frame s n _⟩
    · rw [if_neg (by rw [hen]; decide), if_pos hs, loseSignal_eq hi]
      exact ⟨_, rfl, input_mapInput_same hi _, mapInput_frame s n _⟩
  · have hi : n < s.canvas.inputs.length := by rw [hw.inputs]; exact hn
    have hexec : exec (.signalLossHoldEnd n) s = .next (s.perform fun e => e == .holdEnd n) := rfl
    rw [hexec, perform_front hd (by simp)]
    refine ⟨_, rfl, ?_⟩
    show ((State.endHold n { s with due := rest }).input n = _) ∧
      (∀ m, m ≠ n → (State.endHold n { s with due := rest }).input m = _) ∧
      Frame [.inputs] _ (State.endHold n { s with due := rest })
    unfold State.endHold
    have hinput : State.input { s with due := rest } n = s.input n := rfl
    rw [hinput]
    split
    · exact ⟨input_mapInput_same (s := { s with due := rest }) hi _,
        fun m hm => input_mapInput_other (s := { s with due := rest }) hm _, mapInput_frame _ n _⟩
    · exact ⟨rfl, fun _ _ => rfl, .refl _ _⟩

end Sys2Proof
end

section
namespace Sys2Proof.Machine

set_option Elab.async false

/-! ## One operation on two states that agree in what it looks at -/

/-- From `s` to `s'` and from `t` to `t'` the same is recorded, of the kinds in `K` alone, and the two agree in a view. -/
structure Mirror {α : Type} (view : State → α) (K : List Cond) (s t s' t' : State) : Prop where
  same : view t' = view s'
  told : ∃ es, (∀ e ∈ es, e.1 ∈ K) ∧ Reports [] s s' es ∧ Reports [] t t' es

section
variable {α : Type} {view : State → α} {K : List Cond} {s t s' t' u v : State}

theorem Mirror.of_links (h : view t' = view s') (hs : s'.production = s.production ∧ s'.table = s.table)
    (ht : t'.production = t.production ∧ t'.table = t.table) : Mirror view K s t s' t' :=
  ⟨h, [], List.forall_mem_nil _, .of_links hs.1 hs.2, .of_links ht.1 ht.2⟩

theorem Mirror.refl (h : view t = view s) : Mirror view K s t s t := .of_links h ⟨rfl, rfl⟩ ⟨rfl, rfl⟩

theorem Mirror.next (h : Mirror view K s t s' t') (k : Mirror view K s' t' u v) : Mirror view K s t u v := by
  obtain ⟨a, ha, hs, ht⟩ := h.told
  obtain ⟨b, hb, ks, kt⟩ := k.told
  exact ⟨k.same, a ++ b, fun e he => (List.mem_append.mp he).elim (ha e) (hb e), hs.next ks, ht.next kt⟩

theorem Mirror.raise {c : Cond} (hc : c ∈ K) (d : Detail) (h : view (t.raise c d) = view (s.raise c d)) :
    Mirror view K s t (s.raise c d) (t.raise c d) :=
  ⟨h, [(c, d)], by simpa using hc, .raise rfl s d, .raise rfl t d⟩

theorem Mirror.foldl {β : Type} {f : State → β → State}
    (hf : ∀ b s t, view t = view s → Mirror view K s t (f s b) (f t b)) (l : List β) (h : view t = view s) :
    Mirror view K s t (l.foldl f s) (l.foldl f t) := by
  induction l generalizing s t with
  | nil => exact .refl h
  | cons b l ih => exact (hf b s t h).next (ih (hf b s t h).same)

end

/-! ## The credit of a frame looks at the visibility record, what was shown, the crawl and the exposure (R180, R181) -/

section
variable {s t : State}

theorem exposed_of_exposure (h : t.exposure = s.exposure) (i : Nat) : t.exposed i = s.exposed i := by
  unfold State.exposed
  rw [h]

theorem mapExposed_exposure (h : t.exposure = s.exposure) (i : Nat) (f : Exposed → Exposed) :
    (t.mapExposed i f).exposure = (s.mapExposed i f).exposure := by
  show { t.exposure with ids := t.exposure.ids.set i (f (t.exposed i)) } =
    { s.exposure with ids := s.exposure.ids.set i (f (s.exposed i)) }
  rw [exposed_of_exposure h, h]

theorem testMilestone_mirror (h : t.exposure = s.exposure) (i : Nat) (m : Milestone) :
    Mirror (·.exposure) [.quotaMilestone] s t (s.testMilestone i m) (t.testMilestone i m) := by
  unfold State.testMilestone
  rw [exposed_of_exposure h]
  cases (s.exposed i).quota with
  | none => exact .refl h
  | some q =>
    dsimp only
    split
    · have hm := mapExposed_exposure h i (Exposed.pass m)
      exact Mirror.next (.of_links hm ⟨rfl, rfl⟩ ⟨rfl, rfl⟩) (.raise (by simp) _ hm)
    · exact .refl h

theorem testMilestones_mirror (h : t.exposure = s.exposure) (i : Nat) :
    Mirror (·.exposure) [.quotaMilestone] s t (s.testMilestones i) (t.testMilestones i) := by
  have h1 := testMilestone_mirror h i .m50
  have h2 := h1.next (testMilestone_mirror h1.same i .m75)
  exact h2.next (testMilestone_mirror h2.same i .m100)

theorem applyCredits_mirror (h : t.exposure = s.exposure) (i : Nat) (cs : List Credit) :
    Mirror (·.exposure) [.quotaMilestone] s t (s.applyCredits i cs) (t.applyCredits i cs) := by
  unfold State.applyCredits
  dsimp only
  rw [h]
  exact Mirror.next (.of_links (mapExposed_exposure h i _) ⟨rfl, rfl⟩ ⟨rfl, rfl⟩)
    (testMilestones_mirror (mapExposed_exposure h i _) i)

theorem creditOf_congr (hp : t.rotation = s.rotation) (hc : t.crawl = s.crawl) (he : t.exposure = s.exposure)
    (e : VisEntry) : t.creditOf e = s.creditOf e := by
  unfold State.creditOf State.programCredit State.program
  rw [hp, hc, he]

theorem creditFrame_mirror (hv : t.canvas.visibility = s.canvas.visibility) (hp : t.rotation = s.rotation)
    (hc : t.crawl = s.crawl) (he : t.exposure = s.exposure) :
    Mirror (·.exposure) [.quotaMilestone] s t s.creditFrame t.creditFrame := by
  have hcredits : t.credits = s.credits := by
    unfold State.credits
    rw [hv]
    exact List.filterMap_congr fun e _ => creditOf_congr hp hc he e
  unfold State.creditFrame
  dsimp only
  rw [hcredits]
  refine Mirror.foldl (fun i u v h => ?_) _ he
  split
  · exact .refl h
  · exact applyCredits_mirror h i _

/-! ## The strip's movement looks at the crawl, its zone and the visibility record (R194, R195) -/

theorem mapCrawl_mirror (h : t.crawl = s.crawl) (f : Crawl → Crawl) :
    Mirror (·.crawl) [.messageDone] s t (s.mapCrawl f) (t.mapCrawl f) :=
  .of_links (congrArg f h) ⟨rfl, rfl⟩ ⟨rfl, rfl⟩

theorem finishMessage_mirror (h : t.crawl = s.crawl) (cause : DoneCause) (m : Message) :
    Mirror (·.crawl) [.messageDone] s t (s.finishMessage cause m) (t.finishMessage cause m) := by
  have h1 := mapCrawl_mirror h fun c =>
    { c with
      messages := c.messages.filter (·.id != m.id), order := c.order.filter (· != m.id)
      strip := c.strip.filter (·.id != m.id), featureOrder := c.featureOrder.filter (· != m.id) }
  exact h1.next (.raise (by simp) _ h1.same)

theorem leaveStrip_mirror (h : t.crawl = s.crawl) (i : Nat) :
    Mirror (·.crawl) [.messageDone] s t (s.leaveStrip i) (t.leaveStrip i) := by
  unfold State.leaveStrip State.mapMessage
  dsimp only
  have h1 := mapCrawl_mirror h fun c =>
    { c with messages := c.messages.map fun m =>
      if m.id = i then { m with state := .queued, passes := m.passes + 1, repeats := m.repeats - 1 } else m }
  have h2 := h1.next (mapCrawl_mirror h1.same fun c => { c with strip := c.strip.filter (·.id != i) })
  have hs : (State.crawl _) = State.crawl _ := h2.same
  rw [hs]
  split
  · split
    · exact h2.next (mapCrawl_mirror h2.same _)
    · split
      · exact h2.next (finishMessage_mirror h2.same _ _)
      · exact h2
  · exact h2

theorem moveStrip_mirror (h : t.crawl = s.crawl) : Mirror (·.crawl) [.messageDone] s t s.moveStrip t.moveStrip := by
  unfold State.moveStrip
  dsimp only
  have h1 := mapCrawl_mirror h fun c => { c with strip := c.strip.map fun i => { i with x := i.x - (c.config.speed : Int) } }
  have hs : (State.crawl _) = State.crawl _ := h1.same
  rw [hs]
  exact h1.next (.foldl (fun i u v k => leaveStrip_mirror k i.id) _ h1.same)

theorem enterStrip_mirror (h : t.crawl = s.crawl) (w : Nat) :
    Mirror (·.crawl) [.messageDone] s t (s.enterStrip w) (t.enterStrip w) := by
  unfold State.enterStrip State.mapMessage
  rw [h]
  split
  · next i rest x _ _ =>
    split
    · next m _ =>
      have h1 := mapCrawl_mirror h fun c =>
        { c with messages := c.messages.map fun m => if m.id = i then { m with state := .onAir } else m }
      exact h1.next (mapCrawl_mirror h1.same _)
    · exact .refl h
  · exact .refl h

theorem stepCrawl_mirror (h : t.crawl = s.crawl) (hz : t.canvas.zones = s.canvas.zones)
    (hv : t.canvas.visibility = s.canvas.visibility) (kept : Option Nat) :
    Mirror (·.crawl) [.messageDone] s t (s.stepCrawl kept) (t.stepCrawl kept) := by
  unfold State.stepCrawl State.crawlShown State.crawlZone?
  rw [hz, hv]
  cases s.canvas.zones.find? (·.spec.base == .crawl) with
  | none => exact .refl h
  | some z =>
    dsimp only
    split
    · have h1 := moveStrip_mirror h
      exact h1.next (enterStrip_mirror h1.same _)
    · exact .refl h

end

end Sys2Proof.Machine
end

section
namespace Sys2Proof.Machine

set_option Elab.async false

/-! ## Events that become due, beside what an operation changes -/

section
variable {P : List Part} {s t u : State}

/-- What an operation leaves, it leaves whatever is due. -/
theorem Frame.withDue (h : Frame P s t) (d : List DueEvent) : Frame P { s with due := d } { t with due := d } :=
  ⟨h.pending, rfl, h.links, fun p hp => by have k := h.same p hp; cases p <;> exact k⟩

/-- An operation that only adds to what is due, among its parts. -/
def DueFrame (P : List Part) (s t : State) : Prop := Frame P s { t with due := s.due }

theorem DueFrame.of_frame (h : Frame P s t) : DueFrame P s t := by
  unfold DueFrame
  rw [← h.due]
  exact h

theorem DueFrame.next {Q : List Part} (h : DueFrame P s t) (k : DueFrame Q t u)
    (hQ : Q.all (fun p => P.contains p) = true := by decide) : DueFrame P s u :=
  Frame.next h (Frame.withDue (s := t) (t := { u with due := t.due }) k s.due) hQ

theorem Frame.replay (h : Frame P s t) (hP : (P.contains .clips || P.contains .channels) = false := by decide) :
    t.replay = s.replay := by
  simp only [Bool.or_eq_false_iff] at hP
  obtain ⟨h1, h2⟩ := h.same .clips (by simpa using hP.1)
  obtain ⟨h3, h4⟩ := h.same .channels (by simpa using hP.2)
  cases hs : s.replay
  cases ht : t.replay
  simp_all

theorem Frame.canvasSame (h : Frame P s t)
    (hP : [Part.canvas, .zones, .inputs, .assets].all (fun p => !P.contains p) = true := by decide) : t.canvas = s.canvas := by
  simp only [List.all_cons, List.all_nil, Bool.and_true, Bool.and_eq_true, Bool.not_eq_true'] at hP
  obtain ⟨hc, hz, hi, ha⟩ := hP
  obtain ⟨h1, h2, h3, h4, h5, h6, h7⟩ := h.same .canvas (by simpa using hc)
  have h8 : t.canvas.zones = s.canvas.zones := h.same .zones (by simpa using hz)
  have h9 : t.canvas.inputs = s.canvas.inputs := h.same .inputs (by simpa using hi)
  obtain ⟨h10, h11⟩ := h.same .assets (by simpa using ha)
  cases hs : s.canvas
  cases ht : t.canvas
  simp_all

/-- The state with other events due. -/
def State.dueAs (d : List DueEvent) (s : State) : State := { s with due := d }

/-- Events added one by one, each where a condition that does not look at what is due holds. -/
theorem addDueIfs {α : Type} (c : State → α → Bool) (e : α → DueEvent) (hc : ∀ (s : State) d a, c (s.dueAs d) a = c s a)
    (l : List α) (s : State) : l.foldl (fun s a => s.addDueIf (c s a) (e a)) s =
      s.dueAs (s.due ++ (l.filter (c s)).map e) := by
  induction l generalizing s with
  | nil => simp [State.dueAs]
  | cons a l ih =>
    rw [List.foldl_cons, List.filter_cons]
    cases h : c s a with
    | false => exact ih s
    | true =>
      have hcs : c (s.addDueIf true (e a)) = c s := funext fun b => hc s _ b
      rw [ih, hcs]
      simp [State.addDueIf, State.addDue, State.dueAs]

end

/-! ## The boundary of a frame event that nothing disturbs (R86, R95, R157) -/

/-- The state with its frame numbered and its holds counted (R86, R95). -/
def State.counted (s : State) : State :=
  { s with canvas := { s.canvas with frame := s.canvas.frame + 1, inputs := s.canvas.inputs.map Input.countHold } }

/-- The hold of an input has run out (R95). -/
def State.holdOut (s : State) (n : Nat) : Bool := (s.input n).loss == .holding && (s.input n).holdFrames == 0

section
variable {s : State}

theorem countHolds_eq (s : State) : s.countHolds =
    (s.mapCanvas fun c => { c with inputs := c.inputs.map Input.countHold }).dueAs (s.due ++ ([0, 1, 2, 3].filter
      (s.mapCanvas fun c => { c with inputs := c.inputs.map Input.countHold }).holdOut).map .holdEnd) := by
  unfold State.countHolds
  exact addDueIfs State.holdOut .holdEnd (fun _ _ _ => rfl) [0, 1, 2, 3] _

theorem onAir_false {c : Chan} (h : c.state = .idle ∨ c.state = .cued) : c.onAir = false := by
  rcases h with h | h <;> simp [Chan.onAir, h]

theorem testOverrun_of_quiet {ch : Channel} (h : (s.chan ch).state = .idle ∨ (s.chan ch).state = .cued) :
    s.testOverrun ch = s := by
  unfold State.testOverrun
  rw [onAir_false h]
  rfl

theorem stepChannel_of_quiet {ch : Channel} (h : (s.chan ch).state = .idle ∨ (s.chan ch).state = .cued) :
    s.stepChannel ch = s := by
  unfold State.stepChannel
  cases (s.chan ch).cues with
  | nil => rfl
  | cons e rest => rcases h with h | h <;> simp [h]

/-- The holds that have run out once the frame is numbered (R95). -/
def State.holdsOut (s : State) : List DueEvent := ([0, 1, 2, 3].filter s.counted.holdOut).map .holdEnd

theorem frameBoundary_of_quiet (h : ∀ ch, (s.chan ch).state = .idle ∨ (s.chan ch).state = .cued) :
    s.frameBoundary = s.counted.dueAs (s.due ++ s.holdsOut) := by
  have hc : (s.mapCanvas fun c => { c with frame := c.frame + 1 }).countHolds = s.counted.dueAs (s.due ++ s.holdsOut) :=
    countHolds_eq _
  unfold State.frameBoundary
  dsimp only
  rw [hc, testOverrun_of_quiet (s := s.counted.dueAs (s.due ++ s.holdsOut)) (ch := .a) (h .a),
    testOverrun_of_quiet (s := s.counted.dueAs (s.due ++ s.holdsOut)) (ch := .b) (h .b)]

/-! ## Missing assets reported (R99) -/

/-- One more missing asset, which is reported unless it was reported before or is in the list already. -/
def freshStep (reported : List Nat) (l : List (Nat × Nat)) (m : Nat × Nat) : List (Nat × Nat) :=
  if l.any (·.1 == m.1) || reported.contains m.1 then l else l ++ [m]

/-- The missing assets of the frame composed, with the zones that show them. -/
def State.missingShown (s : State) : List (Nat × Nat) :=
  s.canvas.visibility.filterMap fun e => e.missing.map fun id => (id, e.zone)

/-- The occurrence of an asset newly missing (R99). -/
def State.missingTold (s : State) (m : Nat × Nat) : Cond × Detail :=
  (.assetState, .assetState m.1 .missing (some m.2) (s.assetSize m.1))

/-- The assets of `l` have been reported missing, and nothing else has changed. -/
structure MissingTold (s : State) (l : List (Nat × Nat)) (u : State) : Prop where
  canvas : u.canvas = { s.canvas with missingReported := s.canvas.missingReported ++ l.map (·.1) }
  reports : Reports [] s u (l.map s.missingTold)

theorem MissingTold.next {l : List (Nat × Nat)} {u : State} (h : MissingTold s l u) (m : Nat × Nat) :
    MissingTold s (freshStep s.canvas.missingReported l m) (if u.canvas.missingReported.contains m.1 then u
      else (u.mapCanvas fun c => { c with missingReported := c.missingReported ++ [m.1] }).raise .assetState
        (.assetState m.1 .missing (some m.2) (u.assetSize m.1))) := by
  have hcontains : u.canvas.missingReported.contains m.1 = (l.any (·.1 == m.1) || s.canvas.missingReported.contains m.1) := by
    rw [h.canvas, Bool.eq_iff_iff]
    simp only [List.contains_iff_mem, List.mem_append, List.mem_map, Bool.or_eq_true, List.any_eq_true, beq_iff_eq]
    exact or_comm
  have hsize : u.assetSize m.1 = s.assetSize m.1 := by
    unfold State.assetSize State.asset?
    rw [h.canvas]
  unfold freshStep
  rw [hcontains, hsize]
  split
  · exact h
  · refine ⟨?_, ?_⟩
    · show { u.canvas with missingReported := u.canvas.missingReported ++ [m.1] } = _
      rw [h.canvas]
      simp
    · rw [List.map_append]
      exact h.reports.next ((Reports.of_links rfl rfl).next (.raise rfl (u.mapCanvas fun c =>
        { c with missingReported := c.missingReported ++ [m.1] }) _))

theorem reportMissing_told (s : State) :
    MissingTold s (s.missingShown.foldl (freshStep s.canvas.missingReported) []) s.reportMissing := by
  have hfold (es : List VisEntry) (l : List (Nat × Nat)) (u : State) (h : MissingTold s l u) :
      MissingTold s ((es.filterMap fun e => e.missing.map fun id => (id, e.zone)).foldl
        (freshStep s.canvas.missingReported) l) (es.foldl (fun s e =>
          match e.missing with
          | some id =>
            if s.canvas.missingReported.contains id then s
            else
              (s.mapCanvas fun c => { c with missingReported := c.missingReported ++ [id] }).raise .assetState
                (.assetState id .missing (some e.zone) (s.assetSize id))
          | none => s) u) := by
    induction es generalizing l u with
    | nil => exact h
    | cons e es ih =>
      rw [List.foldl_cons, List.filterMap_cons]
      cases he : e.missing with
      | none => exact ih l u h
      | some id => exact ih _ _ (h.next (id, e.zone))
  exact hfold s.canvas.visibility [] s ⟨by simp, .refl _ s⟩

end

/-! ## Programs that count the frame (R169, R170) -/

/-- A program after a frame that showed it or not, if it is active (R170). -/
def Program.counted (active seen : Bool) (g : Program) : Program :=
  if active then { g with onAir := g.onAir.map (Appearance.count g.cover seen) } else g

/-- The frame composed shows the program. -/
def State.showsProgram (s : State) (p : Nat) : Bool := s.canvas.visibility.any fun e => e.program == some p

/-- The program has no dwell left (R170). -/
def State.dwellOut (s : State) (p : Nat) : Bool := s.active p && (s.program p).onAir.any (·.remaining == 0)

/-- The programs of `l` have counted the frame. -/
structure ProgramsCounted (l : List Nat) (s t : State) : Prop where
  frame : DueFrame [.programs] s t
  reports : Reports [] s t []
  length : t.rotation.programs.length = s.rotation.programs.length
  programs : ∀ q, t.program q =
    if q ∈ l then (s.program q).counted (s.active q) (s.showsProgram q) else s.program q
  due : t.due = s.due ++ (l.filter t.dwellOut).map .dwellEnd

section
variable {s t u : State} {p : Nat}

theorem countProgram_eq (s : State) (p : Nat) : s.countProgram p =
    let u := s.mapProgram p (Program.counted (s.active p) (s.showsProgram p))
    if s.active p = true ∧ (s.program p).onAir.isSome = true then u.addDueIf (((s.program p).onAir.map
      (Appearance.count (s.program p).cover (s.showsProgram p))).any (·.remaining == 0)) (.dwellEnd p) else s := by
  unfold State.countProgram
  by_cases ha : s.active p = true
  · rw [if_pos ha]
    cases hg : (s.program p).onAir with
    | none => simp
    | some a =>
      dsimp only
      rw [if_pos ⟨ha, rfl⟩]
      have hmap : (s.mapProgram p fun g => { g with onAir := some (a.count (s.program p).cover (s.showsProgram p)) }) =
          s.mapProgram p (Program.counted (s.active p) (s.showsProgram p)) := by
        unfold State.mapProgram Program.counted
        rw [ha, hg]
        rfl
      unfold State.showsProgram at hmap ⊢
      rw [hmap]
      rfl
  · rw [if_neg ha, if_neg fun h => ha h.1]

end

end Sys2Proof.Machine
end

section
namespace Sys2Proof.Machine

set_option Elab.async false

section
variable {s t u : State} {p : Nat} {l : List Nat}

theorem DueFrame.canvas {P : List Part} (h : DueFrame P s t)
    (hP : [Part.canvas, .zones, .inputs, .assets].all (fun p => !P.contains p) = true := by decide) : t.canvas = s.canvas :=
  Frame.canvasSame (t := { t with due := s.due }) h hP

theorem DueFrame.crawl {P : List Part} (h : DueFrame P s t)
    (hP : (P.contains .crawl || P.contains .crawlConfig) = false := by decide) : t.crawl = s.crawl :=
  Frame.crawlSame (t := { t with due := s.due }) h hP

theorem DueFrame.dueAs {P : List Part} (h : DueFrame P s t) (d : List DueEvent) : DueFrame P s (t.dueAs d) := h

theorem active_congr (hc : t.canvas = s.canvas) (hw : t.crawl = s.crawl) (p : Nat) : t.active p = s.active p := by
  unfold State.active
  rw [carrying_eq, carrying_eq, hc, hw]

theorem ProgramsCounted.reads (h : ProgramsCounted l s t) (q : Nat) :
    t.active q = s.active q ∧ t.showsProgram q = s.showsProgram q := by
  have hc := h.frame.canvas
  refine ⟨active_congr hc h.frame.crawl q, ?_⟩
  unfold State.showsProgram
  rw [hc]

theorem ProgramsCounted.nil (s : State) : ProgramsCounted [] s s :=
  ⟨.of_frame (.refl _ s), .refl _ s, rfl, fun _ => rfl, by simp⟩

theorem ProgramsCounted.cons (k : ProgramsCounted [p] s u) (hp : p ∉ l) (h : ProgramsCounted l u t) :
    ProgramsCounted (p :: l) s t := by
  have hprogram : t.program p = u.program p := by rw [h.programs p, if_neg hp]
  have hout : t.dwellOut p = u.dwellOut p := by
    unfold State.dwellOut
    rw [(h.reads p).1, hprogram]
  refine ⟨k.frame.next h.frame, k.reports.next h.reports, h.length.trans k.length, fun q => ?_, ?_⟩
  · rw [h.programs q, (k.reads q).1, (k.reads q).2, k.programs q]
    by_cases hq : q = p
    · subst hq
      simp [hp]
    · simp [hq]
  · rw [h.due, k.due, List.append_assoc, ← List.map_append]
    have hsplit : (p :: l).filter t.dwellOut = [p].filter u.dwellOut ++ l.filter t.dwellOut := by
      rw [List.filter_cons, List.filter_cons, hout]
      split <;> rfl
    rw [hsplit]

/-- A program that is not active, or shows nothing, counts nothing. -/
theorem counted_of_still {g : Program} {active seen : Bool} (h : active = false ∨ g.onAir = none) :
    g.counted active seen = g := by
  unfold Program.counted
  rcases h with h | h
  · rw [h]
    rfl
  · cases g
    cases active <;> simp_all

theorem addDueIf_eq (s : State) (c : Bool) (e : DueEvent) :
    s.addDueIf c e = s.dueAs (s.due ++ if c = true then [e] else []) := by
  cases c <;> simp [State.addDueIf, State.addDue, State.dueAs]

theorem countProgram_counted (hp : p < s.rotation.programs.length) : ProgramsCounted [p] s (s.countProgram p) := by
  rw [countProgram_eq]
  dsimp only
  split
  · next h =>
    obtain ⟨ha, hon⟩ := h
    have hframe := mapProgram_frame s p (Program.counted (s.active p) (s.showsProgram p))
    have hlinks : Reports [] s (s.mapProgram p (Program.counted (s.active p) (s.showsProgram p))) [] := .of_links rfl rfl
    have hsame := program_mapProgram_same hp (Program.counted (s.active p) (s.showsProgram p))
    have hlength := length_mapProgram s p (Program.counted (s.active p) (s.showsProgram p))
    have hall (q : Nat) := program_mapProgram s p q (Program.counted (s.active p) (s.showsProgram p))
    have hactive : (s.mapProgram p (Program.counted (s.active p) (s.showsProgram p))).active p = s.active p := rfl
    generalize s.mapProgram p (Program.counted (s.active p) (s.showsProgram p)) = u at hframe hlinks hsame hlength hall hactive
    have hout : u.dwellOut p = ((s.program p).onAir.map
        (Appearance.count (s.program p).cover (s.showsProgram p))).any (·.remaining == 0) := by
      unfold State.dwellOut
      rw [hactive, ha, hsame]
      unfold Program.counted
      rw [ha]
      rfl
    rw [← hout, addDueIf_eq, hframe.due]
    refine ⟨.dueAs (.of_frame hframe) _, hlinks, hlength, fun q => (hall q).trans ?_, ?_⟩
    · by_cases hq : q = p
      · subst hq
        simp [hp]
      · simp [hq]
    · show s.due ++ _ = s.due ++ ([p].filter u.dwellOut).map .dwellEnd
      cases hd : u.dwellOut p <;> simp [hd]
  · next h =>
    have hstill : s.active p = false ∨ (s.program p).onAir = none := by
      rw [← Bool.not_eq_true, ← Option.not_isSome_iff_eq_none]
      exact not_and_or.mp h
    refine ⟨.of_frame (.refl _ s), .refl _ s, rfl, fun q => ?_, ?_⟩
    · by_cases hq : q = p
      · subst hq
        rw [if_pos (by simp), counted_of_still hstill]
      · rw [if_neg (by simpa using hq)]
    · have hd : s.dwellOut p = false := by
        unfold State.dwellOut
        rcases hstill with h | h <;> simp [h]
      simp [hd]

/-- Every program counts the frame (R170). -/
theorem countPrograms_counted (h : s.rotation.programs.length = 4) : ProgramsCounted [0, 1, 2, 3] s s.countPrograms := by
  have hfold (l : List Nat) (s : State) (hs : s.rotation.programs.length = 4) (hl : ∀ p ∈ l, p < 4) (hn : l.Nodup) :
      ProgramsCounted l s (l.foldl (fun s p => s.countProgram p) s) := by
    induction l generalizing s with
    | nil => exact .nil s
    | cons p l ih =>
      obtain ⟨hp, hn⟩ := List.nodup_cons.mp hn
      obtain ⟨hp4, hl⟩ := List.forall_mem_cons.mp hl
      have k := countProgram_counted (s := s) (p := p) (by rw [hs]; exact hp4)
      exact k.cons hp (ih _ (k.length.trans hs) hl hn)
  exact hfold [0, 1, 2, 3] s h (by decide) (by decide)

/-- The programs of a state, of which there are four. -/
theorem programs_eq_map (h : s.rotation.programs.length = 4) : s.rotation.programs = [0, 1, 2, 3].map s.program := by
  unfold State.program
  obtain ⟨a, b, c, d, hl⟩ : ∃ a b c d, s.rotation.programs = [a, b, c, d] := by
    match s.rotation.programs, h with
    | [a, b, c, d], _ => exact ⟨a, b, c, d, rfl⟩
  rw [hl]
  rfl

end

end Sys2Proof.Machine
end

section
namespace Sys2Proof.Machine

set_option Elab.async false

/-! ## The work of a frame just composed (R99, R103, R169, R170, R180, R194) -/

/-- A zone after the takeovers have counted the frame (R92, R103). -/
def State.countZone (s : State) (z : Zone) : Zone :=
  match s.shownTop z.spec.id with
  | some top => z.count s.canvas.frame top
  | none => z

/-- The zones in which a takeover has no frame left (R113). -/
def State.expiries (s : State) : List DueEvent :=
  (s.canvas.zones.filter fun z => z.arb.service.any (·.remaining == some 0)).map fun z => .takeoverExpiry z.spec.id

section
variable {s t u w shown : State} {kept : Option Nat}

theorem countTakeovers_eq (s : State) : s.countTakeovers =
    let u := s.mapCanvas fun c => { c with zones := c.zones.map s.countZone }
    u.dueAs (u.due ++ u.expiries) := rfl

theorem countTakeovers_frame (s : State) : DueFrame [.zones] s s.countTakeovers := by
  rw [countTakeovers_eq]
  refine DueFrame.dueAs (.of_frame ?_) _
  exact .update ⟨rfl, rfl⟩ ⟨rfl, rfl⟩ fun p hp => by cases p <;> simp_all [samePart]

/-- What the work of a frame makes of the state `w` that holds the composed frame; `shown` is any state that agrees with `w` in
what credit and strip look at, its programs having recorded what they show. -/
structure FrameWorked (kept : Option Nat) (w shown t : State) : Prop where
  frame : DueFrame [.zones, .assets, .programs, .exposure, .crawl] w t
  canvas : t.canvas =
    { w.canvas with
      missingReported := w.canvas.missingReported ++
        (w.missingShown.foldl (freshStep w.canvas.missingReported) []).map (·.1)
      zones := w.canvas.zones.map w.countZone }
  due : t.due = w.due ++ ([0, 1, 2, 3].filter t.dwellOut).map .dwellEnd ++ t.expiries
  rotation : t.rotation = { w.rotation with programs := [0, 1, 2, 3].map fun p =>
    ({ w.program p with shown := (w.program p).onAir } : Program).counted (w.active p) (w.showsProgram p) }
  exposure : t.exposure = shown.creditFrame.exposure
  crawl : t.crawl = (shown.stepCrawl kept).crawl
  reports : ∃ credit strip, (∀ e ∈ credit, e.1 ∈ [Cond.quotaMilestone]) ∧ (∀ e ∈ strip, e.1 ∈ [Cond.messageDone]) ∧
    Reports [] shown shown.creditFrame credit ∧ Reports [] shown (shown.stepCrawl kept) strip ∧
    Reports [] w t ((w.missingShown.foldl (freshStep w.canvas.missingReported) []).map w.missingTold ++ credit ++ strip)

/-- `shown` agrees with `w` in what credit and strip look at, once the programs have recorded what they show. -/
structure ShownAs (w shown : State) : Prop where
  zones : shown.canvas.zones = w.canvas.zones
  visibility : shown.canvas.visibility = w.canvas.visibility
  rotation : shown.rotation = w.recordShown.rotation
  exposure : shown.exposure = w.exposure
  crawl : shown.crawl = w.crawl

theorem DueFrame.chan {P : List Part} (h : DueFrame P s t) (ch : Channel)
    (hP : P.contains .channels = false := by decide) : t.chan ch = s.chan ch :=
  Frame.chan (t := { t with due := s.due }) h ch hP

theorem DueFrame.exposure {P : List Part} (h : DueFrame P s t)
    (hP : P.contains .exposure = false := by decide) : t.exposure = s.exposure :=
  Frame.exposure (t := { t with due := s.due }) h hP

theorem DueFrame.rotation {P : List Part} (h : DueFrame P s t)
    (hP : [Part.sponsors, .programs, .features].all (fun p => !P.contains p) = true := by decide) :
    t.rotation = s.rotation := Frame.rotation (t := { t with due := s.due }) h hP

/-- Where the programs alone may change, the rest of the rotation unit stands. -/
theorem DueFrame.rotation_but_programs {P : List Part} (h : DueFrame P s t)
    (hP : [Part.sponsors, .features].all (fun p => !P.contains p) = true := by decide) :
    t.rotation = { s.rotation with programs := t.rotation.programs } := by
  simp only [List.all_cons, List.all_nil, Bool.and_true, Bool.and_eq_true, Bool.not_eq_true'] at hP
  obtain ⟨hs, hf⟩ := hP
  have h1 : samePart s { t with due := s.due } .features := Frame.same h .features (by simpa using hf)
  have h2 : samePart s { t with due := s.due } .sponsors := Frame.same h .sponsors (by simpa using hs)
  simp only [samePart] at h1 h2
  cases hs : s.rotation
  cases ht : t.rotation
  simp_all

theorem active_of_specs (hc : t.canvas.zones.map (·.spec) = s.canvas.zones.map (·.spec))
    (hw : t.crawl.config = s.crawl.config) (p : Nat) : t.active p = s.active p := by
  unfold State.active
  rw [carrying_eq, carrying_eq, hc, hw]

theorem countZone_spec (s : State) (z : Zone) : (s.countZone z).spec = z.spec := by
  unfold State.countZone
  split <;> rfl

theorem countZone_congr (hv : t.canvas.visibility = s.canvas.visibility) (hf : t.canvas.frame = s.canvas.frame) :
    t.countZone = s.countZone := by
  funext z
  unfold State.countZone State.shownTop
  rw [hv, hf]

theorem recordShown_program (w : State) (p : Nat) :
    w.recordShown.program p = { w.program p with shown := (w.program p).onAir } := by
  show (w.rotation.programs.map fun g => { g with shown := g.onAir }).getD p .reset = _
  unfold State.program
  rw [List.getD_eq_getElem?_getD, List.getD_eq_getElem?_getD, List.getElem?_map]
  cases w.rotation.programs[p]? <;> rfl

/-- The work of a frame up to the channels (log 9). -/
def State.workedUnits (kept : Option Nat) (w : State) : State :=
  ((w.reportMissing.recordShown.creditFrame.countPrograms).stepCrawl kept).countTakeovers

theorem workedUnits_worked (hp : w.rotation.programs.length = 4) (hs : ShownAs w shown) :
    FrameWorked kept w shown (w.workedUnits kept) := by
  unfold State.workedUnits
  have k1 := reportMissing_told w
  have f1 := reportMissing_frame w
  generalize w.reportMissing = w1 at *
  have f2 := recordShown_frame w1
  have p2 := recordShown_program w1
  have l2 : Reports [] w1 w1.recordShown [] := .of_links rfl rfl
  have r2 : w1.recordShown.rotation = w.recordShown.rotation :=
    congrArg (fun r : Rotation =>
      ({ r with programs := r.programs.map fun g => ({ g with shown := g.onAir } : Program) } : Rotation)) f1.rotation
  generalize w1.recordShown = w2 at *
  have m3 := creditFrame_mirror (s := shown) (t := w2) (by rw [hs.visibility, f2.canvasSame, k1.canvas])
    (r2.trans hs.rotation.symm) (by rw [hs.crawl, f2.crawlSame, f1.crawlSame]) (by rw [hs.exposure, f2.exposure, f1.exposure])
  have f3 := creditFrame_frame w2
  generalize w2.creditFrame = w3 at *
  have hrot3 : w3.rotation = w2.rotation := f3.rotation
  have hlen3 : w3.rotation.programs.length = 4 := by
    rw [hrot3, r2]
    simpa [State.recordShown] using hp
  have k4 := countPrograms_counted hlen3
  generalize w3.countPrograms = w4 at *
  have hcanvas4 : w4.canvas = w1.canvas := by rw [k4.frame.canvas, f3.canvasSame, f2.canvasSame]
  have hcrawl4 : w4.crawl = w.crawl := by rw [k4.frame.crawl, f3.crawlSame, f2.crawlSame, f1.crawlSame]
  have m5 := stepCrawl_mirror (s := shown) (t := w4) (hcrawl4.trans hs.crawl.symm) (by rw [hs.zones, hcanvas4, k1.canvas])
    (by rw [hs.visibility, hcanvas4, k1.canvas]) kept
  have f5 := stepCrawl_frame w4 kept
  generalize w4.stepCrawl kept = w5 at *
  have hcanvas5 : w5.canvas = w1.canvas := f5.canvasSame.trans hcanvas4
  have hcount : w5.countZone = w.countZone :=
    countZone_congr (by rw [hcanvas5, k1.canvas]) (by rw [hcanvas5, k1.canvas])
  have f6 := countTakeovers_frame w5
  have hcanvas6 : w5.countTakeovers.canvas = { w5.canvas with zones := w5.canvas.zones.map w5.countZone } := rfl
  have hdue6 : w5.countTakeovers.due = w5.due ++ w5.countTakeovers.expiries := rfl
  have hcrawl6 : w5.countTakeovers.crawl = w5.crawl := rfl
  have hrot6 : w5.countTakeovers.rotation = w5.rotation := rfl
  have hexp6 : w5.countTakeovers.exposure = w5.exposure := rfl
  have l6 : Reports [] w5 w5.countTakeovers [] := .of_links rfl rfl
  generalize w5.countTakeovers = t at *
  have hactive (p : Nat) : t.active p = w4.active p := by
    refine active_of_specs ?_ ?_ p
    · rw [hcanvas6, hcanvas5, hcanvas4, List.map_map]
      exact List.map_congr_left fun z _ => countZone_spec w5 z
    · rw [hcrawl6]
      exact f5.same .crawlConfig (by decide)
  have hprogram (p : Nat) : t.program p = w4.program p :=
    program_of_rotation (hrot6.trans f5.rotation) p
  have hout : t.dwellOut = w4.dwellOut := by
    funext p
    unfold State.dwellOut
    rw [hactive, hprogram]
  have hreads3 (p : Nat) : w3.active p = w.active p ∧ w3.showsProgram p = w.showsProgram p := by
    have hc3 : w3.canvas = w1.canvas := f3.canvasSame.trans f2.canvasSame
    refine ⟨active_of_specs (by rw [hc3, k1.canvas]) (by rw [f3.crawlSame, f2.crawlSame, f1.crawlSame]) p, ?_⟩
    unfold State.showsProgram
    rw [hc3, k1.canvas]
  constructor
  case frame =>
    exact (((((DueFrame.of_frame (Frame.mono f1)).next (.of_frame f2)).next (.of_frame f3)).next k4.frame).next
      (.of_frame f5)).next f6
  case canvas => rw [hcanvas6, hcanvas5, k1.canvas, hcount]
  case due => rw [hdue6, f5.due, k4.due, f3.due, f2.due, f1.due, hout]
  case rotation =>
    have hlen4 : w4.rotation.programs.length = 4 := k4.length.trans hlen3
    rw [hrot6, f5.rotation, k4.frame.rotation_but_programs, hrot3, r2, programs_eq_map hlen4]
    refine congrArg (fun l => ({ w.rotation with programs := l } : Rotation)) (List.map_congr_left fun p hm => ?_)
    rw [k4.programs, if_pos hm, (hreads3 p).1, (hreads3 p).2, program_of_rotation hrot3, p2, program_of_rotation f1.rotation]
  case exposure => exact (hexp6.trans (f5.exposure.trans k4.frame.exposure)).trans m3.same
  case crawl => rw [hcrawl6, ← m5.same]
  case reports =>
    obtain ⟨credit, hck, hcs, hcw⟩ := m3.told
    obtain ⟨strip, hsk, hss, hsw⟩ := m5.told
    refine ⟨credit, strip, hck, hsk, hcs, hss, ?_⟩
    simpa using ((((k1.reports.next l2).next hcw).next k4.reports).next hsw).next l6

theorem frameWork_of_quiet (h : ∀ ch, (w.chan ch).state = .idle ∨ (w.chan ch).state = .cued)
    (hf : DueFrame [.zones, .assets, .programs, .exposure, .crawl] w (w.workedUnits kept)) :
    w.frameWork kept = w.workedUnits kept := by
  have hchan (ch : Channel) : (w.workedUnits kept).chan ch = w.chan ch := hf.chan ch
  have hq (ch : Channel) : ((w.workedUnits kept).chan ch).state = .idle ∨ ((w.workedUnits kept).chan ch).state = .cued := by
    rw [hchan]
    exact h ch
  have he : w.frameWork kept = ((w.workedUnits kept).stepChannel .a).stepChannel .b := rfl
  rw [he, stepChannel_of_quiet (hq .a), stepChannel_of_quiet (hq .b)]

end

end Sys2Proof.Machine
end

section
namespace Sys2Proof.Machine

set_option Elab.async false

/-! ## What a zone is rendered as (R91, R92, R95, R97, R99, R157, R197) -/

section
variable {s : State}

theorem renderAsset_ready {n pos : Nat} {a : Asset} (h : s.asset? n = some a) (hr : a.ready = true) :
    s.renderAsset n pos = .content (.asset n (a.frameAt pos)) := by
  unfold State.renderAsset
  rw [h]
  exact if_pos hr

theorem renderAsset_missing {n pos : Nat} (h : ∀ a ∈ s.asset? n, a.ready = false) :
    s.renderAsset n pos = ⟨.slate, some .missingAsset, none, some n⟩ := by
  unfold State.renderAsset
  cases ha : s.asset? n with
  | none => rfl
  | some a =>
    dsimp only
    rw [h a ha]
    rfl

theorem frameAt_eq (a : Asset) (pos : Nat) : a.frameAt pos = (match a.kind with
    | .still => 0
    | .run => min pos (a.frames - 1)
    | .loop => pos % a.frames) := by
  unfold Asset.frameAt
  cases a.kind <;> rfl

theorem renderProgram_slate {p : Nat} (h : ∀ a ∈ (s.program p).onAir, a.entry = none) :
    s.renderProgram p = ⟨.slate, some .noEntry, some p, none⟩ := by
  unfold State.renderProgram
  cases ha : (s.program p).onAir with
  | none => rfl
  | some a =>
    obtain ⟨entry, remaining, elapsed, visible, pos⟩ := a
    obtain rfl : entry = none := h _ ha
    rfl

theorem renderProgram_entry {p : Nat} {a : Appearance} {e : RotEntry} (ha : (s.program p).onAir = some a)
    (he : a.entry = some e) : s.renderProgram p = { s.renderAsset e.asset a.pos with program := some p } := by
  obtain ⟨entry, remaining, elapsed, visible, pos⟩ := a
  obtain rfl : entry = some e := he
  unfold State.renderProgram
  rw [ha]

theorem isIdle_iff (c : Crawl) : c.isIdle = true ↔ c.strip = [] ∧ c.order = [] := by
  simp [Crawl.isIdle]

theorem renderCrawl_shown (h : s.crawl.strip ≠ [] ∨ s.crawl.order ≠ []) : s.renderCrawl.slate = none := by
  unfold State.renderCrawl
  rw [if_neg fun hi => by
    obtain ⟨h1, h2⟩ := (isIdle_iff _).mp hi
    exact h.elim (fun k => k h1) fun k => k h2]
  rfl

theorem renderCrawl_slate (h1 : s.crawl.strip = []) (h2 : s.crawl.order = []) (h : s.crawl.config.idle = none) :
    s.renderCrawl = .slateFor .slateBase := by
  unfold State.renderCrawl
  rw [if_pos ((isIdle_iff _).mpr ⟨h1, h2⟩), h]

theorem renderCrawl_program (h1 : s.crawl.strip = []) (h2 : s.crawl.order = []) {p : Nat}
    (h : s.crawl.config.idle = some p) : s.renderCrawl = s.renderProgram p := by
  unfold State.renderCrawl
  rw [if_pos ((isIdle_iff _).mpr ⟨h1, h2⟩), h]

theorem render_camera (n : Nat) (i : Input) :
    (i.enabled = false → (i.render n).slate = some .inputDisabled) ∧
    (i.enabled = true → i.loss = .slated → (i.render n).slate = some .signalLost) ∧
    (i.enabled = true → i.loss = .live → ∀ f ∈ i.latest, i.render n = .content (.live n f)) ∧
    (i.enabled = true → i.loss = .holding → 0 < i.holdFrames → ∀ f ∈ i.held, i.render n = .content (.heldFrame n f)) := by
  unfold Input.render
  refine ⟨fun he => ?_, fun he hl => ?_, fun he hl f hf => ?_, fun he hl hn f hf => ?_⟩
  · rw [he]
    rfl
  · rw [he, hl]
    rfl
  · rw [he, hl, show i.latest = some f from hf]
    rfl
  · rw [he, hl, show i.held = some f from hf]
    exact if_pos hn

theorem renderChannel_head {ch : Channel} {e : Cue} {rest : List Cue} {c : Clip} (he : (s.chan ch).cues = e :: rest)
    (hc : s.clip? e.fields.clip = some c) : s.renderChannel ch = .content (.clipFrame c.input (s.chan ch).pos) := by
  unfold State.renderChannel
  rw [he]
  dsimp only
  rw [hc]

theorem textOf_eq (n : Nat) (c : Crawl) :
    c.textOf n = ((c.messages.find? (·.id == n)).map (·.text)).getD [] := by
  unfold Crawl.textOf Crawl.message?
  cases c.messages.find? (·.id == n) <;> rfl

/-! ### No content is rendered as slate for no reason -/

theorem renderAsset_slate (n pos : Nat) : (s.renderAsset n pos).slate ≠ some .none := by
  unfold State.renderAsset
  split
  · split <;> simp [Rendering.content]
  · simp

theorem renderProgram_reason (p : Nat) : (s.renderProgram p).slate ≠ some .none := by
  unfold State.renderProgram
  split
  · exact renderAsset_slate _ _
  · simp [Rendering.slateFor]

theorem inputRender_reason (n : Nat) (i : Input) : (i.render n).slate ≠ some .none := by
  unfold Input.render
  split
  · simp [Rendering.slateFor]
  · split
    · simp [Rendering.content]
    · split <;> simp [Rendering.content, Rendering.slateFor]
    · simp [Rendering.slateFor]

theorem renderBase_reason (z : Zone) : (s.renderBase z).slate ≠ some .none := by
  unfold State.renderBase
  split
  · exact inputRender_reason _ _
  · simp [Rendering.content]
  · simp [Rendering.content]
  · simp [Rendering.content]
  · simp [Rendering.content]
  · exact renderProgram_reason _
  · unfold State.renderCrawl
    split
    · split
      · exact renderProgram_reason _
      · simp [Rendering.slateFor]
    · simp [Rendering.content]
  · simp [Rendering.slateFor]
  · exact renderAsset_slate _ _

theorem renderTakeover_reason (k : InService) : (s.renderTakeover k).slate ≠ some .none := by
  unfold State.renderTakeover
  split
  · exact renderAsset_slate _ _
  · unfold State.renderChannel
    split
    · split <;> simp [Rendering.content, Rendering.slateFor]
    · simp [Rendering.slateFor]
  · simp [Rendering.content]

/-- What a zone is rendered as in the frame being composed (R87, R91). -/
def State.rendering (s : State) (z : Zone) : Rendering :=
  match s.frameTop z with
  | some k => s.renderTakeover k
  | none => s.renderBase z

theorem rendering_reason (z : Zone) : (s.rendering z).slate ≠ some .none := by
  unfold State.rendering
  split
  · exact renderTakeover_reason _
  · exact renderBase_reason _

theorem visEntry_rendered (z : Zone) (top : Option InService) {r : Rendering} (h : r.slate ≠ some .none) :
    (visEntry z top r).rendered = decide ((visEntry z top r).reason = .none) := by
  show r.slate.isNone = decide (r.slate.getD .none = .none)
  cases hr : r.slate with
  | none => rfl
  | some reason =>
    have hne : reason ≠ .none := fun he => h (by rw [hr, he])
    simp [hne]

end

end Sys2Proof.Machine

namespace Sys2Proof
open Machine

/-- What a base is rendered as, source by source (R91, R92, R95, R99, R197). -/
theorem base_rendered (z : Zone) (s : State) :
    let r := s.renderBase z
    (∀ n, z.spec.base = .camera n → r = (s.input n).render n) ∧
    (z.spec.base = .clock → r = .content (.clockText s.timing.clockText)) ∧
    (z.spec.base = .play → r = .content (.playText s.timing.playText)) ∧
    (z.spec.base = .brk → r = .content (.breakText s.timing.breakText)) ∧
    (z.spec.base = .score → r = .content (.score s.record.game.home s.record.game.guest s.record.game.possession
      s.record.game.fields)) ∧
    (z.spec.base = .slate → r = .slateFor .slateBase) ∧
    (∀ n, z.spec.base = .asset n → r = s.renderAsset n z.basePos) ∧
    (∀ p, z.spec.base = .rotation p → r = s.renderProgram p) ∧ (z.spec.base = .crawl → r = s.renderCrawl) := by
  dsimp only
  unfold State.renderBase
  refine ⟨fun n h => ?_, fun h => ?_, fun h => ?_, fun h => ?_, fun h => ?_, fun h => ?_, fun n h => ?_, fun p h => ?_,
    fun h => ?_⟩ <;> rw [h]

/-- What a takeover is rendered as, content by content (R91, R157, R197). -/
theorem takeover_rendered (k : InService) (s : State) :
    let r := s.renderTakeover k
    (∀ n, k.content = .asset n → r = s.renderAsset n k.pos) ∧ (∀ ch, k.content = .channel ch → r = s.renderChannel ch) ∧
    ∀ m, k.content = .card m → r = .content (.card (s.crawl.textOf m)) := by
  dsimp only
  unfold State.renderTakeover
  refine ⟨fun n h => ?_, fun ch h => ?_, fun m h => ?_⟩ <;> rw [h]

end Sys2Proof
end

section
namespace Sys2Proof.Machine

set_option Elab.async false

/-! ## A frame composed where nothing disturbs it, and what its work makes of it -/

/-- The frame composed, where no replay is on air and nothing awaits application (R86, R87). -/
def State.quietFrame (s : State) : State := (s.counted.dueAs (s.due ++ s.holdsOut)).compose

section
variable {s t shown : State} {kept : Option Nat}

theorem quietFrame_canvas (s : State) : s.quietFrame.canvas =
    { s.counted.canvas with
      visibility := s.canvas.zones.map fun z => visEntry z (s.counted.frameTop z) (s.counted.rendering z)
      frameOut := s.canvas.zones.map fun z => ⟨z.spec.id, (s.counted.rendering z).picture⟩
      surround := .slate } := by
  unfold State.quietFrame State.compose
  dsimp only
  rw [List.map_map, List.map_map]
  rfl

theorem quietFrame_frame (s : State) : DueFrame [.canvas, .inputs] s s.quietFrame := by
  have hcount : Frame [.canvas, .inputs] s s.counted :=
    .update ⟨rfl, rfl⟩ ⟨rfl, rfl⟩ fun p hp => by cases p <;> simp_all [samePart, State.counted]
  exact ((DueFrame.of_frame hcount).dueAs (s.due ++ s.holdsOut)).next (.of_frame (compose_frame _))

theorem quietFrame_missing (s : State) : s.quietFrame.missingShown =
    s.canvas.zones.filterMap fun z => (s.counted.rendering z).missing.map fun id => (id, z.spec.id) := by
  unfold State.missingShown
  rw [quietFrame_canvas, List.filterMap_map]
  rfl

theorem quietFrame_shownTop (hs : s.zonesWf) {z : Zone} (hz : z ∈ s.canvas.zones) :
    s.quietFrame.shownTop z.spec.id = some (visEntry z (s.counted.frameTop z) (s.counted.rendering z)).top := by
  unfold State.shownTop
  rw [quietFrame_canvas]
  have hfind : s.canvas.zones.find? (·.spec.id == z.spec.id) = some z := zone_of_zonesWf hs hz
  show ((s.canvas.zones.map fun z => visEntry z (s.counted.frameTop z) (s.counted.rendering z)).find? _).map _ = _
  rw [List.find?_map]
  exact congrArg _ (congrArg (Option.map fun z => visEntry z (s.counted.frameTop z) (s.counted.rendering z)) hfind)

/-- The takeovers and the base of each zone count the frame (R92, R103). -/
theorem quietFrame_counts (hs : s.zonesWf) : s.canvas.zones.map s.quietFrame.countZone =
    s.canvas.zones.map fun z => z.count (s.canvas.frame + 1)
      (visEntry z (s.counted.frameTop z) (s.counted.rendering z)).top := by
  refine List.map_congr_left fun z hz => ?_
  unfold State.countZone
  rw [quietFrame_shownTop hs hz, quietFrame_canvas]
  rfl

theorem zoneCount_eq (frame : Nat) (z : Zone) (top : Option InService) (r : Rendering) :
    z.count frame (visEntry z top r).top =
      { z with
        basePos := if top = none then z.basePos + 1 else z.basePos
        arb := { z.arb with service := z.arb.service.map fun k =>
          if k.grantFrame ≤ frame then
            { k with
              served := min (2 ^ 32 - 1) (k.served + 1)
              remaining := k.remaining.map (· - 1)
              pos := if top.map (·.level) = some k.level then k.pos + 1 else k.pos }
          else k } } := by
  have hbase : (visEntry z top r).top = .base ↔ top = none := by cases top <;> simp [visEntry]
  unfold Zone.count InService.count
  simp only [hbase]
  congr 2
  refine List.map_congr_left fun k _ => ?_
  have hlevel : (visEntry z top r).top = .level k.level ↔ top.map (·.level) = some k.level := by
    cases top <;> simp [visEntry]
  simp only [hlevel]

end

end Sys2Proof.Machine
end

section
namespace Sys2Proof.Machine

set_option Elab.async false

section
variable {s t shown : State} {kept : Option Nat}

theorem frameAfter_worked (hq : ∀ ch, (s.chan ch).state = .idle ∨ (s.chan ch).state = .cued) (ht : s.tablesWf)
    (hs : ShownAs s.quietFrame shown) : FrameWorked kept s.quietFrame shown (s.frameAfter kept) := by
  have hf := quietFrame_frame s
  have hw : FrameWorked kept s.quietFrame shown (s.quietFrame.workedUnits kept) :=
    workedUnits_worked (by rw [hf.rotation]; exact ht.programs) hs
  have he : s.frameAfter kept = s.quietFrame.frameWork kept :=
    congrArg (fun u : State => u.compose.frameWork kept) (frameBoundary_of_quiet hq)
  rw [he, frameWork_of_quiet (fun ch => by rw [hf.chan]; exact hq ch) hw.frame]
  exact hw

section
variable (h : FrameWorked kept s.quietFrame shown t)
include h

theorem FrameWorked.visibility : t.canvas.visibility =
    s.canvas.zones.map fun z => visEntry z (s.counted.frameTop z) (s.counted.rendering z) := by
  rw [h.canvas, quietFrame_canvas]

theorem FrameWorked.frameOut : t.canvas.frameOut =
    s.canvas.zones.map fun z => ⟨z.spec.id, (s.counted.rendering z).picture⟩ := by
  rw [h.canvas, quietFrame_canvas]

theorem FrameWorked.inputs : t.canvas.inputs = s.counted.canvas.inputs := by
  rw [h.canvas, quietFrame_canvas]

theorem FrameWorked.zones (hs : s.zonesWf) : t.canvas.zones = s.canvas.zones.map fun z =>
    z.count (s.canvas.frame + 1) (visEntry z (s.counted.frameTop z) (s.counted.rendering z)).top := by
  rw [← quietFrame_counts hs, h.canvas, quietFrame_canvas]
  rfl

theorem FrameWorked.specs : t.canvas.zones.map (·.spec) = s.canvas.zones.map (·.spec) := by
  rw [h.canvas, quietFrame_canvas, List.map_map]
  exact List.map_congr_left fun z _ => countZone_spec _ z

/-- A pixel that no zone covers shows the slate that surrounds the zones (R86). -/
theorem FrameWorked.pictureAt {x y : Nat} (hc : ∀ z ∈ s.canvas.zones, covers x y z.spec = false) :
    t.pictureAt x y = .slate := by
  have hfind : t.canvas.zones.find? (fun z => covers x y z.spec) = none := by
    refine List.find?_eq_none.2 fun z hz => ?_
    have hm : z.spec ∈ s.canvas.zones.map (·.spec) := h.specs ▸ List.mem_map_of_mem hz
    obtain ⟨y, hy, he⟩ := List.mem_map.mp hm
    rw [← he, hc y hy]
    exact Bool.false_ne_true
  unfold State.pictureAt
  rw [hfind, h.canvas, quietFrame_canvas]

theorem FrameWorked.crawlConfig : t.crawl.config = s.crawl.config :=
  Eq.trans (Frame.same h.frame .crawlConfig (by decide)) (Frame.same (quietFrame_frame s) .crawlConfig (by decide))

/-- A rotation program is active as its carrying zones give it, which a frame does not change. -/
theorem FrameWorked.active (p : Nat) : t.active p = s.active p := active_of_specs h.specs h.crawlConfig p

/-- Every program records what it shows, and an active one counts the frame (R169, R170). -/
theorem FrameWorked.rotation_eq : t.rotation = { s.rotation with programs := [0, 1, 2, 3].map fun p =>
    ({ s.program p with shown := (s.program p).onAir } : Program).counted (s.active p) (t.showsProgram p) } := by
  have hf := quietFrame_frame s
  rw [h.rotation, hf.rotation]
  refine congrArg (fun l => ({ s.rotation with programs := l } : Rotation)) (List.map_congr_left fun p _ => ?_)
  have hseen : t.showsProgram p = s.quietFrame.showsProgram p := by
    unfold State.showsProgram
    rw [h.canvas]
  have hactive : s.quietFrame.active p = s.active p := by
    refine active_of_specs ?_ (Frame.same hf .crawlConfig (by decide)) p
    rw [quietFrame_canvas]
    rfl
  rw [hseen, hactive, program_of_rotation hf.rotation p]

theorem FrameWorked.due_eq (hd : s.due = []) : t.due =
    ([0, 1, 2, 3].filter t.holdOut).map .holdEnd ++ ([0, 1, 2, 3].filter t.dwellOut).map .dwellEnd ++ t.expiries := by
  have hhold : t.holdOut = s.counted.holdOut := by
    funext n
    unfold State.holdOut State.input
    rw [h.inputs]
  have hdue : s.quietFrame.due = s.due ++ s.holdsOut := rfl
  rw [h.due, hdue, hd, hhold]
  rfl

theorem FrameWorked.holdEnd_mem (hd : s.due = []) {n : Nat} (hn : n < 4) :
    DueEvent.holdEnd n ∈ t.due ↔ (t.input n).loss = .holding ∧ (t.input n).holdFrames = 0 := by
  rw [h.due_eq hd]
  simp [State.expiries, State.holdOut]
  omega

theorem FrameWorked.dwellEnd_mem (hd : s.due = []) {p : Nat} (hp : p < 4) :
    DueEvent.dwellEnd p ∈ t.due ↔ t.active p = true ∧ ∃ a ∈ (t.program p).onAir, a.remaining = 0 := by
  rw [h.due_eq hd]
  have hm : p = 0 ∨ p = 1 ∨ p = 2 ∨ p = 3 := by omega
  simp [State.expiries, State.dwellOut, hm, Option.any_eq_true]

theorem FrameWorked.expiry_mem (hd : s.due = []) {zone : Nat} :
    DueEvent.takeoverExpiry zone ∈ t.due ↔
      ∃ z ∈ t.canvas.zones, z.spec.id = zone ∧ ∃ k ∈ z.arb.service, k.remaining = some 0 := by
  rw [h.due_eq hd]
  simp [State.expiries, and_comm, and_left_comm]

theorem FrameWorked.missing : t.canvas.missingReported = s.canvas.missingReported ++
    (((s.canvas.zones.filterMap fun z => (s.counted.rendering z).missing.map fun id => (id, z.spec.id)).foldl
      (freshStep s.canvas.missingReported) []).map (·.1)) := by
  rw [← quietFrame_missing, h.canvas, quietFrame_canvas]
  rfl

/-- Each asset newly missing is reported with the lowest zone that shows it (R99). -/
theorem FrameWorked.missing_told (hl : s.linksWf) : Gains s t .assetState
    (((s.canvas.zones.filterMap fun z => (s.counted.rendering z).missing.map fun id => (id, z.spec.id)).foldl
      (freshStep s.canvas.missingReported) []).map fun m => .assetState m.1 .missing (some m.2) (s.assetSize m.1)) := by
  obtain ⟨credit, strip, hck, hsk, -, -, hw⟩ := h.reports
  rw [quietFrame_missing] at hw
  have hr : Reports [] s t _ := hw
  refine hr.gainsOf hl ?_
  have hck' : ∀ e ∈ credit, e.1 = Cond.quotaMilestone := by simpa using hck
  have hsk' : ∀ e ∈ strip, e.1 = Cond.messageDone := by simpa using hsk
  rw [detailsOf_append, detailsOf_append, detailsOf_of_other hck' (by decide), detailsOf_of_other hsk' (by decide),
    List.append_nil, List.append_nil]
  have hmap (l : List (Nat × Nat)) : l.map s.quietFrame.missingTold =
      (l.map fun m => Detail.assetState m.1 .missing (some m.2) (s.assetSize m.1)).map fun d => (Cond.assetState, d) := by
    rw [List.map_map]
    rfl
  exact (congrArg (detailsOf .assetState) (hmap _)).trans (detailsOf_kind_map _ _)

/-- Milestones and messages done are those of the credit and of the strip alone. -/
theorem FrameWorked.links (hl : s.linksWf) (hp : shown.production = s.production) (ht : shown.table = s.table) (link : Link) :
    (t.link link).entry .quotaMilestone = (shown.creditFrame.link link).entry .quotaMilestone ∧
    (t.link link).entry .messageDone = ((shown.stepCrawl kept).link link).entry .messageDone := by
  obtain ⟨credit, strip, hck, hsk, hcredit, hstrip, hw⟩ := h.reports
  have hl' : shown.linksWf := by
    unfold State.linksWf
    rw [hp, ht]
    exact hl
  have hlink : shown.link link = s.link link := by
    unfold State.link
    rw [hp, ht]
  have hmissing (l : List (Nat × Nat)) : ∀ e ∈ l.map s.quietFrame.missingTold, e.1 = Cond.assetState :=
    List.forall_mem_map.mpr fun _ _ => rfl
  have hck' : ∀ e ∈ credit, e.1 = Cond.quotaMilestone := by simpa using hck
  have hsk' : ∀ e ∈ strip, e.1 = Cond.messageDone := by simpa using hsk
  have hr : Reports [] s t _ := hw
  have hmilestone : Gains s t .quotaMilestone (detailsOf .quotaMilestone credit) := hr.gainsOf hl <| by
    rw [detailsOf_append, detailsOf_append, detailsOf_of_other (hmissing _) (by decide),
      detailsOf_of_other hsk' (by decide), List.append_nil, List.nil_append]
  have hdone : Gains s t .messageDone (detailsOf .messageDone strip) := hr.gainsOf hl <| by
    rw [detailsOf_append, detailsOf_append, detailsOf_of_other (hmissing _) (by decide),
      detailsOf_of_other hck' (by decide), List.append_nil, List.nil_append]
  refine ⟨?_, ?_⟩
  · rw [hmilestone link, (hcredit.gains hl' : Gains _ _ .quotaMilestone _) link, hlink]
  · rw [hdone link, (hstrip.gains hl' : Gains _ _ .messageDone _) link, hlink]

theorem FrameWorked.frame_due :
    DueFrame [.canvas, .zones, .inputs, .assets, .programs, .exposure, .crawl] s t :=
  DueFrame.next (DueFrame.next (.of_frame (.refl _ s)) (quietFrame_frame s)) h.frame

theorem FrameWorked.replay : t.replay = s.replay :=
  Frame.replay (t := { t with due := s.due }) h.frame_due

end

end

end Sys2Proof.Machine
end

section
namespace Sys2Proof.Machine

set_option Elab.async false

/-- The appearance that a program counted shows, with the conditions of R170 as the registers give them. -/
theorem counted_eq (g : Program) (active seen : Bool) : g.counted active seen =
    { g with onAir := if active = false then g.onAir else g.onAir.map fun a =>
      { a with
        elapsed := a.elapsed + 1
        visible := if seen = true then a.visible + 1 else a.visible
        remaining := if a.entry = none ∨ g.cover = .run ∨ seen = true then a.remaining - 1 else a.remaining
        pos := if seen = true then a.pos + 1 else a.pos } } := by
  unfold Program.counted
  cases active
  · rfl
  · have hcount : Appearance.count g.cover seen = fun a =>
        { a with
          elapsed := a.elapsed + 1
          visible := if seen = true then a.visible + 1 else a.visible
          remaining := if a.entry = none ∨ g.cover = .run ∨ seen = true then a.remaining - 1 else a.remaining
          pos := if seen = true then a.pos + 1 else a.pos } := by
      funext a
      unfold Appearance.count
      congr 1
      simp only [Bool.or_eq_true, Option.isNone_iff_eq_none, beq_iff_eq, or_assoc]
    simp [hcount]

end Sys2Proof.Machine

namespace Sys2Proof
open Machine

/-- What a frame event that nothing disturbs makes of the state (R86, R87, R92, R95, R99, R103, R169, R170). -/
theorem frame_composed {s : State} (hd : s.due = []) (hc : s.canvas.awaitingConfig = none) (hl : s.canvas.awaitingLayout = none) :
    exec .outputFrameEvent s = .next (s.frameAfter none) := by
  have happly : s.applyAwaiting = s := by
    unfold State.applyAwaiting
    rw [hc]
    dsimp only
    rw [hl]
  have hkept : s.keptWidth = none := by
    unfold State.keptWidth
    rw [hl]
  show Host.Outcome.next s.settle.frameEvent = _
  rw [settle_of_due_nil s hd]
  unfold State.frameEvent
  rw [happly, hkept]

/-- Settles O32: the frame of an event that nothing disturbs is that of `quietFrame`, and its work is followed unit by unit
(`FrameWorked`); each rendering is read off its source. -/
theorem frameEventComposesAndCounts : Obligations.FrameEventComposesAndCounts := by
  refine ⟨fun s hd hz ht hc hl hq => ⟨frame_composed hd hc hl, fun kept => ?_⟩,
    fun z s => ?_, fun n pos s => ?_, fun k s => ?_⟩
  · intro t f top counted b r missing fresh shown aired
    have hworks (shown : State) (h : ShownAs s.quietFrame shown) : FrameWorked kept s.quietFrame shown t :=
      frameAfter_worked hq ht h
    clear_value t
    have hvis : t.canvas.visibility = s.quietFrame.canvas.visibility := by
      rw [(hworks s.quietFrame.recordShown ⟨rfl, rfl, rfl, rfl, rfl⟩).canvas]
    have hw : FrameWorked kept s.quietFrame shown t := by
      have hf := quietFrame_frame s
      refine hworks shown ⟨?_, hvis, ?_, hf.exposure.symm, hf.crawl.symm⟩
      · rw [quietFrame_canvas]
        rfl
      · show _ = ({ s.quietFrame.rotation with programs := _ } : Rotation)
        rw [hf.rotation]
    refine ⟨?_, ?_, ?_, ?_, ?_, fun x y hxy => ?_, ?_, ?_, hw.frameOut, hw.missing, fun hlinks => ?_, ?_, hw.inputs,
      fun n => hw.holdEnd_mem hd, fun zone => hw.expiry_mem hd, fun p => hw.dwellEnd_mem hd, ?_, hw.exposure, hw.crawl,
      fun hlinks link => hw.links hlinks rfl rfl link, hw.replay, ?_⟩
    · rw [hw.canvas, quietFrame_canvas]
      rfl
    · rw [hw.canvas, quietFrame_canvas]
      rfl
    · rw [hw.visibility, List.map_map]
      refine List.map_congr_left fun z _ => ?_
      have htop : s.counted.frameTop z = top z := rfl
      rw [Function.comp_apply, htop]
      cases top z <;> rfl
    · rw [hw.frameOut, List.map_map, State.zoneIds]
      rfl
    · rw [hw.canvas, quietFrame_canvas]
    · refine hw.pictureAt fun z hz => ?_
      have hno := hxy z hz
      unfold covers
      simpa using hno
    · rw [hw.visibility]
      exact List.forall_mem_map.mpr fun z _ => visEntry_rendered z _ (rendering_reason z)
    · rw [hw.visibility, List.map_map]
      rfl
    · have hsize (n : Nat) : s.assetSize n = ((s.canvas.assets.find? (·.id == n)).map (·.size)).getD 0 := by
        unfold State.assetSize State.asset?
        cases s.canvas.assets.find? (·.id == n) <;> rfl
      have hg := hw.missing_told hlinks
      simp only [hsize] at hg
      exact hg
    · rw [hw.zones hz]
      exact List.map_congr_left fun z _ => zoneCount_eq f z (top z) (r z)
    · rw [hw.rotation_eq]
      refine congrArg (fun l => ({ s.rotation with programs := l } : Rotation)) (List.map_congr_left fun p _ => ?_)
      have hidle : s.active p = false ↔ s.carrying p = [] := by simp [State.active]
      rw [counted_eq]
      simp only [hidle]
      rfl
    · rw [← hd]
      exact hw.frame_due
  · intro r
    obtain ⟨hcamera, hclock, hplay, hbrk, hscore, hslate, hasset, hrotation, hcrawl⟩ := base_rendered z s
    refine ⟨fun n hb => ?_, fun hb => ?_, fun hb => ?_, fun hb => ?_, fun hb => ?_, fun hb => ?_, fun n hb => ?_,
      fun p hb => ?_, fun hb => ?_⟩
    · have hr : r = (s.input n).render n := hcamera n hb
      obtain ⟨h1, h2, h3, h4⟩ := render_camera n (s.input n)
      rw [hr]
      exact ⟨h1, h2, fun he hl f hf => by rw [h3 he hl f hf]; exact ⟨rfl, rfl⟩,
        fun he hl hn f hf => by rw [h4 he hl hn f hf]; exact ⟨rfl, rfl⟩⟩
    · have hr : r = _ := hclock hb
      rw [hr]
      exact ⟨rfl, rfl⟩
    · have hr : r = _ := hplay hb
      rw [hr]
      exact ⟨rfl, rfl⟩
    · have hr : r = _ := hbrk hb
      rw [hr]
      exact ⟨rfl, rfl⟩
    · have hr : r = _ := hscore hb
      rw [hr]
      exact ⟨rfl, rfl⟩
    · have hr : r = _ := hslate hb
      rw [hr]
      exact ⟨rfl, rfl⟩
    · have hr : r = s.renderAsset n z.basePos := hasset n hb
      rw [hr]
      refine ⟨fun a ha hready => ?_, fun h => ?_⟩
      · rw [renderAsset_ready ha hready, frameAt_eq]
        exact ⟨rfl, rfl⟩
      · rw [renderAsset_missing h]
        exact ⟨rfl, rfl⟩
    · have hr : r = s.renderProgram p := hrotation p hb
      rw [hr]
      refine ⟨fun h => ?_, fun a ha e he => ?_⟩
      · rw [renderProgram_slate h]
        exact ⟨rfl, rfl⟩
      · rw [renderProgram_entry ha he]
        exact ⟨rfl, rfl, rfl, rfl⟩
    · have hr : r = s.renderCrawl := hcrawl hb
      rw [hr]
      exact ⟨renderCrawl_shown, fun h1 h2 h3 => by rw [renderCrawl_slate h1 h2 h3]; rfl,
        fun h1 h2 p hp => renderCrawl_program h1 h2 hp⟩
  · refine ⟨fun a ha hready => ?_, renderAsset_missing⟩
    rw [renderAsset_ready ha hready, frameAt_eq]
    rfl
  · obtain ⟨hasset, hchannel, hcard⟩ := takeover_rendered k s
    intro r
    cases hk : k.content with
    | asset n => exact hasset n hk
    | channel ch => exact fun e rest clip he hclip => (hchannel ch hk).trans (renderChannel_head he hclip)
    | card m =>
      have hr : r = .content (.card (s.crawl.textOf m)) := hcard m hk
      rw [hr, textOf_eq]
      rfl

end Sys2Proof
end

section
namespace Sys2Proof.Machine

set_option Elab.async false

/-! ## CANVAS_CONFIG and LAYOUT (R85, R89) -/

theorem awaits_iff (s : State) : s.awaits = true ↔ s.canvas.awaitingConfig ≠ none ∨ s.canvas.awaitingLayout ≠ none := by
  unfold State.awaits
  rw [Bool.or_eq_true, Option.isSome_iff_ne_none, Option.isSome_iff_ne_none]

theorem not_canvasOk (rate : Rate) (width height : Nat) (zones : List Zone) : (!canvasOk rate width height zones) = true ↔
    rate ∉ [⟨50, 1⟩, ⟨60000, 1001⟩, (⟨60, 1⟩ : Rate)] ∨ width < 320 ∨ 7680 < width ∨ height < 64 ∨ 2160 < height ∨
      (zones.any fun z => !rectInside width height z.spec) = true := by
  unfold canvasOk canvasRates
  rw [Bool.not_and, Bool.not_and, Bool.not_and, Bool.or_eq_true, Bool.or_eq_true, Bool.or_eq_true, within_eq_false,
    within_eq_false, List.not_all_eq_any_not, Bool.not_eq_true', List.contains_eq_mem, decide_eq_false_iff_not]
  simp only [or_assoc]

theorem canvasConfigOwner_eq (rate : Rate) (width height : Nat) (s : State) : canvasConfigOwner rate width height s =
    if s.record.game.session = .final then s.refuse .closed
    else if s.record.game.session = .inGame then s.refuse .locked
    else if s.canvas.awaitingConfig ≠ none ∨ s.canvas.awaitingLayout ≠ none ∨ s.replay.chanA.onAir = true ∨
        s.replay.chanB.onAir = true then s.refuse .busy
    else if rate ∉ [⟨50, 1⟩, ⟨60000, 1001⟩, (⟨60, 1⟩ : Rate)] ∨ width < 320 ∨ 7680 < width ∨ height < 64 ∨ 2160 < height ∨
        (s.canvas.zones.any fun z => !rectInside width height z.spec) = true then s.refuse .range
    else (s.mapCanvas fun c => { c with awaitingConfig := some ⟨rate, width, height⟩ }).ok := by
  simp only [canvasConfigOwner, tests_cons, tests_nil, State.isFinal, beq_iff_eq, Bool.or_eq_true, awaits_iff, or_assoc,
    not_canvasOk]

/-- A zone is empty or leaves the canvas (test 3 of R89). -/
def zoneOutside (width height : Nat) (z : ZoneSpec) : Bool := decide (z.width = 0 ∨ z.height = 0 ∨ width < z.left + z.width ∨
  height < z.top + z.height)

theorem not_rectInside (width height : Nat) (z : ZoneSpec) : (!rectInside width height z) = zoneOutside width height z := by
  unfold rectInside zoneOutside
  rw [Bool.eq_iff_iff]
  simp
  omega

theorem not_replayTargetOk (z : ZoneSpec) :
    (!replayTargetOk z) = (z.attrs.replayTarget && z.role != .main && z.role != .general) := by
  unfold replayTargetOk
  simp [bne]

theorem layoutOwner_eq (count : Nat) (zones : List ZoneSpec) (s : State) : layoutOwner count zones s =
    if 8 < count then s.refuse .range
    else if ¬(zones.map (·.id)).Nodup then s.refuse .duplicate
    else if ¬(∀ z ∈ zones, z.id ≤ 7 ∧ baseOk z.base = true) ∨
        zones.any (zoneOutside s.canvas.size.width s.canvas.size.height) = true ∨ anyOverlap zones = true ∨
        1 < (zones.filter (·.base == .crawl)).length ∨
        (zones.any fun z => z.role == .clock && z.base != .clock) = true ∨
        (zones.any fun z => z.attrs.replayTarget && z.role != .main && z.role != .general) = true then s.refuse .range
    else if s.canvas.awaitingConfig ≠ none ∨ s.canvas.awaitingLayout ≠ none then s.refuse .busy
    else (s.mapCanvas fun c => { c with awaitingLayout := some (normalLayout zones) }).ok := by
  have hids : (!zones.all fun z => decide (z.id ≤ 7) && baseOk z.base) = true ↔
      ¬(∀ z ∈ zones, z.id ≤ 7 ∧ baseOk z.base = true) := by simp
  have hrect : (!zones.all (rectInside s.canvas.size.width s.canvas.size.height)) =
      zones.any (zoneOutside s.canvas.size.width s.canvas.size.height) := by
    rw [List.not_all_eq_any_not]
    exact congrArg zones.any (funext fun z => not_rectInside _ _ z)
  have htargets : (!zones.all replayTargetOk) =
      zones.any fun z => z.attrs.replayTarget && z.role != .main && z.role != .general := by
    rw [List.not_all_eq_any_not]
    exact congrArg zones.any (funext not_replayTargetOk)
  have hrepeats : (!noRepeats (zones.map (·.id))) = true ↔ ¬(zones.map (·.id)).Nodup := by simp [noRepeats]
  simp only [layoutOwner, tests_cons, tests_nil, decide_eq_true_eq, hids, hrect, htargets, hrepeats, awaits_iff]
  simp only [ite_or]

theorem layout_exec {h : Hdr} {count : Nat} {zones : List ZoneSpec} {s : State} (ha : s.admits h 0x39 = true) :
    exec (.layout h count zones) s = .next (if count ≠ zones.length then s.replied h 0x39 .malformed .none
      else (layoutOwner count zones s).1.replied h 0x39 (layoutOwner count zones s).2.1 (layoutOwner count zones s).2.2) :=
  exec_shaped (shape := count == zones.length) ha rfl (layoutOwner_frame s count zones) (by simp)

end Sys2Proof.Machine
end

section
namespace Sys2Proof.Machine

set_option Elab.async false

/-! ## Programs that become active or idle (R166, R170) -/

section
variable {s : State}

theorem mapExposed_same (i : Nat) {f : Exposed → Exposed} (h : f (s.exposed i) = s.exposed i) :
    s.mapExposed i f = s := by
  have hset : s.exposure.ids.set i (s.exposed i) = s.exposure.ids := by
    unfold State.exposed
    refine List.ext_getElem? fun n => ?_
    rw [List.getElem?_set]
    split
    · next hn =>
      subst hn
      split
      · next hlt => rw [List.getD_eq_getElem?_getD, List.getElem?_eq_getElem hlt, Option.getD_some]
      · next hlt => rw [List.getElem?_eq_none (Nat.le_of_not_lt hlt)]
    · rfl
  show ({ s with exposure := { s.exposure with ids := s.exposure.ids.set i (f (s.exposed i)) } } : State) = s
  rw [h, hset]

/-- The counters once an appearance has ended: a short one counts for its sponsor where short appearances count (R182). -/
def State.shortCounted (a : Appearance) (s : State) : Exposure :=
  match a.entry.bind (·.sponsor) with
  | some i =>
    if 2 * a.visible < a.elapsed ∧ s.exposure.mask.shortAppearances = true then
      let x : Exposed := { (s.exposed i) with shortAppearances := min (2 ^ 48 - 1) ((s.exposed i).shortAppearances + 1) };
      { s.exposure with ids := s.exposure.ids.set i x }
    else s.exposure
  | none => s.exposure

theorem tellEnd_eq (e : RotEntry) (a : Appearance) (h : a.entry = some e) :
    s.tellEnd e a.short = { s with exposure := s.shortCounted a } := by
  unfold State.tellEnd State.shortCounted
  rw [h, Option.bind_some]
  cases hsp : e.sponsor with
  | none => rfl
  | some i =>
    dsimp only
    by_cases hshort : 2 * a.visible < a.elapsed
    · rw [if_pos (show a.short = true from decide_eq_true hshort)]
      cases hm : s.exposure.mask.shortAppearances with
      | false =>
        rw [if_neg (by simp)]
        exact mapExposed_same i rfl
      | true =>
        rw [if_pos ⟨hshort, rfl⟩]
        rfl
    · rw [if_neg (show ¬a.short = true from fun h => hshort (of_decide_eq_true h)), if_neg fun h => hshort h.1]

/-- A program's list once an appearance has ended: a rotating one's entry goes to the tail (R170). -/
def Program.entriesAfter (a : Appearance) (g : Program) : List RotEntry :=
  match a.entry with
  | some e => if g.mode = .rotate then g.entries.filter (·.id != e.id) ++ g.entries.filter (·.id == e.id) else g.entries
  | none => g.entries

/-- A program whose appearance has ended (R170). -/
def Program.closed (a : Appearance) (g : Program) : Program := { g with onAir := none, entries := g.entriesAfter a }

theorem closeAppearance_eq (p : Nat) (a : Appearance) (s : State) : s.closeAppearance p true a =
    { s with
      exposure := s.shortCounted a
      rotation := { s.rotation with programs := s.rotation.programs.set p ((s.program p).closed a) } } := by
  have hlist (e : RotEntry) (g : Program) : (if (true && g.mode == .rotate) = true then moveToTail e.id g.entries else g.entries) =
      if g.mode = .rotate then g.entries.filter (·.id != e.id) ++ g.entries.filter (·.id == e.id) else g.entries := by
    simp [moveToTail]
  unfold State.closeAppearance Program.closed Program.entriesAfter
  cases ha : a.entry with
  | none =>
    have hc : s.shortCounted a = s.exposure := by
      unfold State.shortCounted
      rw [ha]
      rfl
    rw [hc]
    rfl
  | some e =>
    dsimp only
    rw [tellEnd_eq e a ha]
    simp only [hlist]
    rfl

end

end Sys2Proof.Machine
end

section
namespace Sys2Proof.Machine

set_option Elab.async false

/-! ## What every later work of a frame event leaves of the zones that its layout placed (R90) -/

/-- What is not yielded at all stays so: only YIELD yields a level. -/
def StaysUnyielded (_ : Nat) (a b : ZoneArb) : Prop := a.yielded = [] → b.yielded = []

theorem staysUnyielded_rule : ArbRule StaysUnyielded where
  refl _ _ := id
  trans h k := k ∘ h
  grant _ _ _ _ _ h := by simp [ZoneArb.grant, h]

theorem staysUnyielded_remove (level f : Nat) (a : ZoneArb) : StaysUnyielded f a (a.remove level) := fun h => by
  simp [ZoneArb.remove, h]

theorem staysUnyielded_record (f : Nat) (a : ZoneArb) (r : Request) : StaysUnyielded f a (a.record r) := id

/-- The zones stand in their order with their specifications and masks, and none comes to be yielded. -/
structure Laid (s t : State) : Prop where
  masks : MasksKept s t
  yielded : ∀ k, ZoneRel (StaysUnyielded 0) (s.zone? k) (t.zone? k)

namespace Laid

variable {s t u : State}

theorem of_zoneWise (h : MasksKept s t) (k : ZoneWise StaysUnyielded s t) : Laid s t := ⟨h, k.zones⟩

theorem of_zones (h : t.canvas.zones = s.canvas.zones) : Laid s t := by
  refine ⟨congrArg _ h, fun k => ?_⟩
  rw [zone_of_canvas h]
  exact ZoneRel.refl staysUnyielded_rule _ _

theorem refl (s : State) : Laid s s := of_zones rfl

theorem trans (h : Laid s t) (k : Laid t u) : Laid s u :=
  ⟨k.masks.trans h.masks, fun i => ZoneRel.trans staysUnyielded_rule (h.yielded i) (k.yielded i)⟩

theorem of_frame {P : List Part} (h : Frame P s t) (hP : P.contains .zones = false := by decide) : Laid s t :=
  of_zones (h.zones hP)

theorem ite {c : Prop} [Decidable c] (ht : Laid s t) (hu : Laid s u) : Laid s (if c then t else u) := by
  split
  · exact ht
  · exact hu

theorem foldl {α : Type} (f : State → α → State) (hf : ∀ s a, Laid s (f s a)) (l : List α) (s : State) :
    Laid s (l.foldl f s) := by
  induction l generalizing s with
  | nil => exact refl s
  | cons a l ih => exact (hf s a).trans (ih _)

theorem evaluateAll (s : State) (zones : List Nat) : Laid s (s.evaluateAll zones) :=
  of_zoneWise ((masksKept_walk .released).evaluateAll s zones) (evaluateAll_zoneWise staysUnyielded_rule s zones)

theorem requestAll (s : State) (r : Request) (zones : List Nat) : Laid s (s.requestAll r false zones).1 :=
  of_zoneWise ((masksKept_walk .released).requestAll s r false zones)
    (requestAll_zoneWise staysUnyielded_rule s (fun f a => staysUnyielded_record f a r) zones)

theorem followUps (s : State) : Laid s s.followUps :=
  of_zoneWise ((masksKept_walk .released).followUps s)
    (followUps_zoneWise staysUnyielded_rule (fun f a r _ => staysUnyielded_record f a r) s)

theorem endEach (s : State) (o : Outcome) (items : List (Nat × Nat)) : Laid s (s.endEach o items) :=
  of_zoneWise ((masksKept_walk o).endEach s items)
    (endEach_zoneWise staysUnyielded_rule s o items fun i _ f a => staysUnyielded_remove i.2 f a)

theorem release (s : State) (zone level : Nat) : Laid s (s.release zone level) :=
  ite (((endEach s _ _).trans (evaluateAll _ _)).trans (followUps _)) (refl s)

theorem releaseEntry (s : State) (ch : Channel) (o : CueOutcome) : Laid s (s.releaseEntry ch o) := by
  unfold State.releaseEntry
  split
  · exact refl s
  · exact (release s _ _).trans (of_frame (endEntry_frame _ _ _))

theorem request (s : State) (zone : Nat) (r : Request) : Laid s (s.request zone r false).1 :=
  of_zoneWise ((masksKept_walk .released).request s zone r false)
    (request_zoneWise staysUnyielded_rule s zone fun f a => staysUnyielded_record f a r)

theorem roll (s : State) (ch : Channel) : Laid s (s.roll ch).1 := by
  have hhead (u : State) : Laid u (u.rollHead ch).1 := by
    unfold State.rollHead
    split
    · exact refl u
    · exact (of_frame (mapChan_frame u ch _)).trans (request _ _ _)
  exact (of_frame (rollDrops_frame s ch _)).trans (hhead _)

theorem completeEntry (s : State) (ch : Channel) : Laid s (s.completeEntry ch) := by
  unfold State.completeEntry
  split
  · exact refl s
  · next e rest _ =>
    refine trans ?_ (of_frame (raiseChannel_frame _ _ _ _ _ _ _))
    have popped := (release s e.fields.zone (channelLevel ch)).trans (of_frame (popHead_frame _ ch))
    exact ite (popped.trans (roll _ ch)) popped

theorem layoutOwners (s : State) (old : List Zone) (specs : List ZoneSpec) : Laid s (s.layoutOwners old specs) := by
  have countdown (u : State) (won gone : List Nat) : Laid u (u.layoutCountdown won gone) := by
    unfold State.layoutCountdown
    dsimp only
    refine trans ?_ (foldl _ (fun s z => release s z 1) _ _)
    split
    · exact (requestAll u _ _).trans (of_zones rfl)
    · exact refl u
  have score (u : State) (gone : List Nat) : Laid u (u.layoutScore gone) := foldl _ (fun s z => release s z 2) _ u
  have replay (u : State) (ch : Channel) (gone : List Nat) : Laid u (u.layoutReplay ch gone) :=
    ite (releaseEntry u _ _) (refl u)
  exact ((((countdown s _ _).trans (score _ _)).trans (replay _ _ _)).trans (replay _ _ _)).trans (followUps _)

/-! ### The frame event after its layout -/

theorem frameBoundary (s : State) : Laid s s.frameBoundary := by
  have counted (u : State) : Laid u u.countHolds := by
    rw [countHolds_eq]
    exact of_zones rfl
  have overrun (u : State) (ch : Channel) : Laid u (u.testOverrun ch) := ite (releaseEntry u _ _) (refl u)
  exact (((of_zones rfl : Laid s (s.mapCanvas fun c => { c with frame := c.frame + 1 })).trans (counted _)).trans
    (overrun _ .a)).trans (overrun _ .b)

theorem countTakeovers (s : State) : Laid s s.countTakeovers := by
  have hcount (z : Zone) : (s.countZone z).spec = z.spec ∧ (s.countZone z).arb.mask = z.arb.mask ∧
      (s.countZone z).arb.yielded = z.arb.yielded := by
    unfold State.countZone
    split <;> exact ⟨rfl, rfl, rfl⟩
  have hzones : s.countTakeovers.canvas.zones = s.canvas.zones.map s.countZone := rfl
  refine ⟨?_, fun k => ?_⟩
  · unfold MasksKept
    rw [hzones, List.map_map]
    refine List.map_congr_left fun z _ => ?_
    obtain ⟨hs, hm, -⟩ := hcount z
    exact Prod.ext hs hm
  · have hfind : s.countTakeovers.zone? k = (s.zone? k).map s.countZone := by
      unfold State.zone?
      rw [hzones, List.find?_map]
      exact congrArg (Option.map s.countZone) (List.find?_congr fun z _ => congrArg (fun n : ZoneSpec => n.id == k) (hcount z).1)
    rw [hfind]
    cases s.zone? k with
    | none => trivial
    | some z =>
      obtain ⟨hs, -, hy⟩ := hcount z
      exact ⟨hs, fun h => hy.trans h⟩

theorem stepChannel (s : State) (ch : Channel) : Laid s (s.stepChannel ch) := by
  have mapped (u : State) (f : Chan → Chan) : Laid u (u.mapChan ch f) := of_frame (mapChan_frame u ch f)
  have synced (u : State) : Laid u u.syncReaders := of_frame (syncReaders_frame u)
  have bounded (u : State) (f : CueFields) (clip : Clip) : Laid u (u.testPass ch f clip) :=
    ite ((mapped u _).trans (ite ((mapped _ _).trans (synced _)) (completeEntry _ ch))) (synced u)
  have advanced (u : State) : Laid u (u.advance ch) := by
    unfold State.advance
    split
    · split
      · exact (mapped u _).trans (bounded _ _ _)
      · exact refl u
    · exact refl u
  unfold State.stepChannel
  split
  · exact ite (ite (advanced s) (mapped s _)) (refl s)
  · exact refl s

end Laid

/-! ### The parts that the work of a frame event reaches -/

section
variable {s t : State}

theorem countPrograms_due (s : State) : DueFrame [.programs] s s.countPrograms := by
  have hone (u : State) (p : Nat) : DueFrame [.programs] u (u.countProgram p) := by
    rw [countProgram_eq]
    dsimp only
    split
    · rw [addDueIf_eq]
      exact (DueFrame.of_frame (mapProgram_frame u p _)).dueAs _
    · exact .of_frame (.refl _ u)
  have hfold (l : List Nat) (u : State) : DueFrame [.programs] u (l.foldl (fun s p => s.countProgram p) u) := by
    induction l generalizing u with
    | nil => exact .of_frame (.refl _ u)
    | cons p l ih => exact (hone u p).next (ih _)
  exact hfold [0, 1, 2, 3] s

theorem frameWork_due (s : State) (kept : Option Nat) :
    DueFrame ([.assets, .programs, .exposure] ++ endParts) s (s.frameWork kept) := by
  have h1 : Frame ([.assets, .programs, .exposure] ++ endParts) s s.reportMissing.recordShown.creditFrame :=
    ((Frame.mono (reportMissing_frame s)).next (recordShown_frame _)).next (creditFrame_frame _)
  have h2 := (DueFrame.of_frame h1).next (countPrograms_due _)
  have h3 := (h2.next (.of_frame (stepCrawl_frame _ kept))).next (countTakeovers_frame _)
  exact (h3.next (.of_frame (stepChannel_frame _ .a))).next (.of_frame (stepChannel_frame _ .b))

theorem frameBoundary_due (s : State) : DueFrame ([.canvas, .inputs] ++ endParts) s s.frameBoundary := by
  have h1 : Frame ([.canvas, .inputs] ++ endParts) s (s.mapCanvas fun c => { c with frame := c.frame + 1 }) :=
    .mono (canvas_frame s _ fun _ => ⟨rfl, rfl, rfl, rfl⟩)
  have h2 (u : State) : DueFrame [.inputs] u u.countHolds := by
    rw [countHolds_eq]
    refine DueFrame.dueAs (.of_frame ?_) _
    exact .update ⟨rfl, rfl⟩ ⟨rfl, rfl⟩ fun p hp => by cases p <;> simp_all [samePart]
  exact (((DueFrame.of_frame h1).next (h2 _)).next (.of_frame (testOverrun_frame _ .a))).next
    (.of_frame (testOverrun_frame _ .b))

/-- What a frame event reaches once what awaits is applied. -/
theorem frameAfter_due (s : State) (kept : Option Nat) :
    DueFrame ([.canvas, .inputs, .assets, .programs, .exposure] ++ endParts) s (s.frameAfter kept) :=
  ((DueFrame.next (.of_frame (.refl _ s)) (frameBoundary_due s)).next (.of_frame (compose_frame _))).next (frameWork_due _ kept)

theorem frameWork_laid (s : State) (kept : Option Nat) : Laid s (s.frameWork kept) := by
  have hprograms (u : State) : Laid u u.countPrograms := .of_zones (congrArg Canvas.zones (countPrograms_due u).canvas)
  exact ((((((Laid.of_frame (reportMissing_frame s)).trans (.of_frame (recordShown_frame _))).trans
    (.of_frame (creditFrame_frame _))).trans (hprograms _)).trans (.of_frame (stepCrawl_frame _ kept))).trans
    (.countTakeovers _)).trans ((Laid.stepChannel _ .a).trans (.stepChannel _ .b))

theorem frameAfter_laid (s : State) (kept : Option Nat) : Laid s (s.frameAfter kept) :=
  ((Laid.frameBoundary s).trans (.of_frame (compose_frame _))).trans (frameWork_laid _ kept)

theorem Laid.specs (h : Laid s t) : t.canvas.zones.map (·.spec) = s.canvas.zones.map (·.spec) := by
  have hm := congrArg (List.map (·.1)) h.masks
  rw [List.map_map, List.map_map] at hm
  exact hm

theorem Laid.zoneIds (h : Laid s t) : t.zoneIds = s.zoneIds := by
  have hi := congrArg (List.map (·.id)) h.specs
  rw [List.map_map, List.map_map] at hi
  exact hi

/-- The canvas' size and what awaits application stand. -/
structure CanvasStands (s t : State) : Prop where
  size : t.canvas.size = s.canvas.size
  config : t.canvas.awaitingConfig = s.canvas.awaitingConfig
  layout : t.canvas.awaitingLayout = s.canvas.awaitingLayout

theorem CanvasStands.trans {u : State} (h : CanvasStands s t) (k : CanvasStands t u) : CanvasStands s u :=
  ⟨k.size.trans h.size, k.config.trans h.config, k.layout.trans h.layout⟩

theorem CanvasStands.of_frame {P : List Part} (h : Frame P s t) (hP : P.contains .canvas = false := by decide) :
    CanvasStands s t := by
  obtain ⟨hs, -, hc, hl, -⟩ := h.same .canvas (by simpa using hP)
  exact ⟨hs, hc, hl⟩

theorem CanvasStands.of_due {P : List Part} (h : DueFrame P s t) (hP : P.contains .canvas = false := by decide) :
    CanvasStands s t := by
  obtain ⟨hs, hc, hl⟩ := CanvasStands.of_frame (t := { t with due := s.due }) h hP
  exact ⟨hs, hc, hl⟩

theorem frameBoundary_stands (s : State) : CanvasStands s s.frameBoundary := by
  have h1 : CanvasStands s (s.mapCanvas fun c => { c with frame := c.frame + 1 }).countHolds := by
    rw [countHolds_eq]
    exact ⟨rfl, rfl, rfl⟩
  exact (h1.trans (.of_frame (testOverrun_frame _ .a))).trans (.of_frame (testOverrun_frame _ .b))

theorem compose_stands (s : State) : CanvasStands s s.compose := ⟨rfl, rfl, rfl⟩

theorem frameAfter_stands (s : State) (kept : Option Nat) : CanvasStands s (s.frameAfter kept) := by
  have h := frameWork_due s.frameBoundary.compose kept
  have hc : CanvasStands s s.frameBoundary.compose := (frameBoundary_stands s).trans (compose_stands _)
  unfold State.frameAfter
  generalize s.frameBoundary.compose.frameWork kept = t at h ⊢
  exact hc.trans (.of_due h)

theorem frameWork_visibility (s : State) (kept : Option Nat) :
    (s.frameWork kept).canvas.visibility = s.canvas.visibility := by
  have h := frameWork_due s kept
  generalize s.frameWork kept = t at h ⊢
  obtain ⟨-, -, -, -, hv, -⟩ := Frame.same h .canvas (by decide)
  exact hv

theorem compose_visibility (s : State) : s.compose.canvas.visibility.map (·.zone) = s.compose.zoneIds := by
  show ((s.canvas.zones.map fun z => s.renderZone z).map (·.1)).map (·.zone) = _
  rw [List.map_map, List.map_map]
  rfl

/-- The visibility record has an entry for each zone, in their order (R87). -/
theorem frameAfter_visibility (s : State) (kept : Option Nat) :
    (s.frameAfter kept).canvas.visibility.map (·.zone) = (s.frameAfter kept).zoneIds := by
  unfold State.frameAfter
  rw [frameWork_visibility, (frameWork_laid _ kept).zoneIds, compose_visibility]

end

end Sys2Proof.Machine
end

section
namespace Sys2Proof.Machine

set_option Elab.async false

/-! ## Zones found by id and role -/

/-- The zone of a specification's id and role (R90). -/
def sameZone (n : ZoneSpec) (z : Zone) : Bool := z.spec.id == n.id && z.spec.role == n.role

theorem sameZone_iff {n : ZoneSpec} {z : Zone} : sameZone n z = true ↔ z.spec.id = n.id ∧ z.spec.role = n.role := by
  simp [sameZone]

section
variable {s t u : State} {specs : List ZoneSpec} {n : ZoneSpec} {z : Zone}

theorem zone_unique (hs : s.zonesWf) {y : Zone} (hy : y ∈ s.canvas.zones) (hz : z ∈ s.canvas.zones)
    (h : y.spec.id = z.spec.id) : y = z := by
  have k := zone_of_zonesWf hs hy
  rw [h, zone_of_zonesWf hs hz] at k
  exact (Option.some.inj k).symm

/-- No two zones have one id, so that a zone of an id and a role is the one found. -/
theorem find_sameZone (hs : s.zonesWf) (hz : z ∈ s.canvas.zones) (h : sameZone n z = true) :
    s.canvas.zones.find? (sameZone n) = some z := by
  cases hf : s.canvas.zones.find? (sameZone n) with
  | none => exact absurd h (List.find?_eq_none.mp hf z hz)
  | some y =>
    have hy := sameZone_iff.mp (List.find?_some hf)
    rw [zone_unique hs (List.mem_of_find?_eq_some hf) hz (hy.1.trans (sameZone_iff.mp h).1.symm)]

theorem spec_unique (h : (specs.map (·.id)).Pairwise (· < ·)) {m : ZoneSpec} (hm : m ∈ specs) (hn : n ∈ specs)
    (hid : m.id = n.id) : m = n := by
  have hinj := List.inj_on_of_nodup_map (h.imp Nat.ne_of_lt)
  exact hinj hm hn hid

theorem keptBy_iff (h : (specs.map (·.id)).Pairwise (· < ·)) :
    z.keptBy specs = specs.any fun n => n.id == z.spec.id && n.role == z.spec.role := by
  unfold Zone.keptBy findSpec
  rw [Bool.eq_iff_iff, List.any_eq_true]
  cases hf : specs.find? (·.id == z.spec.id) with
  | none =>
    refine ⟨nofun, fun ⟨n, hn, hm⟩ => absurd ?_ (List.find?_eq_none.mp hf n hn)⟩
    simp only [Bool.and_eq_true] at hm
    exact hm.1
  | some m =>
    have hmem := List.mem_of_find?_eq_some hf
    have hid : m.id = z.spec.id := by simpa using List.find?_some hf
    simp only [beq_iff_eq, Bool.and_eq_true]
    refine ⟨fun hr => ⟨m, hmem, hid, hr⟩, fun ⟨n, hn, hn1, hn2⟩ => ?_⟩
    rw [spec_unique h hmem hn (hid.trans hn1.symm)]
    exact hn2

/-! ## The ends of a layout leave every zone that it keeps (R90) -/

theorem endOne_zone_other (o : Outcome) {zone k level : Nat} (h : k ≠ zone) : (s.endOne o zone level).zone? k = s.zone? k := by
  cases hst : s.standsAt zone level with
  | none => rw [endOne_of_none hst]
  | some x =>
    rw [endOne_of_some (stage := x.1) (frames := x.2) hst, zone_of_canvas (tellOwner_stands _ _ _ _)]
    show (s.mapArb zone (ZoneArb.remove level)).zone? k = _
    rw [zone_mapArb]
    simp [h]

theorem endEach_zone_other (o : Outcome) {items : List (Nat × Nat)} {k : Nat} (h : ∀ i ∈ items, i.1 ≠ k) :
    (s.endEach o items).zone? k = s.zone? k := by
  unfold State.endEach
  induction items generalizing s with
  | nil => rfl
  | cons i items ih =>
    obtain ⟨hi, hrest⟩ := List.forall_mem_cons.mp h
    exact (ih hrest).trans (endOne_zone_other o (Ne.symm hi))

/-- The state once the takeovers of the zones that a layout removes have ended (R90). -/
def State.removed (specs : List ZoneSpec) (s : State) : State := s.endEach .zoneRemoved (s.removedItems specs)

theorem removed_zone (hs : s.zonesWf) (hz : z ∈ s.canvas.zones) (hk : z.keptBy specs = true) :
    (s.removed specs).zone? z.spec.id = some z := by
  rw [State.removed, endEach_zone_other, zone_of_zonesWf hs hz]
  intro i hi hid
  obtain ⟨y, hy, hyid, hp⟩ := mem_standingItems hi
  rw [zone_unique hs hy hz (hyid.trans hid), hk] at hp
  exact absurd hp (by simp)

theorem removed_laid (s : State) (specs : List ZoneSpec) : Laid s (s.removed specs) := .endEach _ _ _

theorem removed_wf (specs : List ZoneSpec) (hs : s.zonesWf) : (s.removed specs).zonesWf :=
  (ZonesHold.endEach s _ _).wf hs

/-- The zone that a specification of the layout takes over stands as before the removals (R90). -/
theorem removed_find (hs : s.zonesWf) (hspecs : (specs.map (·.id)).Pairwise (· < ·)) (hn : n ∈ specs) :
    (s.removed specs).canvas.zones.find? (sameZone n) = s.canvas.zones.find? (sameZone n) := by
  cases hf : s.canvas.zones.find? (sameZone n) with
  | none =>
    refine List.find?_eq_none.mpr fun y hy hm => ?_
    have hmem : y.spec ∈ s.canvas.zones.map (·.spec) := (removed_laid s specs).specs ▸ List.mem_map_of_mem hy
    obtain ⟨z, hz, he⟩ := List.mem_map.mp hmem
    exact List.find?_eq_none.mp hf z hz (sameZone_iff.mpr (he ▸ sameZone_iff.mp hm))
  | some z =>
    have hz := List.mem_of_find?_eq_some hf
    have hm := List.find?_some hf
    have hkept : z.keptBy specs = true := by
      rw [keptBy_iff hspecs, List.any_eq_true]
      obtain ⟨hid, hrole⟩ := sameZone_iff.mp hm
      exact ⟨n, hn, by simp [hid, hrole]⟩
    have hzone := removed_zone hs hz hkept
    exact find_sameZone (removed_wf specs hs) (zone_mem hzone) hm

theorem matchZone_eq (old : List Zone) (n : ZoneSpec) : matchZone old n =
    ((old.find? (sameZone n)).map fun z => ⟨n, z.arb, if z.spec.base = n.base then z.basePos else 0⟩).getD ⟨n, .empty, 0⟩ := by
  have hf : old.find? (fun z => z.spec.id == n.id && z.spec.role == n.role) = old.find? (sameZone n) := rfl
  unfold matchZone
  rw [hf]
  cases old.find? (sameZone n) <;> rfl

/-- The zones of the new layout are matched with the old ones as they stood before the removals (R90, R92). -/
theorem placed_zones (hs : s.zonesWf) (hspecs : (specs.map (·.id)).Pairwise (· < ·)) :
    ((s.removed specs).placeZones specs).canvas.zones = specs.map (matchZone s.canvas.zones) := by
  rw [(placeZones_canvas specs _).1]
  refine List.map_congr_left fun n hn => ?_
  rw [matchZone_eq, matchZone_eq, removed_find hs hspecs hn]

end

end Sys2Proof.Machine
end

section
namespace Sys2Proof.Machine

set_option Elab.async false

/-! ## What awaits, applied (R85, R90, R123) -/

/-- The canvas with its new size (R85). -/
def Canvas.resize (c : Canvas) : Canvas := { c with size := c.awaitingConfig.getD c.size, awaitingConfig := none }

/-- The state with what awaits taken up: the new size, and nothing awaiting (R85, R86). -/
def State.taken (s : State) : State :=
  { s with canvas := { s.canvas with
      size := s.canvas.awaitingConfig.getD s.canvas.size, awaitingConfig := none, awaitingLayout := none } }

theorem resize_of_none {c : Canvas} (h : c.awaitingConfig = none) : c.resize = c := by
  cases c
  obtain rfl : _ = none := h
  rfl

theorem resize_of_some {c : Canvas} {size : CanvasSize} (h : c.awaitingConfig = some size) :
    c.resize = { c with size := size, awaitingConfig := none } := by
  unfold Canvas.resize
  rw [h]
  rfl

/-- The state with the zones of a layout placed, before they are evaluated (R90). -/
def State.laidOut (specs : List ZoneSpec) (s : State) : State := (s.taken.removed specs).placeZones specs

section
variable {s t u : State} {specs : List ZoneSpec} {z : Zone}

theorem resized_eq (s : State) : s.resized = s.mapCanvas Canvas.resize := by
  unfold State.resized
  cases hc : s.canvas.awaitingConfig with
  | none => exact congrArg (fun c : Canvas => ({ s with canvas := c } : State)) (resize_of_none hc).symm
  | some size => exact congrArg (fun c : Canvas => ({ s with canvas := c } : State)) (resize_of_some hc).symm

theorem resized_of_none (h : s.canvas.awaitingLayout = none) : s.resized = s.taken := by
  have hcanvas : s.canvas.resize = { s.canvas.resize with awaitingLayout := none } := by
    cases hs : s.canvas
    simp_all [Canvas.resize]
  rw [resized_eq]
  exact congrArg (fun c : Canvas => ({ s with canvas := c } : State)) hcanvas

theorem taken_of_some (s : State) : (s.resized.mapCanvas fun c => { c with awaitingLayout := none }) = s.taken := by
  rw [resized_eq]
  rfl

theorem applyAwaiting_of_none (h : s.canvas.awaitingLayout = none) : s.applyAwaiting = s.taken := by
  rw [applyAwaiting_eq, h]
  exact resized_of_none h

theorem applyAwaiting_of_some (h : s.canvas.awaitingLayout = some specs) :
    s.applyAwaiting = ((s.laidOut specs).evaluateAll (s.laidOut specs).zoneIds).layoutOwners s.canvas.zones specs := by
  rw [applyAwaiting_eq, h]
  dsimp only
  rw [taken_of_some]
  rfl

theorem taken_wf (hs : s.zonesWf) : s.taken.zonesWf := ⟨hs.ids, hs.small, hs.arb, nofun⟩

theorem laidOut_eq (hs : s.zonesWf) (h : s.canvas.awaitingLayout = some specs) :
    (s.laidOut specs).canvas.zones = specs.map (matchZone s.canvas.zones) :=
  placed_zones (taken_wf hs) (hs.awaiting specs h).1

theorem laidOut_stands (s : State) (specs : List ZoneSpec) : CanvasStands s.taken (s.laidOut specs) :=
  (CanvasStands.of_frame (endEach_frame s.taken .zoneRemoved _)).trans (.of_frame (placeZones_frame _ specs))

/-- What the owners' work of a layout leaves of the zones placed. -/
theorem applied_laid (h : s.canvas.awaitingLayout = some specs) : Laid (s.laidOut specs) s.applyAwaiting := by
  rw [applyAwaiting_of_some h]
  exact (Laid.evaluateAll _ _).trans (.layoutOwners _ _ _)

theorem applied_stands (s : State) : CanvasStands s.taken s.applyAwaiting := by
  cases h : s.canvas.awaitingLayout with
  | none =>
    rw [applyAwaiting_of_none h]
    exact ⟨rfl, rfl, rfl⟩
  | some specs =>
    rw [applyAwaiting_of_some h]
    exact ((laidOut_stands s specs).trans (.of_frame (evaluateAll_frame _ _))).trans (.of_frame (layoutOwners_frame _ _ _))

theorem applied_specs (hs : s.zonesWf) : s.applyAwaiting.canvas.zones.map (·.spec) =
    s.canvas.awaitingLayout.getD (s.canvas.zones.map (·.spec)) := by
  cases h : s.canvas.awaitingLayout with
  | none =>
    rw [applyAwaiting_of_none h]
    rfl
  | some specs =>
    rw [(applied_laid h).specs, laidOut_eq hs h, List.map_map, Option.getD_some]
    exact List.map_id'' (fun n => matchZone_spec _ n) specs

/-- What a zone takes over from the zones of a state: the mask of the zone of its id and role, and nothing masked or yielded
where there is none (R90). -/
structure TakesOver (old : List Zone) (z : Zone) : Prop where
  kept : ∀ y ∈ old, y.spec.id = z.spec.id → y.spec.role = z.spec.role → z.arb.mask = y.arb.mask
  added : (∀ y ∈ old, y.spec.id = z.spec.id → y.spec.role ≠ z.spec.role) → z.arb.mask = [] ∧ z.arb.yielded = []

theorem takesOver_self (hs : s.zonesWf) (hz : z ∈ s.canvas.zones) : TakesOver s.canvas.zones z :=
  ⟨fun _ hy hid _ => by rw [zone_unique hs hy hz hid], fun h => absurd rfl (h z hz rfl)⟩

theorem takesOver_matched (hs : s.zonesWf) (n : ZoneSpec) : TakesOver s.canvas.zones (matchZone s.canvas.zones n) := by
  refine ⟨fun y hy hid hrole => ?_, fun h => ?_⟩
  · rw [matchZone_spec] at hid hrole
    rw [matchZone_eq, find_sameZone hs hy (sameZone_iff.mpr ⟨hid, hrole⟩)]
    rfl
  · rw [matchZone_spec] at h
    have hnone : s.canvas.zones.find? (sameZone n) = none :=
      List.find?_eq_none.mpr fun y hy hm => h y hy (sameZone_iff.mp hm).1 (sameZone_iff.mp hm).2
    rw [matchZone_eq, hnone]
    exact ⟨rfl, rfl⟩

/-- A zone of the later state stands for one of the former. -/
theorem Laid.zone (h : Laid s t) (hs : s.zonesWf) (ht : t.zonesWf) (hz : z ∈ t.canvas.zones) :
    ∃ y ∈ s.canvas.zones, z.spec = y.spec ∧ z.arb.mask = y.arb.mask ∧ (y.arb.yielded = [] → z.arb.yielded = []) := by
  have hpair : (z.spec, z.arb.mask) ∈ s.canvas.zones.map fun z => (z.spec, z.arb.mask) :=
    h.masks ▸ List.mem_map_of_mem (f := fun z : Zone => (z.spec, z.arb.mask)) hz
  obtain ⟨y, hy, he⟩ := List.mem_map.mp hpair
  obtain ⟨hspec, hmask⟩ := Prod.mk.inj he
  have hid : y.spec.id = z.spec.id := congrArg ZoneSpec.id hspec
  have hrel := h.yielded z.spec.id
  rw [zone_of_zonesWf ht hz, ← hid, zone_of_zonesWf hs hy] at hrel
  exact ⟨y, hy, hspec.symm, hmask.symm, hrel.2⟩

theorem Laid.takesOver (h : Laid s t) (hs : s.zonesWf) (ht : t.zonesWf) {old : List Zone}
    (ho : ∀ y ∈ s.canvas.zones, TakesOver old y) (hz : z ∈ t.canvas.zones) : TakesOver old z := by
  obtain ⟨y, hy, hspec, hmask, hyield⟩ := h.zone hs ht hz
  refine ⟨fun x hx hid hrole => ?_, fun hx => ?_⟩
  · rw [hspec] at hid hrole
    exact hmask.trans ((ho y hy).kept x hx hid hrole)
  · rw [hspec] at hx
    obtain ⟨h1, h2⟩ := (ho y hy).added hx
    exact ⟨hmask.trans h1, hyield h2⟩

theorem laidOut_wf (hs : s.zonesWf) (h : s.canvas.awaitingLayout = some specs) : (s.laidOut specs).zonesWf := by
  have hspec (y : Zone) (hy : y ∈ (s.laidOut specs).canvas.zones) : ∃ n ∈ specs, matchZone s.canvas.zones n = y :=
    List.mem_map.mp (laidOut_eq hs h ▸ hy)
  refine ⟨?_, fun y hy => ?_, fun y hy => ?_, fun l hl => ?_⟩
  · rw [laidOut_eq hs h, List.map_map]
    have hids : specs.map ((·.spec.id) ∘ matchZone s.canvas.zones) = specs.map (·.id) :=
      List.map_congr_left fun n _ => congrArg ZoneSpec.id (matchZone_spec _ n)
    rw [hids]
    exact (hs.awaiting specs h).1
  · obtain ⟨n, hn, rfl⟩ := hspec y hy
    rw [matchZone_spec]
    exact (hs.awaiting specs h).2 n hn
  · obtain ⟨n, -, rfl⟩ := hspec y hy
    rcases matchZone_arb s.canvas.zones n with ⟨x, hx, -, -, he⟩ | he
    · exact he ▸ hs.arb x hx
    · exact he ▸ emptyArb_wf
  · rw [(laidOut_stands s specs).layout] at hl
    cases hl

theorem applied_takesOver (hs : s.zonesWf) : ∀ z ∈ s.applyAwaiting.canvas.zones, TakesOver s.canvas.zones z := by
  intro z hz
  cases h : s.canvas.awaitingLayout with
  | none =>
    rw [applyAwaiting_of_none h] at hz
    exact takesOver_self hs hz
  | some specs =>
    refine (applied_laid h).takesOver (laidOut_wf hs h) ((ZonesHold.applyAwaiting s).wf hs) (fun y hy => ?_) hz
    rw [laidOut_eq hs h] at hy
    obtain ⟨n, -, rfl⟩ := List.mem_map.mp hy
    exact takesOver_matched hs n

end

end Sys2Proof.Machine

namespace Sys2Proof
open Machine

/-- Every frame event applies what awaits at its boundary, and composes over the zones then in force (R85, R86, R90). -/
theorem frame_event_applies (s : State) (hd : s.due = []) (hs : s.zonesWf) :
    ∃ t, exec .outputFrameEvent s = .next t ∧ t.canvas.awaitingConfig = none ∧ t.canvas.awaitingLayout = none ∧
      t.canvas.size = s.canvas.awaitingConfig.getD s.canvas.size ∧
      t.canvas.zones.map (·.spec) = s.canvas.awaitingLayout.getD (s.canvas.zones.map (·.spec)) ∧
      t.canvas.visibility.map (·.zone) = t.zoneIds ∧
      (∀ z ∈ t.canvas.zones, TakesOver s.canvas.zones z) ∧
      Frame ([.canvas, .inputs, .assets, .programs, .exposure] ++ endParts) s { t with due := [] } := by
  have hexec : exec .outputFrameEvent s = .next s.frameEvent := by
    show Host.Outcome.next s.settle.frameEvent = _
    rw [settle_of_due_nil s hd]
  have hwf := (ZonesHold.frameEvent s).wf hs
  have hlaid := frameAfter_laid s.applyAwaiting s.keptWidth
  have hstands := frameAfter_stands s.applyAwaiting s.keptWidth
  have hvis := frameAfter_visibility s.applyAwaiting s.keptWidth
  have hafter := frameAfter_due s.applyAwaiting s.keptWidth
  have hframe := DueFrame.next (P := [.canvas, .inputs, .assets, .programs, .exposure] ++ endParts)
    (.of_frame (.mono (applyAwaiting_frame s))) hafter
  unfold State.frameEvent at hexec hwf
  generalize s.applyAwaiting.frameAfter s.keptWidth = t at *
  have hcanvas := (applied_stands s).trans hstands
  refine ⟨t, hexec, hcanvas.config, hcanvas.layout, hcanvas.size, hlaid.specs.trans (applied_specs hs), hvis, fun z hz => ?_, ?_⟩
  · exact hlaid.takesOver ((ZonesHold.applyAwaiting s).wf hs) hwf (applied_takesOver hs) hz
  · rw [← hd]
    exact hframe

end Sys2Proof
end

section
namespace Sys2Proof.Machine

set_option Elab.async false

/-! ## A state whose head feature and card are outstanding (R114, R176, R199) -/

/-- The head feature and the standing card each have an outstanding zone, so that none is to follow. -/
structure Calm (s : State) : Prop where
  feature : ∀ f ∈ s.rotation.features.head?, f.outstanding ≠ []
  card : ∀ c ∈ s.crawl.card, c.zones ≠ []

section
variable {s t : State}

theorem Calm.congr (h : Calm s) (hf : t.rotation.features = s.rotation.features) (hc : t.crawl.card = s.crawl.card) : Calm t :=
  ⟨hf ▸ h.feature, hc ▸ h.card⟩

theorem Frame.featureList {P : List Part} (h : Frame P s t) (hP : P.contains .features = false := by decide) :
    t.rotation.features = s.rotation.features := (h.same .features (by simpa using hP)).1

theorem Frame.card {P : List Part} (h : Frame P s t) (hP : P.contains .crawl = false := by decide) :
    t.crawl.card = s.crawl.card := by
  have hc : ({ t.crawl with config := Crawl.reset.config } : Crawl) = { s.crawl with config := Crawl.reset.config } :=
    h.same .crawl (by simpa using hP)
  have hcard := congrArg Crawl.card hc
  exact hcard

theorem Calm.of_frame {P : List Part} (h : Calm s) (k : Frame P s t)
    (hP : (P.contains .features || P.contains .crawl) = false := by decide) : Calm t := by
  simp only [Bool.or_eq_false_iff] at hP
  exact h.congr (k.featureList hP.1) (k.card hP.2)

/-- Nothing follows in a calm state. -/
theorem Calm.followUps (h : Calm s) : s.followUps = s := by
  have hfeature : s.featureFollow = s := by
    cases hf : s.rotation.features with
    | nil => exact featureFollow_of_nil hf
    | cons f rest =>
      rw [featureFollow_of_cons hf, if_neg (h.feature f (by rw [hf]; rfl))]
  unfold State.followUps
  rw [hfeature]
  cases hc : s.crawl.card with
  | none => exact cardFollow_of_none hc
  | some c =>
    unfold State.cardFollow
    rw [hc]
    exact if_neg (by simpa using h.card c hc)

theorem startFeatures_head (fs : List Feature) (s : State) :
    ∀ f ∈ (s.startFeatures fs).rotation.features.head?, f.outstanding ≠ [] := by
  induction fs generalizing s with
  | nil => nofun
  | cons f fs ih =>
    unfold State.startFeatures
    dsimp only
    split
    · exact ih _
    · next h =>
      intro g hg
      obtain rfl := Option.some.inj hg
      simpa using h

theorem startCards_card (ids : List Nat) (s : State) : ∀ c ∈ (s.startCards ids).crawl.card, c.zones ≠ [] := by
  induction ids generalizing s with
  | nil => nofun
  | cons i ids ih =>
    unfold State.startCards
    dsimp only
    split
    · exact ih _
    · next h =>
      intro c hc
      obtain rfl := Option.some.inj hc
      simpa using h

/-- What follows an event's ends leaves the state calm (R114). -/
theorem followUps_calm (s : State) : Calm s.followUps := by
  have hfeature : ∀ f ∈ s.featureFollow.rotation.features.head?, f.outstanding ≠ [] := by
    cases hf : s.rotation.features with
    | nil =>
      rw [featureFollow_of_nil hf, hf]
      nofun
    | cons f rest =>
      rw [featureFollow_of_cons hf]
      split
      · exact startFeatures_head _ _
      · next h =>
        intro g hg
        rw [hf] at hg
        obtain rfl := Option.some.inj hg
        exact h
  have hcard (u : State) : ∀ c ∈ u.cardFollow.crawl.card, c.zones ≠ [] := by
    cases hc : u.crawl.card with
    | none =>
      rw [cardFollow_of_none hc, hc]
      nofun
    | some c =>
      unfold State.cardFollow
      rw [hc]
      dsimp only
      split
      · exact startCards_card _ _
      · next h =>
        intro d hd
        rw [hc] at hd
        obtain rfl := Option.some.inj hd
        simpa using h
  refine ⟨?_, hcard _⟩
  rw [State.followUps, (cardFollow_frame s.featureFollow).featureList]
  exact hfeature

/-! ### Releases in a calm state -/

/-- A level leaves its zone, is reported ended by its release, and its zone is evaluated (steps 1, 2 and 4 of R114). -/
def State.letGo (zone level : Nat) (s : State) : State :=
  if (s.standsAt zone level).isSome then
    ((s.standsAt zone level).elim s fun x => s.endTold .released zone level x.1 x.2).evaluate zone
  else s

theorem letGo_frame (zone level : Nat) (s : State) : Frame [.zones, .channels] s (s.letGo zone level) := by
  unfold State.letGo
  cases s.standsAt zone level with
  | none => exact .refl _ s
  | some x =>
    exact ((Frame.mono (mapArb_frame s _ _)).next (raise_frame _ _ _)).next (evaluate_frame _ _)

/-- A channel that releases its level in a calm state only lets it go. -/
theorem Calm.release (h : Calm s) (ch : Channel) (zone : Nat) : s.release zone (channelLevel ch) = s.letGo zone (channelLevel ch) := by
  have hf := letGo_frame zone (channelLevel ch) s
  unfold State.release
  cases hst : s.standsAt zone (channelLevel ch) with
  | none =>
    unfold State.letGo
    rw [hst]
    rfl
  | some x =>
    have hend : s.endOne .released zone (channelLevel ch) = s.endTold .released zone (channelLevel ch) x.1 x.2 := by
      rw [endOne_of_some (stage := x.1) (frames := x.2) hst, tellOwner_channel]
      exact channelEnded_quiet (.inl rfl)
    have hgo : (s.endEach .released [(zone, channelLevel ch)]).evaluateAll [zone] = s.letGo zone (channelLevel ch) := by
      unfold State.letGo
      rw [hst]
      exact congrArg (State.evaluate zone) hend
    show ((s.endEach .released [(zone, channelLevel ch)]).evaluateAll [zone]).followUps = _
    rw [hgo]
    exact (h.of_frame hf).followUps

theorem Calm.releaseEntry (h : Calm s) (ch : Channel) (o : CueOutcome) : Calm (s.releaseEntry ch o) := by
  unfold State.releaseEntry
  split
  · exact h
  · rw [h.release]
    exact (h.of_frame (letGo_frame _ _ s)).of_frame (endEntry_frame _ ch o)

theorem Calm.testOverrun (h : Calm s) (ch : Channel) : Calm (s.testOverrun ch) := by
  unfold State.testOverrun
  split
  · exact h.releaseEntry ch _
  · exact h

/-! ### The frame's work up to the channels -/

theorem stepCrawl_card (s : State) (kept : Option Nat) : (s.stepCrawl kept).crawl.card = s.crawl.card := by
  have hleave (u : State) (i : Nat) : (u.leaveStrip i).crawl.card = u.crawl.card := by
    unfold State.leaveStrip
    dsimp only
    split
    · split
      · rfl
      · split <;> rfl
    · rfl
  have hmove (u : State) : u.moveStrip.crawl.card = u.crawl.card := by
    have hfold (l : List StripItem) (u : State) : (l.foldl (fun s i => s.leaveStrip i.id) u).crawl.card = u.crawl.card := by
      induction l generalizing u with
      | nil => rfl
      | cons i l ih => exact (ih _).trans (hleave u i.id)
    exact hfold _ _
  have henter (u : State) (w : Nat) : (u.enterStrip w).crawl.card = u.crawl.card := by
    unfold State.enterStrip
    split
    · split <;> rfl
    · rfl
  unfold State.stepCrawl
  split
  · split
    · exact (henter _ _).trans (hmove s)
    · rfl
  · rfl

theorem Calm.frameBoundary (h : Calm s) : Calm s.frameBoundary := by
  have h1 : Calm (s.mapCanvas fun c => { c with frame := c.frame + 1 }).countHolds := by
    rw [countHolds_eq]
    exact h.congr rfl rfl
  exact (h1.testOverrun .a).testOverrun .b

end

end Sys2Proof.Machine
end

section
namespace Sys2Proof.Machine

set_option Elab.async false

/-! ## What channels do looks at nothing of the crawl (R152 to R158) -/

/-- The state with another crawl unit. -/
def State.withCrawl (c : Crawl) (s : State) : State := { s with crawl := c }

/-- An operation that neither looks at the crawl unit nor changes it. -/
def Blind (f : State → State) : Prop := ∀ (c : Crawl) (s : State), f (s.withCrawl c) = (f s).withCrawl c

section
variable {c : Crawl} {s : State}

/-- Of two operations, the one that a condition of other units chooses. -/
theorem withCrawl_ite {p q : Prop} [Decidable p] [Decidable q] (h : q ↔ p) {a b x y : State} (hx : p → x = a.withCrawl c)
    (hy : ¬p → y = b.withCrawl c) : (if q then x else y) = (if p then a else b).withCrawl c := by
  by_cases hp : p
  · rw [if_pos hp, if_pos (h.mpr hp), hx hp]
  · rw [if_neg hp, if_neg (mt h.mp hp), hy hp]

theorem mapChan_blind (ch : Channel) (f : Chan → Chan) : Blind (State.mapChan ch f) := fun _ _ => by
  cases ch <;> rfl

theorem chan_withCrawl (ch : Channel) : (s.withCrawl c).chan ch = s.chan ch := by cases ch <;> rfl

theorem reader_withCrawl (name : ReaderName) : (s.withCrawl c).reader name = s.reader name := by cases name <;> rfl

theorem setReader_blind (name : ReaderName) (r : Option Reader) : Blind (State.setReader name r) := fun _ _ => by
  cases name <;> rfl

theorem noteGrant_blind (zone level : Nat) : Blind (State.noteGrant zone level) := fun c s => by
  unfold State.noteGrant
  cases levelChannel level with
  | none => rfl
  | some ch =>
    exact withCrawl_ite (by rw [chan_withCrawl]) (fun _ => mapChan_blind ch _ c s) fun _ => rfl

theorem evaluate_blind (zone : Nat) : Blind (State.evaluate zone) := fun c s => by
  have hd : ((s.withCrawl c).zone? zone).bind (·.nextGrant (s.withCrawl c).timing.run) =
    (s.zone? zone).bind (·.nextGrant s.timing.run) := rfl
  unfold State.evaluate
  rw [hd]
  cases (s.zone? zone).bind (·.nextGrant s.timing.run) with
  | none => rfl
  | some r => exact noteGrant_blind zone r.level c (s.mapArb zone (ZoneArb.grant r (s.canvas.frame + 1)))

theorem letGo_blind (zone level : Nat) : Blind (State.letGo zone level) := fun c s => by
  have hst : (s.withCrawl c).standsAt zone level = s.standsAt zone level := rfl
  unfold State.letGo
  rw [hst]
  cases s.standsAt zone level with
  | none => rfl
  | some x => exact evaluate_blind zone c (s.endTold .released zone level x.1 x.2)

theorem testReader_blind (name : ReaderName) : Blind (State.testReader name) := fun c s => by
  have hset (r : Option Reader) := setReader_blind name r c s
  unfold State.testReader
  rw [reader_withCrawl]
  cases s.reader name with
  | none => rfl
  | some r =>
    refine withCrawl_ite Iff.rfl (fun _ => withCrawl_ite Iff.rfl (fun _ => ?_) fun _ => rfl)
      fun _ => withCrawl_ite Iff.rfl (fun _ => hset _) fun _ => rfl
    rw [hset]
    rfl

theorem attachReader_blind (name : ReaderName) (want : Reader) : Blind (State.attachReader name want) := fun c s =>
  withCrawl_ite Iff.rfl (fun _ => by rw [setReader_blind, testReader_blind]) fun _ => rfl

theorem syncReader_blind (name : ReaderName) (want : Option Reader) : Blind (State.syncReader name want) := fun c s => by
  unfold State.syncReader
  rw [reader_withCrawl]
  cases s.reader name with
  | none =>
    cases want with
    | none => rfl
    | some w => exact attachReader_blind name w c s
  | some r =>
    cases want with
    | none => exact setReader_blind name none c s
    | some w =>
      exact withCrawl_ite Iff.rfl (fun _ => by rw [setReader_blind, testReader_blind])
        fun _ => by rw [setReader_blind, attachReader_blind]

theorem wantChannel_withCrawl (ch : Channel) : (s.withCrawl c).wantChannel ch = s.wantChannel ch := by
  unfold State.wantChannel
  rw [chan_withCrawl]
  rfl

theorem syncReaders_blind : Blind State.syncReaders := fun c s => by
  have hsave : (s.withCrawl c).wantSave = s.wantSave := rfl
  unfold State.syncReaders
  dsimp only
  rw [hsave, syncReader_blind, wantChannel_withCrawl, syncReader_blind, wantChannel_withCrawl, syncReader_blind]

theorem placeHead_blind (ch : Channel) : Blind (State.placeHead ch) := fun c s => mapChan_blind ch _ c s

theorem popHead_blind (ch : Channel) : Blind (State.popHead ch) := fun c s => by
  unfold State.popHead State.loadHead State.leaveHead
  rw [mapChan_blind, setReader_blind, placeHead_blind, syncReaders_blind]

theorem raiseChannel_blind (ch : Channel) (e : Cue) (o : CueOutcome) (pos : Int) (passes shown : Nat) :
    Blind (State.raiseChannel ch e o pos passes shown) := fun c s => by
  unfold State.raiseChannel
  rw [chan_withCrawl]
  rfl

theorem dropHead_blind (ch : Channel) (e : Cue) (o : CueOutcome) : Blind (State.dropHead ch e o) := fun c s => by
  unfold State.dropHead State.loadHead State.leaveHead
  rw [chan_withCrawl, mapChan_blind, setReader_blind, raiseChannel_blind, placeHead_blind, syncReaders_blind]

theorem rollDrops_blind (ch : Channel) (cues : List Cue) : Blind fun s => (s.rollDrops ch cues).1 := fun c s => by
  induction cues generalizing s with
  | nil => rfl
  | cons e rest ih =>
    have hd : (s.withCrawl c).dropCause e = s.dropCause e := rfl
    dsimp only
    unfold State.rollDrops
    rw [hd]
    cases s.dropCause e with
    | none => rfl
    | some o =>
      dsimp only
      rw [dropHead_blind]
      exact ih (s.dropHead ch e o)

theorem request_blind (zone : Nat) (r : Request) : Blind fun s => (s.request zone r false).1 := fun c s => by
  have hz : (s.withCrawl c).zone? zone = s.zone? zone := rfl
  have he := evaluate_blind zone c (s.mapArb zone (ZoneArb.record r))
  dsimp only
  unfold State.request
  rw [hz]
  cases s.zone? zone with
  | none => rfl
  | some z =>
    dsimp only
    split
    · rfl
    split
    · rfl
    have hm : (s.withCrawl c).mapArb zone (ZoneArb.record r) = (s.mapArb zone (ZoneArb.record r)).withCrawl c := rfl
    rw [hm, he]
    have hs : (((s.mapArb zone (ZoneArb.record r)).evaluate zone).withCrawl c).zone? zone =
      ((s.mapArb zone (ZoneArb.record r)).evaluate zone).zone? zone := rfl
    rw [hs]
    split <;> rfl

theorem rollHead_blind (ch : Channel) : Blind fun s => (s.rollHead ch).1 := fun c s => by
  dsimp only
  unfold State.rollHead
  rw [chan_withCrawl]
  cases (s.chan ch).cues with
  | nil => rfl
  | cons e rest =>
    dsimp only
    rw [mapChan_blind]
    exact request_blind e.fields.zone ⟨channelLevel ch, .channel ch, none, e.fields.tag⟩ c
      (s.mapChan ch fun c => { c with state := .requested })

theorem roll_blind (ch : Channel) : Blind fun s => (s.roll ch).1 := fun c s => by
  have hd := rollDrops_blind ch (s.chan ch).cues c s
  dsimp only at hd ⊢
  unfold State.roll
  rw [chan_withCrawl]
  dsimp only
  rw [hd]
  exact rollHead_blind ch c _

/-- Two crawl units with which a state is calm give one outcome of an entry's completion. -/
theorem completeEntry_withCrawl (ch : Channel) (hs : Calm s) (hc : Calm (s.withCrawl c)) :
    (s.withCrawl c).completeEntry ch = (s.completeEntry ch).withCrawl c := by
  unfold State.completeEntry
  rw [chan_withCrawl]
  cases (s.chan ch).cues with
  | nil => rfl
  | cons e rest =>
    dsimp only
    rw [hs.release, hc.release, letGo_blind, popHead_blind]
    generalize (s.letGo e.fields.zone (channelLevel ch)).popHead ch = u
    cases (s.chan ch).chain with
    | false => exact raiseChannel_blind ch e .complete _ _ _ c u
    | true =>
      have hr := roll_blind ch c u
      dsimp only at hr
      rw [if_pos rfl, if_pos rfl, hr]
      exact raiseChannel_blind ch e .complete _ _ _ c _

theorem Calm.mapChan (h : Calm s) (ch : Channel) (f : Chan → Chan) : Calm (s.mapChan ch f) := h.of_frame (mapChan_frame s ch f)

theorem testPass_withCrawl (ch : Channel) (f : CueFields) (clip : Clip) (hs : Calm s) (hc : Calm (s.withCrawl c)) :
    (s.withCrawl c).testPass ch f clip = (s.testPass ch f clip).withCrawl c := by
  unfold State.testPass
  rw [chan_withCrawl]
  refine withCrawl_ite Iff.rfl (fun _ => ?_) fun _ => syncReaders_blind c s
  dsimp only
  rw [mapChan_blind]
  refine withCrawl_ite Iff.rfl (fun _ => ?_) fun _ => ?_
  · rw [mapChan_blind, syncReaders_blind]
  · refine completeEntry_withCrawl ch (hs.mapChan ch _) ?_
    rw [← mapChan_blind]
    exact hc.mapChan ch _

theorem advance_withCrawl (ch : Channel) (hs : Calm s) (hc : Calm (s.withCrawl c)) :
    (s.withCrawl c).advance ch = (s.advance ch).withCrawl c := by
  unfold State.advance
  rw [chan_withCrawl]
  cases (s.chan ch).cues with
  | nil => rfl
  | cons e rest =>
    have hclip : (s.withCrawl c).clip? e.fields.clip = s.clip? e.fields.clip := rfl
    dsimp only
    rw [hclip]
    cases s.clip? e.fields.clip with
    | none => rfl
    | some clip =>
      dsimp only
      rw [mapChan_blind]
      refine testPass_withCrawl ch e.fields clip (hs.mapChan ch _) ?_
      have hmove := hc.mapChan ch
      simp only [mapChan_blind ch _ c s] at hmove
      exact hmove _

/-- Two crawl units with which a state is calm give one outcome of a channel's step. -/
theorem stepChannel_withCrawl (ch : Channel) (hs : Calm s) (hc : Calm (s.withCrawl c)) :
    (s.withCrawl c).stepChannel ch = (s.stepChannel ch).withCrawl c := by
  unfold State.stepChannel
  rw [chan_withCrawl]
  cases (s.chan ch).cues with
  | nil => rfl
  | cons e rest =>
    exact withCrawl_ite Iff.rfl
      (fun _ => withCrawl_ite Iff.rfl (fun _ => advance_withCrawl ch hs hc) fun _ => mapChan_blind ch _ c s) fun _ => rfl

end

end Sys2Proof.Machine
end

section
namespace Sys2Proof.Machine

set_option Elab.async false

section
variable {c : Crawl} {s : State}

theorem Calm.completeEntry (h : Calm s) (ch : Channel) : Calm (s.completeEntry ch) := by
  unfold State.completeEntry
  split
  · exact h
  · next e rest _ =>
    dsimp only
    rw [h.release]
    have hpop := (h.of_frame (letGo_frame e.fields.zone (channelLevel ch) s)).of_frame (popHead_frame _ ch)
    refine Calm.of_frame ?_ (raiseChannel_frame _ ch _ _ _ _ _)
    split
    · exact hpop.of_frame (roll_frame _ ch)
    · exact hpop

theorem Calm.stepChannel (h : Calm s) (ch : Channel) : Calm (s.stepChannel ch) := by
  have hpass (u : State) (hu : Calm u) (f : CueFields) (clip : Clip) : Calm (u.testPass ch f clip) := by
    unfold State.testPass
    split
    · dsimp only
      split
      · exact ((hu.mapChan ch _).mapChan ch _).of_frame (syncReaders_frame _)
      · exact (hu.mapChan ch _).completeEntry ch
    · exact hu.of_frame (syncReaders_frame u)
  have hadvance : Calm (s.advance ch) := by
    unfold State.advance
    split
    · split
      · exact hpass _ (h.mapChan ch _) _ _
      · exact h
    · exact h
  unfold State.stepChannel
  split
  · split
    · split
      · exact hadvance
      · exact h.mapChan ch _
    · exact h
  · exact h

theorem enterStrip_withCrawl (s : State) (w : Nat) : ∃ c, s.enterStrip w = s.withCrawl c := by
  unfold State.enterStrip
  split
  · split
    · exact ⟨_, rfl⟩
    · exact ⟨s.crawl, rfl⟩
  · exact ⟨s.crawl, rfl⟩

/-- The width that a layout hands on reaches the strip alone (R196). -/
theorem stepCrawl_withCrawl (s : State) (kept : Option Nat) : ∃ c, s.stepCrawl none = (s.stepCrawl kept).withCrawl c := by
  unfold State.stepCrawl
  split
  · next z _ =>
    split
    · obtain ⟨c1, h1⟩ := enterStrip_withCrawl s.moveStrip (kept.getD z.spec.width)
      obtain ⟨c2, h2⟩ := enterStrip_withCrawl s.moveStrip ((none : Option Nat).getD z.spec.width)
      exact ⟨c2, by rw [h1, h2]; rfl⟩
    · exact ⟨s.crawl, rfl⟩
  · exact ⟨s.crawl, rfl⟩

/-- In a calm state the width of R196 makes no difference but to the crawl unit. -/
theorem frameAfter_withCrawl (h : Calm s) (kept : Option Nat) : ∃ c, s.frameAfter none = (s.frameAfter kept).withCrawl c := by
  have h1 : Calm s.frameBoundary.compose := h.frameBoundary.of_frame (compose_frame _)
  have h2 : Calm s.frameBoundary.compose.reportMissing.recordShown.creditFrame :=
    ((h1.of_frame (reportMissing_frame _)).of_frame (recordShown_frame _)).of_frame (creditFrame_frame _)
  have hprograms (u : State) (hu : Calm u) : Calm u.countPrograms := by
    have hd := countPrograms_due u
    exact hu.congr (Frame.featureList (t := { u.countPrograms with due := u.due }) hd)
      (Frame.card (t := { u.countPrograms with due := u.due }) hd)
  have h3 := hprograms _ h2
  have he (k : Option Nat) : s.frameAfter k =
      ((s.frameBoundary.compose.reportMissing.recordShown.creditFrame.countPrograms.stepCrawl k).countTakeovers.stepChannel
        .a).stepChannel .b := rfl
  rw [he, he]
  generalize s.frameBoundary.compose.reportMissing.recordShown.creditFrame.countPrograms = u at h3
  have hcalm (k : Option Nat) : Calm (u.stepCrawl k).countTakeovers :=
    (h3.congr (stepCrawl_frame u k).featureList (stepCrawl_card u k)).congr rfl rfl
  obtain ⟨c, hc⟩ := stepCrawl_withCrawl u kept
  have hnone := hcalm none
  rw [hc] at hnone ⊢
  have hcount : ((u.stepCrawl kept).withCrawl c).countTakeovers = (u.stepCrawl kept).countTakeovers.withCrawl c := rfl
  rw [hcount] at hnone ⊢
  have ha := stepChannel_withCrawl .a (hcalm kept) hnone
  have hb := hnone.stepChannel .a
  rw [ha] at hb ⊢
  exact ⟨c, stepChannel_withCrawl .b ((hcalm kept).stepChannel .a) hb⟩

theorem frameAfter_crawl (h : Calm s) (kept : Option Nat) :
    { s.frameAfter kept with crawl := (s.frameAfter none).crawl } = s.frameAfter none := by
  obtain ⟨c, hc⟩ := frameAfter_withCrawl h kept
  rw [hc]
  rfl

end

/-! ## The layout's zones, crawl and programs (R90, R166, R196) -/

section
variable {s : State} {specs : List ZoneSpec}

/-- The takeovers that a layout's removals end, zone by zone (R90, R123). -/
theorem removedItems_eq (h : (specs.map (·.id)).Pairwise (· < ·)) : s.removedItems specs =
    (s.canvas.zones.filter fun z => !(specs.any fun n => n.id == z.spec.id && n.role == z.spec.role)).flatMap fun z =>
      ((List.range 8).filter fun l => (z.arb.standing l).isSome).map fun l => (z.spec.id, l) := by
  unfold State.removedItems State.standingItems
  generalize s.canvas.zones = zones
  induction zones with
  | nil => rfl
  | cons z zones ih =>
    rw [List.flatMap_cons, ih, List.filter_cons]
    dsimp only
    rw [keptBy_iff h]
    cases specs.any fun n => n.id == z.spec.id && n.role == z.spec.role with
    | true => simp
    | false => simp

/-- The CRAWL zone is kept where a zone of its id and role has the CRAWL base in both layouts (R196). -/
theorem crawlKept_eq (old : List Zone) (h : (specs.map (·.id)).Pairwise (· < ·)) : crawlKept old specs =
    old.any fun z => z.spec.base == .crawl &&
      specs.any fun n => n.id == z.spec.id && n.role == z.spec.role && n.base == .crawl := by
  unfold crawlKept
  refine congrArg old.any (funext fun z => ?_)
  rw [keptBy_iff h, Bool.and_assoc]
  refine congrArg (z.spec.base == .crawl && ·) ?_
  rw [Bool.eq_iff_iff]
  simp only [Bool.and_eq_true, List.any_eq_true, beq_iff_eq]
  constructor
  · rintro ⟨⟨n, hn, hid, hrole⟩, m, hm, hmid, hbase⟩
    obtain rfl := spec_unique h hm hn (hmid.trans hid.symm)
    exact ⟨m, hm, ⟨hid, hrole⟩, hbase⟩
  · rintro ⟨n, hn, ⟨hid, hrole⟩, hbase⟩
    exact ⟨⟨n, hn, hid, hrole⟩, n, hn, hid, hbase⟩

theorem crawlZone_isSome (s : State) : s.crawlZone?.isSome = s.canvas.zones.any (·.spec.base == .crawl) := by
  unfold State.crawlZone?
  rw [Bool.eq_iff_iff]
  simp [List.find?_isSome]

theorem crawlKept_congr {old new : List Zone} (h : (specs.map (·.id)).Pairwise (· < ·))
    (hz : new.map (·.spec) = old.map (·.spec)) : crawlKept new specs = crawlKept old specs := by
  have hany (zones : List Zone) : (zones.any fun z => z.spec.base == .crawl &&
        specs.any fun n => n.id == z.spec.id && n.role == z.spec.role && n.base == .crawl) =
      (zones.map (·.spec)).any fun m => m.base == .crawl &&
        specs.any fun n => n.id == m.id && n.role == m.role && n.base == .crawl := by
    rw [List.any_map]
    rfl
  rw [crawlKept_eq _ h, crawlKept_eq _ h, hany, hany, hz]

/-- The state with a layout's zones in place and its strip cleared where the CRAWL zone is not kept, before the programs are
told (R90, R196). -/
def State.relaid (zones : List Zone) (clears : Bool) (s : State) : State :=
  { s with
    canvas := { s.canvas with zones := zones }
    crawl := if clears then
        { s.crawl with
          messages := s.crawl.messages.map fun m =>
            if s.crawl.strip.any (·.id == m.id) then { m with state := .queued } else m
          order := s.crawl.strip.map (·.id) ++ s.crawl.order
          strip := [] }
      else s.crawl }

theorem placeZones_eq (s : State) (specs : List ZoneSpec) : s.placeZones specs =
    (s.relaid (specs.map (matchZone s.canvas.zones)) (s.crawlZone?.isSome && !crawlKept s.canvas.zones specs)).activityChanged
      s.activePrograms := by
  unfold State.placeZones State.relaid
  dsimp only
  cases s.crawlZone?.isSome && !crawlKept s.canvas.zones specs <;> rfl

theorem activePrograms_eq (s : State) : s.activePrograms = [0, 1, 2, 3].filter fun p => decide (s.carrying p ≠ []) := by
  unfold State.activePrograms
  refine List.filter_congr fun p _ => ?_
  unfold State.active
  rw [Bool.eq_iff_iff]
  simp

end

end Sys2Proof.Machine
end

section
namespace Sys2Proof.Machine

set_option Elab.async false

/-! ## Releases of one level in several zones, as owners make them (R46, R64) -/

/-- What releases of level `l` in the zones `zs` leave of every other level and zone, of the replay unit and of what is
reported; levels 5 and 6 may come to be requested in answer (R107, R114). -/
structure Freed (l : Nat) (zs : List Nat) (s t : State) : Prop where
  frame : Frame endParts s t
  kept : ReplayKept s t
  reports : Reports (endKinds .released) s t []
  free : ∀ m, m ≠ 5 → m ≠ 6 → ZoneWise (StaysFree m) s t
  others : ∀ m, m ≠ 5 → m ≠ 6 → ∀ k, (m = l → k ∉ zs) →
    ZoneRel (LevelKept m (s.canvas.frame + 1)) (s.zone? k) (t.zone? k)
  gone : ∀ k ∈ zs, t.standsAt k l = none

section
variable {l : Nat} {zs : List Nat} {s t u : State}

/-- A level that keeps as it was stands where it stood. -/
theorem standsAt_of_levelKept {m k f : Nat} (h : ZoneRel (LevelKept m f) (s.zone? k) (t.zone? k)) :
    (t.standsAt k m).isSome = (s.standsAt k m).isSome := by
  unfold State.standsAt
  cases hs : s.zone? k with
  | none =>
    cases ht : t.zone? k with
    | none => rfl
    | some y =>
      rw [hs, ht] at h
      exact h.elim
  | some z =>
    cases ht : t.zone? k with
    | none =>
      rw [hs, ht] at h
      exact h.elim
    | some y =>
      rw [hs, ht] at h
      exact h.2.isSome

theorem Freed.nil (l : Nat) (s : State) : Freed l [] s s :=
  ⟨.refl _ s, .of_same rfl rfl, .refl _ s, fun m _ _ => ZoneWise.refl (staysFree_rule m) s,
    fun m _ _ _ _ => ZoneRel.refl (levelKept_rule m) _ _, nofun⟩

theorem Freed.stands (h : Freed l zs s t) (h5 : l ≠ 5) (h6 : l ≠ 6) {k : Nat} (hk : k ∉ zs) :
    (t.standsAt k l).isSome = (s.standsAt k l).isSome :=
  standsAt_of_levelKept (h.others l h5 h6 k fun _ => hk)

theorem Freed.cons {z : Nat} (h5 : l ≠ 5) (h6 : l ≠ 6) (h : Freed l [z] s u) (k : Freed l zs u t) : Freed l (z :: zs) s t := by
  have hframe : u.canvas.frame = s.canvas.frame := h.frame.canvasFrame
  refine ⟨h.frame.next k.frame, h.kept.trans k.kept, h.reports.next k.reports,
    fun m m5 m6 => (h.free m m5 m6).trans (staysFree_rule m) (k.free m m5 m6), fun m m5 m6 i hi => ?_, fun i hi => ?_⟩
  · refine ZoneRel.trans (levelKept_rule m) (h.others m m5 m6 i fun hm hz => ?_)
      (hframe ▸ k.others m m5 m6 i fun hm hz => hi hm (List.mem_cons_of_mem _ hz))
    exact hi hm (List.mem_cons.mpr (.inl (List.mem_singleton.mp hz)))
  · rcases List.mem_cons.mp hi with rfl | hi
    · exact (k.free l h5 h6).standsAt (h.gone i (List.mem_singleton_self i))
    · exact k.gone i hi

theorem release_freed (s : State) (zone : Nat) {l : Nat} (h5 : l ≠ 5) (h6 : l ≠ 6) : Freed l [zone] s (s.release zone l) := by
  have hgone := release_frees s zone h5 h6
  have hkept := replayKept_walk.released s zone l
  have hreports := release_reports s zone l
  have hframe := release_frame s zone l
  unfold State.release at *
  split
  · next h =>
    rw [if_pos h] at hgone hkept hreports hframe
    refine ⟨hframe, hkept, hreports, fun m m5 m6 => ?_, fun m m5 m6 k hk => ?_, fun k hk => List.mem_singleton.mp hk ▸ hgone⟩
    · exact endAll_zoneWise (staysFree_rule m) s .released _ (fun i _ f a => staysFree_remove m i.2 f a)
        fun f a r hr => staysFree_record f a r (by omega)
    · by_cases hm : m = l
      · have hne : k ≠ zone := by simpa using hk hm
        have hend : (s.endEach .released [(zone, l)]).zone? k = s.zone? k := endOne_zone_other .released hne
        have hrest := ((evaluateAll_zoneWise (levelKept_rule m) (s.endEach .released [(zone, l)]) [zone]).trans
          (levelKept_rule m) (followUps_zoneWise (levelKept_rule m) (fun f a r hr => levelKept_record (by omega) f a) _)).zones k
        rw [hend, (endEach_frame s .released [(zone, l)]).canvasFrame] at hrest
        exact hrest
      · exact (endAll_zoneWise (levelKept_rule m) s .released [(zone, l)]
          (fun i hi f a => levelKept_remove (by rw [List.mem_singleton.mp hi]; exact hm) f a)
          fun f a r hr => levelKept_record (by omega) f a).zones k
  · next h =>
    rw [if_neg h] at hgone
    have hn := Freed.nil l s
    exact ⟨hn.frame, hn.kept, hn.reports, hn.free, fun m m5 m6 k hk => hn.others m m5 m6 k (fun _ => List.not_mem_nil),
      fun k hk => List.mem_singleton.mp hk ▸ hgone⟩

theorem releases_freed (h5 : l ≠ 5) (h6 : l ≠ 6) (zs : List Nat) (s : State) :
    Freed l zs s (zs.foldl (fun s z => s.release z l) s) := by
  induction zs generalizing s with
  | nil => exact .nil l s
  | cons z zs ih => exact (release_freed s z h5 h6).cons h5 h6 (ih _)

/-! ### What the owners of levels 1 and 2 hear -/

theorem release_one_timing {zone : Nat} (h : (s.standsAt zone 1).isSome = true) :
    (s.release zone 1).timing = s.timing.levelEnded zone := by
  obtain ⟨x, hx⟩ := Option.isSome_iff_exists.mp h
  unfold State.release
  rw [if_pos h]
  unfold State.endAll
  rw [(followUps_frame _).timing, (evaluateAll_frame _ _).timing]
  show (s.endOne .released zone 1).timing = _
  rw [endOne_of_some (stage := x.1) (frames := x.2) hx, tellOwner_one]
  rfl

theorem release_two_record {zone : Nat} (h : (s.standsAt zone 2).isSome = true) : (s.release zone 2).record =
    { s.record with outstanding := s.record.outstanding.filter (· != zone) } := by
  obtain ⟨x, hx⟩ := Option.isSome_iff_exists.mp h
  unfold State.release
  rw [if_pos h]
  unfold State.endAll
  rw [(followUps_frame _).record, (evaluateAll_frame _ _).record]
  show (s.endOne .released zone 2).record = _
  rw [endOne_of_some (stage := x.1) (frames := x.2) hx]
  rfl

theorem release_timing {zone : Nat} (h : l ≠ 1) : (s.release zone l).timing = s.timing := by
  unfold State.release
  split
  · exact endAll_timing s .released _ (by simpa using h)
  · rfl

theorem release_record {zone : Nat} (h : l ≠ 2) : (s.release zone l).record = s.record := by
  unfold State.release
  split
  · exact endAll_record s .released _ (by simpa using h)
  · rfl

/-- The zones of a list still stand at level `l` after the release of another. -/
theorem stands_after {z : Nat} (h5 : l ≠ 5) (h6 : l ≠ 6) (hz : z ∉ zs) (hs : ∀ k ∈ zs, (s.standsAt k l).isSome = true) :
    ∀ k ∈ zs, ((s.release z l).standsAt k l).isSome = true := fun k hk => by
  rw [(release_freed s z h5 h6).stands h5 h6 fun hm => hz (List.mem_singleton.mp hm ▸ hk)]
  exact hs k hk

theorem filter_out_cons (z : Nat) (zs l : List Nat) :
    (l.filter (· != z)).filter (fun k => !zs.contains k) = l.filter fun k => !(z :: zs).contains k := by
  rw [List.filter_filter]
  refine List.filter_congr fun k _ => ?_
  rw [Bool.eq_iff_iff]
  simp [and_comm]

/-- The phase is left with the last zone of several, whichever of their releases that is (R46, R47). -/
theorem phase_spent_later {p : Phase} {first last zs : List Nat} (h1 : first = [] → last = []) (h2 : zs = [] → last = first) :
    (if zs ≠ [] ∧ last = [] ∧ ((if first = [] ∧ (p = .countdown ∨ p = .periodEnd) then Phase.spent else p) = .countdown ∨
        (if first = [] ∧ (p = .countdown ∨ p = .periodEnd) then Phase.spent else p) = .periodEnd) then Phase.spent
      else if first = [] ∧ (p = .countdown ∨ p = .periodEnd) then .spent else p) =
      if last = [] ∧ (p = .countdown ∨ p = .periodEnd) then .spent else p := by
  by_cases hf : first = []
  · by_cases hp : p = .countdown ∨ p = .periodEnd <;> simp [hf, h1 hf, hp]
  · by_cases hz : zs = []
    · simp [hz, h2 hz, hf]
    · simp [hz, hf]

/-- The timing unit after the releases of level 1 in several zones (R46): it is SPENT with the last. -/
theorem releases_one (zs : List Nat) (s : State) (hn : zs.Nodup) (hs : ∀ k ∈ zs, (s.standsAt k 1).isSome = true) :
    let t := zs.foldl (fun s z => s.release z 1) s
    let out := s.timing.outstanding.filter fun k => !zs.contains k
    t.record = s.record ∧ t.timing =
      { s.timing with
        outstanding := out
        phase := if zs ≠ [] ∧ out = [] ∧ (s.timing.phase = .countdown ∨ s.timing.phase = .periodEnd) then .spent
          else s.timing.phase } := by
  induction zs generalizing s with
  | nil => simp
  | cons z zs ih =>
    obtain ⟨hz, hn⟩ := List.nodup_cons.mp hn
    obtain ⟨hst, hs⟩ := List.forall_mem_cons.mp hs
    obtain ⟨hrec, htim⟩ := ih (s.release z 1) hn (stands_after (by decide) (by decide) hz hs)
    rw [release_one_timing hst, levelEnded_eq] at htim
    refine ⟨hrec.trans (release_record (by decide)), htim.trans ?_⟩
    have hout := filter_out_cons z zs s.timing.outstanding
    dsimp only
    rw [hout]
    congr 1
    have hzs : zs = [] → s.timing.outstanding.filter (fun k => !(z :: zs).contains k) = s.timing.outstanding.filter (· != z) := by
      rintro rfl
      rw [← hout]
      exact List.filter_eq_self.mpr fun _ _ => rfl
    rw [phase_spent_later (first := s.timing.outstanding.filter (· != z)) (fun h => by rw [← hout, h]; rfl) hzs]
    simp

/-- The game record unit after the releases of level 2 in several zones (R64). -/
theorem releases_two (zs : List Nat) (s : State) (hn : zs.Nodup) (hs : ∀ k ∈ zs, (s.standsAt k 2).isSome = true) :
    let t := zs.foldl (fun s z => s.release z 2) s
    t.timing = s.timing ∧
      t.record = { s.record with outstanding := s.record.outstanding.filter fun k => !zs.contains k } := by
  induction zs generalizing s with
  | nil => simp
  | cons z zs ih =>
    obtain ⟨hz, hn⟩ := List.nodup_cons.mp hn
    obtain ⟨hst, hs⟩ := List.forall_mem_cons.mp hs
    obtain ⟨htim, hrec⟩ := ih (s.release z 2) hn (stands_after (by decide) (by decide) hz hs)
    refine ⟨htim.trans (release_timing (by decide)), ?_⟩
    rw [release_two_record hst] at hrec
    refine hrec.trans ?_
    dsimp only
    rw [filter_out_cons]

end

end Sys2Proof.Machine
end

section
namespace Sys2Proof.Machine

set_option Elab.async false

/-! ## A request's content, whatever is granted later -/

/-- A request stands at its level alone, granted or pending. -/
def ZoneArb.Sole (r : Request) (a : ZoneArb) : Prop :=
  (a.pendingAt r.level = none ∧
    ∃ k, a.serviceAt r.level = some k ∧ k.content = r.content ∧ k.remaining = r.frames ∧ k.credit = r.credit) ∨
  (a.serviceAt r.level = none ∧
    ∃ q, a.pendingAt r.level = some q ∧ q.content = r.content ∧ q.frames = r.frames ∧ q.credit = r.credit)

section
variable {s t u : State} {r : Request} {a b : ZoneArb}

theorem ZoneArb.Holds.sole {f : Nat} (h : a.Holds r f) (hw : a.wf) : a.Sole r := by
  have hapart (q : PendingReq) (k : InService) (hq : a.pendingAt r.level = some q) (hk : a.serviceAt r.level = some k) : False := by
    have hql : q.level = r.level := by simpa using List.find?_some hq
    have hkl : k.level = r.level := by simpa using List.find?_some hk
    exact hw.apart q (List.mem_of_find?_eq_some hq) k (List.mem_of_find?_eq_some hk) (hql.trans hkl.symm)
  rcases h with hk | ⟨q, hq, h⟩
  · refine .inl ⟨Option.eq_none_iff_forall_ne_some.mpr fun q hq => hapart q _ hq hk, _, hk, rfl, rfl, rfl⟩
  · exact .inr ⟨Option.eq_none_iff_forall_ne_some.mpr fun k hk => hapart q k hq hk, q, hq, h⟩

/-- A request that stands alone stays so where its level is only ever granted. -/
theorem ZoneArb.Sole.kept {f : Nat} (h : a.Sole r) (hk : LevelKept r.level f a b) : b.Sole r := by
  rcases hk with hk | ⟨q, hq, hk⟩
  · simp only [ZoneArb.level, Prod.mk.injEq] at hk
    obtain ⟨hp, hs, -⟩ := hk
    unfold ZoneArb.Sole
    rw [hp, hs]
    exact h
  · simp only [ZoneArb.level, Prod.mk.injEq] at hk
    obtain ⟨hp, hs, -⟩ := hk
    rcases h with ⟨hn, -⟩ | ⟨-, p, hp', hc, hf, hcr⟩
    · rw [hn] at hq
      cases hq
    · obtain rfl := Option.some.inj (hp'.symm.trans hq)
      exact .inl ⟨hp, _, hs, hc, hf, hcr⟩

/-- The request stands alone in the zone. -/
def State.holdsAlone (s : State) (k : Nat) (r : Request) : Prop := ∃ y, s.zone? k = some y ∧ y.arb.Sole r

theorem holdsAlone_kept {k f : Nat} (h : s.holdsAlone k r) (hk : ZoneRel (LevelKept r.level f) (s.zone? k) (t.zone? k)) :
    t.holdsAlone k r := by
  obtain ⟨y, hy, hsole⟩ := h
  rw [hy] at hk
  cases ht : t.zone? k with
  | none =>
    rw [ht] at hk
    exact hk.elim
  | some z =>
    rw [ht] at hk
    exact ⟨z, ht, hsole.kept hk.2⟩

theorem holdsAlone_stands {k : Nat} (h : s.holdsAlone k r) : (s.standsAt k r.level).isSome = true := by
  obtain ⟨y, hy, hsole⟩ := h
  have hst : (y.arb.standing r.level).isSome = true := by
    rw [standing_isSome]
    rcases hsole with ⟨-, k, hk, -⟩ | ⟨-, q, hq, -⟩
    · exact .inr (by rw [hk]; rfl)
    · exact .inl (by rw [hq]; rfl)
  unfold State.standsAt
  rw [hy]
  exact hst

/-! ## The countdown in zones that a layout gives the attribute (R46) -/

/-- The zones in which the countdown is requested: those that gain the attribute where level 1 does not stand. -/
def State.countdownAsked (won : List Nat) (s : State) : List Nat :=
  if s.timing.phase = .countdown ∧ s.timing.rules.countdownAsset ≠ none then
    won.filter fun zone => (s.standsAt zone 1).isNone
  else []

/-- The countdown is requested in the zones `asked`, which are outstanding, and nothing else changes at levels 1 and 2. -/
structure CountdownAsked (asked : List Nat) (s t : State) : Prop where
  frame : Frame endParts s t
  kept : ReplayKept s t
  reports : Reports [] s t []
  record : t.record = s.record
  timing : t.timing = { s.timing with outstanding := s.timing.outstanding ++ asked }
  two : ZoneWise (LevelKept 2) s t
  others : ∀ k, k ∉ asked → t.zone? k = s.zone? k
  stands : ∀ k ∈ asked, (t.standsAt k 1).isSome = true
  holds : ∀ k ∈ asked, ∀ a ∈ s.timing.rules.countdownAsset, t.holdsAlone k ⟨1, .asset a, none, none⟩

theorem requestAll_one_asked (hs : s.zonesWf) {a : Nat} (hp : s.timing.phase = .countdown)
    (ha : s.timing.rules.countdownAsset = some a) {won : List Nat} (hn : won.Nodup)
    (hz : ∀ k ∈ won, (s.zone? k).isSome = true) :
    CountdownAsked (s.countdownAsked won) s ((s.requestAll ⟨1, .asset a, none, none⟩ false won).1.mapTiming fun t =>
      { t with outstanding := t.outstanding ++ (s.requestAll ⟨1, .asset a, none, none⟩ false won).2 }) := by
  obtain ⟨hout, hother, hholds⟩ := requestAll_plain ⟨1, .asset a, none, none⟩ won s hn hz
  have hasked : s.countdownAsked won = won.filter fun k => (s.standsAt k 1).isNone := if_pos ⟨hp, by simp [ha]⟩
  have hframe := requestAll_frame s ⟨1, .asset a, none, none⟩ false won
  have hkept := replayKept_walk.requestAll s ⟨1, .asset a, none, none⟩ false won
  have hreports := requestAll_reports s ⟨1, .asset a, none, none⟩ false won
  have htwo := requestAll_zoneWise (levelKept_rule 2) s (r := ⟨1, .asset a, none, none⟩)
    (fun f b => levelKept_record (show 2 ≠ 1 by decide) f b) won
  have hwf := (ZonesHold.requestAll s ⟨1, .asset a, none, none⟩ false won (Nat.le_of_ble_eq_true rfl)).wf hs
  generalize s.requestAll ⟨1, .asset a, none, none⟩ false won = p at *
  obtain ⟨t, out⟩ := p
  dsimp only at *
  rw [hasked, hout]
  have halone (k : Nat) (hk : k ∈ won.filter fun k => (s.standsAt k 1).isNone) :
      t.holdsAlone k ⟨1, .asset a, none, none⟩ := by
    obtain ⟨y, hy, hh⟩ := hholds k hk
    exact ⟨y, hy, hh.sole (hwf.arb y (zone_mem hy))⟩
  refine ⟨(Frame.mono hframe).next (phase_frame t _ fun _ => by rfl), hkept.trans (.of_same rfl rfl),
    hreports.next (.of_links rfl rfl), hframe.record, ?_, htwo.frame_next (levelKept_rule 2) (phase_frame t _ fun _ => by rfl),
    hother, fun k hk => holdsAlone_stands (halone k hk), fun k hk b hb => ?_⟩
  · rw [mapTiming_timing, hframe.timing]
  · obtain rfl := Option.some.inj (ha.symm.trans hb)
    exact halone k hk

theorem countdownAsked_none (s : State) : CountdownAsked [] s s :=
  ⟨.refl _ s, .of_same rfl rfl, .refl [] s, rfl, by simp, ZoneWise.refl (levelKept_rule 2) s, fun _ _ => rfl, nofun,
    nofun⟩

/-- The countdown's part of a layout: requests first, then the releases of what is outstanding (R46). -/
theorem layoutCountdown_eq (hs : s.zonesWf) {won : List Nat} (hn : won.Nodup) (hz : ∀ k ∈ won, (s.zone? k).isSome = true)
    (gone : List Nat) : ∃ u, CountdownAsked (s.countdownAsked won) s u ∧
      s.layoutCountdown won gone = (gone.filter u.timing.outstanding.contains).foldl (fun s z => s.release z 1) u := by
  have hquiet (h : ¬(s.timing.phase = .countdown ∧ s.timing.rules.countdownAsset ≠ none)) :
      CountdownAsked (s.countdownAsked won) s s := by
    rw [show s.countdownAsked won = [] from if_neg h]
    exact countdownAsked_none s
  unfold State.layoutCountdown
  cases hp : s.timing.phase
  case countdown =>
    cases ha : s.timing.rules.countdownAsset with
    | none => exact ⟨s, hquiet (by simp [ha]), rfl⟩
    | some a => exact ⟨_, requestAll_one_asked hs hp ha hn hz, rfl⟩
  all_goals exact ⟨s, hquiet (by simp [hp]), rfl⟩

end

end Sys2Proof.Machine
end

section
namespace Sys2Proof.Machine

set_option Elab.async false

/-! ## Levels 1 and 2 while a layout's owners act (R46, R64, R123) -/

/-- Timing and record units stand, and levels 1 and 2 are at most granted. -/
structure Quiet (s t : State) : Prop where
  timing : t.timing = s.timing
  record : t.record = s.record
  low : ∀ m, m = 1 ∨ m = 2 → ∀ k, ZoneRel (LevelKept m (s.canvas.frame + 1)) (s.zone? k) (t.zone? k)
  free : ∀ m, m ≠ 5 → m ≠ 6 → ZoneWise (StaysFree m) s t

section
variable {s t u : State}

theorem Quiet.refl (s : State) : Quiet s s :=
  ⟨rfl, rfl, fun m _ _ => ZoneRel.refl (levelKept_rule m) _ _, fun m _ _ => ZoneWise.refl (staysFree_rule m) s⟩

theorem Quiet.frame (h : Quiet s t) : t.canvas.frame = s.canvas.frame := (h.free 0 (by decide) (by decide)).frame

theorem Quiet.trans (h : Quiet s t) (k : Quiet t u) : Quiet s u :=
  ⟨k.timing.trans h.timing, k.record.trans h.record,
    fun m hm i => ZoneRel.trans (levelKept_rule m) (h.low m hm i) (h.frame ▸ k.low m hm i),
    fun m m5 m6 => (h.free m m5 m6).trans (staysFree_rule m) (k.free m m5 m6)⟩

theorem Quiet.of_channels (h : Frame [.channels, .readers] s t) : Quiet s t :=
  ⟨h.timing, h.record, fun m _ k => (ZoneWise.of_frame (levelKept_rule m) h).zones k, fun m _ _ => .of_frame (staysFree_rule m) h⟩

/-- A channel's release is quiet. -/
theorem Quiet.release (s : State) (zone : Nat) (ch : Channel) : Quiet s (s.release zone (channelLevel ch)) := by
  have hl : channelLevel ch ≠ 1 ∧ channelLevel ch ≠ 2 ∧ channelLevel ch ≠ 5 ∧ channelLevel ch ≠ 6 := by cases ch <;> decide
  obtain ⟨h1, h2, h5, h6⟩ := hl
  have h := release_freed s zone h5 h6
  exact ⟨release_timing h1, release_record h2,
    fun m hm k => h.others m (by omega) (by omega) k fun he => by omega, h.free⟩

theorem Quiet.releaseEntry (s : State) (ch : Channel) (o : CueOutcome) : Quiet s (s.releaseEntry ch o) := by
  unfold State.releaseEntry
  split
  · exact .refl s
  · exact (release s _ ch).trans (of_channels (endEntry_frame _ ch o))

theorem Quiet.followUps (s : State) : Quiet s s.followUps :=
  ⟨(followUps_frame s).timing, (followUps_frame s).record,
    fun m hm k => (followUps_zoneWise (levelKept_rule m) (fun f a r hr => levelKept_record (by omega) f a) s).zones k,
    fun m m5 m6 => followUps_zoneWise (staysFree_rule m) (fun f a r hr => staysFree_record f a r (by omega)) s⟩

/-- The releases of level 1 in the zones `gone` and of level 2 in the zones `gone2`, after requests of level 1 in the zones
`asked` (R46, R64). -/
structure LevelsLaid (asked gone gone2 : List Nat) (s t : State) : Prop where
  timing :
    let out := (s.timing.outstanding ++ asked).filter fun k => !gone.contains k
    t.timing =
      { s.timing with
        outstanding := out
        phase := if gone ≠ [] ∧ out = [] ∧ (s.timing.phase = .countdown ∨ s.timing.phase = .periodEnd) then .spent
          else s.timing.phase }
  record : t.record = { s.record with outstanding := s.record.outstanding.filter fun k => !gone2.contains k }
  one : ∀ k, (t.standsAt k 1).isSome = (((s.standsAt k 1).isSome || asked.contains k) && !gone.contains k)
  two : ∀ k, (t.standsAt k 2).isSome = ((s.standsAt k 2).isSome && !gone2.contains k)
  holds : ∀ k ∈ asked, ∀ a ∈ s.timing.rules.countdownAsset, t.holdsAlone k ⟨1, .asset a, none, none⟩

theorem LevelsLaid.quiet {asked gone gone2 : List Nat} (h : LevelsLaid asked gone gone2 s t) (k : Quiet t u) :
    LevelsLaid asked gone gone2 s u :=
  ⟨k.timing.trans h.timing, k.record.trans h.record,
    fun i => (standsAt_of_levelKept (k.low 1 (.inl rfl) i)).trans (h.one i),
    fun i => (standsAt_of_levelKept (k.low 2 (.inr rfl) i)).trans (h.two i),
    fun i hi a ha => holdsAlone_kept (h.holds i hi a ha) (k.low 1 (.inl rfl) i)⟩

/-- The ids in a layout that satisfy a test are distinct and are zones. -/
theorem layoutIds (hs : s.zonesWf) {specs : List ZoneSpec} (hz : s.canvas.zones.map (·.spec) = specs) (p : ZoneSpec → Bool) :
    ((specs.filter p).map (·.id)).Nodup ∧ ∀ k ∈ (specs.filter p).map (·.id), (s.zone? k).isSome = true := by
  have hids : (specs.map (·.id)).Nodup := by
    rw [← hz, List.map_map]
    exact hs.ids.imp Nat.ne_of_lt
  refine ⟨hids.sublist (List.filter_sublist.map _), fun k hk => ?_⟩
  obtain ⟨n, hn, rfl⟩ := List.mem_map.mp hk
  obtain ⟨z, hm, rfl⟩ := List.mem_map.mp (hz ▸ List.mem_of_mem_filter hn)
  rw [zone_of_zonesWf hs hm]
  rfl

/-- No zone of one layout both gains and loses an attribute. -/
theorem gained_not_lost {specs : List ZoneSpec} (h : (specs.map (·.id)).Nodup) (attr : ZoneAttrs → Bool) (old : List Zone)
    {k : Nat} (hg : k ∈ gained attr old specs) : k ∉ lost attr old specs := by
  intro hl
  obtain ⟨n, hn, rfl⟩ := List.mem_map.mp hg
  obtain ⟨m, hm, hid⟩ := List.mem_map.mp hl
  obtain ⟨hn, hgain⟩ := List.mem_filter.mp hn
  obtain ⟨hm, hlose⟩ := List.mem_filter.mp hm
  obtain rfl := List.inj_on_of_nodup_map h hm hn hid
  simp only [Bool.and_eq_true] at hgain hlose
  rw [hgain.1] at hlose
  exact absurd hlose.1 (by simp)

/-- The work of a layout for levels 1 and 2 (R46, R64). -/
theorem layout_levels (hs : s.zonesWf) {specs : List ZoneSpec} (hz : s.canvas.zones.map (·.spec) = specs) (old : List Zone)
    (h1 : ∀ zone ∈ s.timing.outstanding, (s.standsAt zone 1).isSome = true)
    (h2 : ∀ zone ∈ s.record.outstanding, (s.standsAt zone 2).isSome = true) :
    let t := (s.layoutCountdown (gained (·.countdown) old specs) (lost (·.countdown) old specs)).layoutScore
      (lost (·.scoreEvent) old specs)
    LevelsLaid (s.countdownAsked (gained (·.countdown) old specs))
        ((lost (·.countdown) old specs).filter s.timing.outstanding.contains)
        ((lost (·.scoreEvent) old specs).filter s.record.outstanding.contains) s t ∧
      Frame endParts s t ∧ ReplayKept s t ∧ Reports (endKinds .released) s t [] := by
  have hids : (specs.map (·.id)).Nodup := by
    rw [← hz, List.map_map]
    exact hs.ids.imp Nat.ne_of_lt
  obtain ⟨hwonN, hwonZ⟩ := layoutIds hs hz fun n =>
    n.attrs.countdown && !(old.any fun z => z.spec.id == n.id && z.spec.role == n.role && z.spec.attrs.countdown)
  obtain ⟨hloseN, -⟩ := layoutIds hs hz fun n =>
    !n.attrs.countdown && old.any fun z => z.spec.id == n.id && z.spec.role == n.role && z.spec.attrs.countdown
  obtain ⟨hlose2N, -⟩ := layoutIds hs hz fun n =>
    !n.attrs.scoreEvent && old.any fun z => z.spec.id == n.id && z.spec.role == n.role && z.spec.attrs.scoreEvent
  have hapart := fun k (hk : k ∈ gained (·.countdown) old specs) => gained_not_lost hids (·.countdown) old hk
  have hwonN' : (gained (·.countdown) old specs).Nodup := hwonN
  have hwonZ' : ∀ k ∈ gained (·.countdown) old specs, (s.zone? k).isSome = true := hwonZ
  have hloseN' : (lost (·.countdown) old specs).Nodup := hloseN
  have hlose2N' : (lost (·.scoreEvent) old specs).Nodup := hlose2N
  generalize gained (·.countdown) old specs = won at *
  generalize lost (·.countdown) old specs = lose at *
  generalize lost (·.scoreEvent) old specs = lose2 at *
  obtain ⟨u, ku, he⟩ := layoutCountdown_eq hs hwonN' hwonZ' lose
  have hasked (k : Nat) (hk : k ∈ lose) : k ∉ s.countdownAsked won := by
    intro hm
    unfold State.countdownAsked at hm
    split at hm
    · exact hapart k (List.mem_of_mem_filter hm) hk
    · cases hm
  generalize s.countdownAsked won = asked at *
  have hgone : lose.filter u.timing.outstanding.contains = lose.filter s.timing.outstanding.contains := by
    refine List.filter_congr fun k hk => ?_
    rw [ku.timing, Bool.eq_iff_iff]
    simp [hasked k hk]
  rw [hgone] at he
  have hgoneN : (lose.filter s.timing.outstanding.contains).Nodup := hloseN'.sublist List.filter_sublist
  have hgoneOut : ∀ k ∈ lose.filter s.timing.outstanding.contains, k ∉ asked ∧ k ∈ s.timing.outstanding := fun k hk =>
    ⟨hasked k (List.mem_of_mem_filter hk), by simpa using (List.mem_filter.mp hk).2⟩
  generalize lose.filter s.timing.outstanding.contains = gone at *
  have hstand1 : ∀ k ∈ gone, (u.standsAt k 1).isSome = true := fun k hk => by
    obtain ⟨hna, hout⟩ := hgoneOut k hk
    rw [standsAt_of_zone (ku.others k hna)]
    exact h1 k hout
  obtain ⟨hrec1, htim1⟩ := releases_one gone u hgoneN hstand1
  have f1 := releases_freed (l := 1) (by decide) (by decide) gone u
  rw [← he] at hrec1 htim1 f1
  generalize s.layoutCountdown won lose = v at *
  have hrecv : v.record = s.record := hrec1.trans ku.record
  have hlow2 (k : Nat) : (v.standsAt k 2).isSome = (s.standsAt k 2).isSome :=
    (standsAt_of_levelKept (f1.others 2 (by decide) (by decide) k (by omega))).trans (ku.two.standsAt_isSome k)
  have hgone2N : (lose2.filter s.record.outstanding.contains).Nodup := hlose2N'.sublist List.filter_sublist
  have hscore : v.layoutScore lose2 = (lose2.filter s.record.outstanding.contains).foldl (fun s z => s.release z 2) v := by
    unfold State.layoutScore
    rw [hrecv]
  have hstand2 : ∀ k ∈ lose2.filter s.record.outstanding.contains, (v.standsAt k 2).isSome = true := fun k hk => by
    rw [hlow2]
    exact h2 k (by simpa using (List.mem_filter.mp hk).2)
  intro t
  have ht : t = _ := hscore
  generalize lose2.filter s.record.outstanding.contains = gone2 at *
  obtain ⟨htim2, hrec2⟩ := releases_two gone2 v hgone2N hstand2
  have f2 := releases_freed (l := 2) (by decide) (by decide) gone2 v
  rw [← ht] at htim2 hrec2 f2
  clear_value t
  have hone (k : Nat) : (t.standsAt k 1).isSome = (v.standsAt k 1).isSome :=
    standsAt_of_levelKept (f2.others 1 (by decide) (by decide) k (by omega))
  refine ⟨⟨?_, ?_, fun k => ?_, fun k => ?_, fun k hk a ha => ?_⟩, (ku.frame.next f1.frame).next f2.frame,
    (ku.kept.trans f1.kept).trans f2.kept, (Reports.quiet (ku.reports.mono) f1.reports).next f2.reports⟩
  · rw [htim2, htim1, ku.timing]
  · rw [hrec2, hrecv]
  · rw [hone]
    by_cases hg : k ∈ gone
    · rw [f1.gone k hg]
      simp [hg]
    · rw [f1.stands (by decide) (by decide) hg]
      by_cases ha : k ∈ asked
      · simp [ku.stands k ha, ha, hg]
      · rw [standsAt_of_zone (ku.others k ha)]
        simp [hg, ha]
  · by_cases hg : k ∈ gone2
    · rw [f2.gone k hg]
      simp [hg]
    · rw [f2.stands (by decide) (by decide) hg, hlow2]
      simp [hg]
  · have hng : k ∉ gone := fun hg => (hgoneOut k hg).1 hk
    exact holdsAlone_kept (holdsAlone_kept (ku.holds k hk a ha) (f1.others 1 (by decide) (by decide) k fun _ => hng))
      (f2.others 1 (by decide) (by decide) k (by omega))

end

end Sys2Proof.Machine
end

section
namespace Sys2Proof.Machine

set_option Elab.async false

/-! ## A head entry that its channel releases (R158, R160) -/

/-- A channel stands, but that a REQUESTED one may have come to be COVERED (R152). -/
def Noted (a b : Chan) : Prop := b = a ∨ a.state = .requested ∧ b = { a with state := .covered }

section
variable {a b c : Chan}

theorem Noted.refl (a : Chan) : Noted a a := .inl rfl

theorem Noted.trans (h : Noted a b) (k : Noted b c) : Noted a c := by
  rcases h with rfl | ⟨h1, rfl⟩
  · exact k
  · rcases k with rfl | ⟨k1, -⟩
    · exact .inr ⟨h1, rfl⟩
    · cases k1

theorem Noted.fields (h : Noted a b) : b.cues = a.cues ∧ b.pos = a.pos ∧ b.passes = a.passes ∧ b.shown = a.shown := by
  rcases h with rfl | ⟨-, rfl⟩ <;> exact ⟨rfl, rfl, rfl, rfl⟩

theorem Noted.onAir (h : Noted a b) : b.onAir = a.onAir := by
  rcases h with rfl | ⟨h, rfl⟩
  · rfl
  · simp [Chan.onAir, h]

/-- A channel whose head is only placed stays as it is. -/
theorem Noted.placed {rest : List Cue} (h : Noted a b) (hs : a.state = placedState rest) : b = a := by
  rcases h with h | ⟨h, -⟩
  · exact h
  · rw [hs] at h
    unfold placedState at h
    split at h <;> cases h

end

/-- What the release of a channel's head entry `e` makes, for the reason `why`; the list is `e :: rest` (R149, R150, R158). -/
structure LeftHead (ch : Channel) (why : CueOutcome) (e : Cue) (rest : List Cue) (s t : State) : Prop where
  cues : (t.chan ch).cues = rest
  pos : (t.chan ch).pos = s.placed rest
  state : (t.chan ch).state = placedState rest
  others : ∀ other, other ≠ ch → Noted (s.chan other) (t.chan other)
  clips : t.replay.clips = s.replay.clips
  queue : t.replay.saveQueue = s.replay.saveQueue
  ring : ∀ n, t.ring n = s.ring n
  free : t.standsAt e.fields.zone (channelLevel ch) = none
  follow : ReadersFollow (s.detached ch) t
  reports : Reports (endKinds .released) s t (warnings (s.detached ch) t ++
    [(.channelState, .channelState ch e.number e.fields.clip why (s.chan ch).pos (s.chan ch).passes (s.chan ch).shown
      (t.chan ch).state)])

section
variable {ch : Channel} {why : CueOutcome} {e : Cue} {rest : List Cue} {s t u : State}

theorem ReplayKept.noted (h : ReplayKept s t) (ch : Channel) : Noted (s.chan ch) (t.chan ch) := h.chans ch

theorem ReplayKept.ring (h : ReplayKept s t) (n : Nat) : t.ring n = s.ring n := by
  unfold State.ring
  rw [h.capture]

theorem ReplayKept.sameReads (h : ReplayKept s t) : SameReads s t :=
  ⟨h.clips, h.queue, fun ch => ⟨(h.noted ch).fields.1, (h.noted ch).fields.2.1⟩⟩

theorem placed_of_clips (h : t.replay.clips = s.replay.clips) : t.placed = s.placed := by
  have hstart : t.startOf = s.startOf := by
    funext e
    unfold State.startOf State.clip?
    rw [h]
  funext left
  unfold State.placed
  rw [hstart]

theorem detached_reader_congr (ch : Channel) (h : t.reader = s.reader) : (t.detached ch).reader = (s.detached ch).reader := by
  funext name
  rw [detached_reader, detached_reader, h]

/-- The release, its entry's leaving and the next entry's loading (R158, R160). -/
theorem releaseEntry_left (he : (s.chan ch).cues = e :: rest) (hw : why ≠ .restart) :
    LeftHead ch why e rest s (s.releaseEntry ch why) := by
  have hkept := replayKept_walk.released s e.fields.zone (channelLevel ch)
  have hreports := release_reports s e.fields.zone (channelLevel ch)
  have hfree : (s.release e.fields.zone (channelLevel ch)).standsAt e.fields.zone (channelLevel ch) = none :=
    release_frees s e.fields.zone (by cases ch <;> decide) (by cases ch <;> decide)
  unfold State.releaseEntry
  rw [he]
  dsimp only
  generalize s.release e.fields.zone (channelLevel ch) = u at hkept hreports hfree
  obtain ⟨hcues, hpos, hpasses, hshown⟩ := (hkept.noted ch).fields
  unfold State.endEntry
  rw [hcues, he]
  dsimp only
  rw [if_neg hw, hpos, hpasses, hshown, State.raiseChannel]
  have hp := popHead_popped u ch
  generalize u.popHead ch = v at hp
  generalize hd : Detail.channelState ch e.number e.fields.clip why (s.chan ch).pos (s.chan ch).passes (s.chan ch).shown
    (v.chan ch).state = d
  have hf := raise_frame v .channelState d
  have hchan : (v.raise .channelState d).chan = v.chan := rfl
  have htail : (u.chan ch).cues.tail = rest := by rw [hcues, he, List.tail_cons]
  have hdet := detached_reader_congr ch hkept.reader
  obtain ⟨hclips, hqueue⟩ := hp.frame.same .clips (by decide)
  have hfollow : ReadersFollow (s.detached ch) v := hp.follow.congr hdet.symm rfl rfl fun _ => rfl
  have hwarn : warnings (u.detached ch) v = warnings (s.detached ch) (v.raise .channelState d) :=
    warnings_congr hdet (reads_congr (SameReads.of_frame hf).symm) fun n => (hf.ring n).symm
  refine ⟨?_, ?_, ?_, fun other hne => ?_, hclips.trans hkept.clips, hqueue.trans hkept.queue, fun n => ?_, ?_, ?_, ?_⟩
  · rw [hchan, hp.own, htail]
  · rw [hchan, hp.own, htail, placed_of_clips hkept.clips]
  · rw [hchan, hp.own, htail]
  · rw [hchan, hp.others other hne]
    exact hkept.noted other
  · rw [hf.ring, hp.frame.ring, hkept.ring]
  · rw [hf.standsAt, hp.frame.standsAt]
    exact hfree
  · exact hfollow.congr rfl (funext fun name => hf.reader name) (reads_congr (.of_frame hf)) fun n => hf.ring n
  · rw [hchan, ← hwarn, hd]
    have hpr := hp.reports
    rw [List.nil_append] at hpr
    have hall := hreports.next ((hpr.widen fun e he => by rw [warnings_kind _ he]; rfl).next
      (.raise (K := endKinds .released) (c := .channelState) (by rfl) v d))
    rwa [List.nil_append] at hall

/-- What other releases came before makes no difference. -/
theorem LeftHead.after (k : ReplayKept s u) (r : Reports (endKinds .released) s u []) (h : LeftHead ch why e rest u t) :
    LeftHead ch why e rest s t := by
  have hdet := detached_reader_congr ch k.reader
  obtain ⟨-, hpos, hpasses, hshown⟩ := (k.noted ch).fields
  have hreports := r.next h.reports
  rw [List.nil_append, hpos, hpasses, hshown, warnings_congr hdet rfl fun _ => rfl] at hreports
  exact ⟨h.cues, h.pos.trans (congrFun (placed_of_clips k.clips) rest), h.state,
    fun other hne => (k.noted other).trans (h.others other hne), h.clips.trans k.clips, h.queue.trans k.queue,
    fun n => (h.ring n).trans (k.ring n), h.free, h.follow.congr hdet.symm rfl rfl fun _ => rfl, hreports⟩

/-- What releases that come later leave of it. -/
theorem LeftHead.before (h : LeftHead ch why e rest s u) (k : ReplayKept u t) (q : Quiet u t)
    (r : Reports (endKinds .released) u t []) : LeftHead ch why e rest s t := by
  have hchan : t.chan ch = u.chan ch := (k.noted ch).placed h.state
  have hl : channelLevel ch ≠ 5 ∧ channelLevel ch ≠ 6 := by cases ch <;> decide
  have hreads := reads_congr k.sameReads
  have hreports := h.reports.next r
  rw [List.append_nil, ← hchan, ← warnings_congr (s' := s.detached ch) rfl hreads k.ring] at hreports
  exact ⟨hchan ▸ h.cues, hchan ▸ h.pos, hchan ▸ h.state, fun other hne => (h.others other hne).trans (k.noted other),
    k.clips.trans h.clips, k.queue.trans h.queue, fun n => (k.ring n).trans (h.ring n),
    (q.free _ hl.1 hl.2).standsAt h.free, h.follow.congr rfl k.reader hreads k.ring, hreports⟩

/-- Where the other channel stands, the warnings are those of one entry leaving its list (R136, R160). -/
theorem LeftHead.warned (h : LeftHead ch why e rest s t) (he : (s.chan ch).cues = e :: rest) :
    warnings (s.detached ch) t = s.dropWarnings ch 1 := by
  have hdrop : s.dropWarnings ch 1 = warnings (s.detached ch) (s.dropHeads ch 1) := by
    simp [State.dropWarnings, State.dropWarning]
  obtain ⟨dc, dq⟩ := (dropHeads_frame s ch 1).same .clips (by decide)
  rw [hdrop]
  refine warnings_congr rfl (reads_congr ⟨h.clips.trans dc.symm, h.queue.trans dq.symm, fun c => ?_⟩)
    fun n => (h.ring n).trans ((dropHeads_frame s ch 1).ring n).symm
  by_cases hc : c = ch
  · subst hc
    rw [h.cues, h.pos, dropHeads_chan, he]
    exact ⟨rfl, rfl⟩
  · rw [dropHeads_other s hc]
    obtain ⟨h1, h2, -⟩ := (h.others c hc).fields
    exact ⟨h1, h2⟩

/-! ### Both channels' heads, channel A's first -/

section
variable {e' : Cue} {rest' : List Cue} (ha : LeftHead .a why e rest s u) (hb : LeftHead .b why e' rest' u t)
include ha hb

theorem LeftHead.both_reads {name : ReaderName} (hn : name ≠ .channelB) : t.reads name = u.reads name := by
  have hchan : t.chan .a = u.chan .a := (hb.others .a (by decide)).placed ha.state
  refine reads_other (ch := .b) hb.clips hb.queue (fun other hne => ?_) hn
  cases other
  · exact hchan
  · exact absurd rfl hne

/-- The other readers have followed already (R135). -/
theorem LeftHead.both_settled {name : ReaderName} (hn : name ≠ .channelB) :
    (u.detached .b).reader name = t.readerAfter ((s.detached .a).reader name) (t.reads name) := by
  have hn' : name ≠ channelReader .b := hn
  rw [detached_reader, if_neg hn', ha.follow name, ha.both_reads hb hn]
  exact congrFun (congrFun (readerAfter_congr hb.ring).symm _) _

theorem LeftHead.both_follow : ReadersFollow ((s.detached .a).detached .b) t := by
  intro name
  rw [hb.follow name]
  by_cases hn : name = channelReader .b
  · rw [detached_reader, detached_reader, if_pos hn, if_pos hn]
  · rw [ha.both_settled hb hn, readerAfter_again, detached_reader (s.detached .a), if_neg hn]

theorem LeftHead.both_warned : warnings (u.detached .b) t = s.warningOf .channelB none (t.reads .channelB) := by
  have hquiet {name : ReaderName} (hn : name ≠ .channelB) :
      t.warningOf name ((u.detached .b).reader name) (t.reads name) = [] := by
    rw [ha.both_settled hb hn, warningOf_again]
  have hown : (u.detached .b).reader .channelB = none := by rw [detached_reader]; rfl
  unfold warnings
  rw [List.flatMap_cons, List.flatMap_cons, List.flatMap_cons, hquiet (by decide), hquiet (by decide), hown,
    warningOf_congr fun n => (hb.ring n).trans (ha.ring n)]
  simp

end

end

end Sys2Proof.Machine
end

section
namespace Sys2Proof.Machine

set_option Elab.async false

/-! ## The replay-target attribute's owners (R160) -/

/-- The head of channel `ch` is on air in a zone of the list, so that a layout which takes the attribute from those zones
releases it (R160). -/
def State.headLost (lose : List Nat) (s : State) (ch : Channel) : Bool :=
  decide ((s.chan ch).state = .requested ∨ (s.chan ch).state = .playing ∨ (s.chan ch).state = .covered) &&
    (s.chan ch).cues.head?.any fun e => lose.contains e.fields.zone

/-- The warnings raised as the heads that lose their zones leave, channel A's first (R136, R160). -/
def State.lostWarnings (lose : List Nat) (s t : State) : List (Cond × Detail) :=
  (if s.headLost lose .a then s.dropWarnings .a 1 else []) ++
    if s.headLost lose .b then
      if s.headLost lose .a then s.warningOf .channelB none (t.reads .channelB) else s.dropWarnings .b 1
    else []

/-- What is reported of the entry of a channel that leaves its list ZONE_GONE, if one does (R158, R160). -/
def State.lostTold (lose : List Nat) (s t : State) (ch : Channel) : List Detail :=
  (s.chan ch).cues.head?.elim [] fun e =>
    if s.headLost lose ch then
      [.channelState ch e.number e.fields.clip .zoneGone (s.chan ch).pos (s.chan ch).passes (s.chan ch).shown
        (t.chan ch).state]
    else []

/-- The state whose readers those of the state after follow: each channel whose head is lost is detached. -/
def State.lostDetached (lose : List Nat) (s : State) : State :=
  let u := if s.headLost lose .a then s.detached .a else s
  if s.headLost lose .b then u.detached .b else u

/-- What the channels' release of the zones that lose the attribute leaves of both channels (R160). -/
structure ReplayLaid (lose : List Nat) (s t : State) : Prop where
  stays : ∀ ch, s.headLost lose ch = false → Noted (s.chan ch) (t.chan ch)
  leaves : ∀ ch e rest, (s.chan ch).cues = e :: rest → s.headLost lose ch = true → (t.chan ch).cues = rest ∧
    (t.chan ch).state = placedState rest ∧ t.standsAt e.fields.zone (channelLevel ch) = none
  readers : if s.headLost lose .a = true ∨ s.headLost lose .b = true then ReadersFollow (s.lostDetached lose) t
    else ∀ name, t.reader name = s.reader name
  near : s.linksWf → Gains s t .nearOvertake ((s.lostWarnings lose t).map (·.2))
  told : s.linksWf → Gains s t .channelState ([Channel.a, .b].flatMap (s.lostTold lose t))

section
variable {lose : List Nat} {s t u : State} {ch : Channel} {e : Cue} {rest : List Cue}

theorem headLost_noted (h : Noted (s.chan ch) (t.chan ch)) : t.headLost lose ch = s.headLost lose ch := by
  have hon := h.onAir
  unfold State.headLost
  rw [h.fields.1]
  congr 1
  rw [Bool.eq_iff_iff, decide_eq_true_iff, decide_eq_true_iff, ← onAir_iff, ← onAir_iff, hon]

theorem headLost_cues (h : s.headLost lose ch = true) : ∃ e rest, (s.chan ch).cues = e :: rest := by
  unfold State.headLost at h
  cases hc : (s.chan ch).cues with
  | nil => simp [hc] at h
  | cons e rest => exact ⟨e, rest, rfl⟩

theorem layoutReplay_eq (ch : Channel) (lose : List Nat) (s : State) :
    s.layoutReplay ch lose = if s.headLost lose ch then s.releaseEntry ch .zoneGone else s := by
  have hon : (s.chan ch).onAir =
      decide ((s.chan ch).state = .requested ∨ (s.chan ch).state = .playing ∨ (s.chan ch).state = .covered) := by
    rw [Bool.eq_iff_iff, decide_eq_true_iff, onAir_iff]
  have hin : (lose.any fun z => (s.chan ch).headIn z) = (s.chan ch).cues.head?.any fun e => lose.contains e.fields.zone := by
    unfold Chan.headIn
    cases (s.chan ch).cues.head? with
    | none => simp
    | some e =>
      dsimp only [Option.any]
      rw [List.contains_eq_any_beq]
  unfold State.layoutReplay State.headLost
  rw [hon, hin]

theorem layoutReplay_stays (k : Noted (s.chan ch) (u.chan ch)) (h : s.headLost lose ch = false) :
    u.layoutReplay ch lose = u := by
  rw [layoutReplay_eq, headLost_noted k, h]
  rfl

theorem layoutReplay_left (k : Noted (s.chan ch) (u.chan ch)) (h : s.headLost lose ch = true)
    (hc : (u.chan ch).cues = e :: rest) : LeftHead ch .zoneGone e rest u (u.layoutReplay ch lose) := by
  rw [layoutReplay_eq, headLost_noted k, h]
  exact releaseEntry_left hc (by decide)

theorem layoutReplay_quiet (s : State) (ch : Channel) (lose : List Nat) : Quiet s (s.layoutReplay ch lose) := by
  rw [layoutReplay_eq]
  split
  · exact .releaseEntry s ch _
  · exact .refl s

/-! ### What is reported -/

theorem near_of_left (w : List (Cond × Detail)) (d : Detail) (hw : ∀ e ∈ w, e.1 = .nearOvertake) :
    detailsOf .nearOvertake (w ++ [(.channelState, d)]) = w.map (·.2) := by
  rw [detailsOf_append, detailsOf_of_kind hw]
  exact List.append_nil _

theorem told_of_left (w : List (Cond × Detail)) (d : Detail) (hw : ∀ e ∈ w, e.1 = .nearOvertake) :
    detailsOf .channelState (w ++ [(.channelState, d)]) = [d] := by
  rw [detailsOf_append, detailsOf_of_other hw (by decide)]
  rfl

theorem lostTold_stays (t : State) (h : s.headLost lose ch = false) : s.lostTold lose t ch = [] := by
  unfold State.lostTold
  rw [h]
  cases (s.chan ch).cues.head? <;> rfl

theorem lostTold_left (t : State) (h : s.headLost lose ch = true) (hc : (s.chan ch).cues = e :: rest) : s.lostTold lose t ch =
    [.channelState ch e.number e.fields.clip .zoneGone (s.chan ch).pos (s.chan ch).passes (s.chan ch).shown (t.chan ch).state] := by
  unfold State.lostTold
  rw [h, hc]
  rfl

/-! ### Neither channel, one of them, or both -/

theorem replayLaid_neither (hn : ∀ ch, s.headLost lose ch = false) (k : ReplayKept s t)
    (r : Reports (endKinds .released) s t []) : ReplayLaid lose s t := by
  refine ⟨fun ch _ => k.noted ch, fun ch e rest _ h => ?_, ?_, fun hw => r.gainsOf hw ?_, fun hw => r.gainsOf hw ?_⟩
  · rw [hn] at h
    cases h
  · rw [if_neg (by simp [hn])]
    exact congrFun k.reader
  · unfold State.lostWarnings
    rw [hn, hn]
    rfl
  · rw [List.flatMap_cons, List.flatMap_cons, lostTold_stays t (hn _), lostTold_stays t (hn _)]
    rfl

/-- What is said of a lost head's channel, from its release. -/
theorem LeftHead.leaves {why : CueOutcome} (h : LeftHead ch why e rest s t) (hc : (s.chan ch).cues = e :: rest) {f : Cue}
    {left : List Cue} (hl : (s.chan ch).cues = f :: left) : (t.chan ch).cues = left ∧
      (t.chan ch).state = placedState left ∧ t.standsAt f.fields.zone (channelLevel ch) = none := by
  obtain ⟨rfl, rfl⟩ := List.cons.inj (hc.symm.trans hl)
  exact ⟨h.cues, h.state, h.free⟩

theorem replayLaid_one (hl : s.headLost lose ch = true) (hn : ∀ other, other ≠ ch → s.headLost lose other = false)
    (hc : (s.chan ch).cues = e :: rest) (h : LeftHead ch .zoneGone e rest s t) : ReplayLaid lose s t := by
  have hw := fun x hx => warnings_kind (s := s.detached ch) (t := t) (e := x) hx
  have honly {c : Channel} (hh : s.headLost lose c = true) : c = ch := by
    by_contra hne
    rw [hn c hne] at hh
    cases hh
  have hstays {c : Channel} (hh : s.headLost lose c = false) : c ≠ ch := by
    rintro rfl
    rw [hl] at hh
    cases hh
  refine ⟨fun c hh => h.others c (hstays hh), fun c f left hf hh => ?_, ?_, fun hwf => h.reports.gainsOf hwf ?_,
    fun hwf => h.reports.gainsOf hwf ?_⟩
  · obtain rfl := honly hh
    exact h.leaves hc hf
  · have hfollow := h.follow
    unfold State.lostDetached
    cases ch with
    | a =>
      rw [hl, hn .b (by decide)]
      exact hfollow
    | b =>
      rw [hl, hn .a (by decide)]
      exact hfollow
  · rw [near_of_left _ _ hw, h.warned hc]
    unfold State.lostWarnings
    cases ch with
    | a =>
      rw [hl, hn .b (by decide)]
      exact congrArg (List.map fun x : Cond × Detail => x.2) (List.append_nil _).symm
    | b =>
      rw [hl, hn .a (by decide)]
      rfl
  · rw [told_of_left _ _ hw, ← lostTold_left t hl hc, List.flatMap_cons, List.flatMap_cons]
    cases ch with
    | a => rw [lostTold_stays t (hn .b (by decide))]; simp
    | b => rw [lostTold_stays t (hn .a (by decide))]; simp

theorem replayLaid_both {f : Cue} {left : List Cue} (hla : s.headLost lose .a = true) (hlb : s.headLost lose .b = true)
    (hca : (s.chan .a).cues = e :: rest) (hcb : (s.chan .b).cues = f :: left) (ha : LeftHead .a .zoneGone e rest s u)
    (hb : LeftHead .b .zoneGone f left u t) (q : Quiet u t) : ReplayLaid lose s t := by
  have hwa := fun x hx => warnings_kind (s := s.detached .a) (t := u) (e := x) hx
  have hwb := fun x hx => warnings_kind (s := u.detached .b) (t := t) (e := x) hx
  have hall : ∀ c, s.headLost lose c = true := fun c => by cases c <;> assumption
  have hchanA : t.chan .a = u.chan .a := (hb.others .a (by decide)).placed ha.state
  obtain ⟨hcues, hpos, hpasses, hshown⟩ := (ha.others .b (by decide)).fields
  have hreports := ha.reports.next hb.reports
  refine ⟨fun c hh => ?_, fun c g more hg _ => ?_, ?_, fun hwf => hreports.gainsOf hwf ?_, fun hwf => hreports.gainsOf hwf ?_⟩
  · rw [hall] at hh
    cases hh
  · cases c with
    | a =>
      obtain ⟨h1, h2, -⟩ := ha.leaves hca hg
      obtain ⟨rfl, rfl⟩ := List.cons.inj (hca.symm.trans hg)
      exact ⟨hchanA ▸ h1, hchanA ▸ h2, (q.free _ (by decide) (by decide)).standsAt ha.free⟩
    | b => exact hb.leaves (hcues.trans hcb) (hcues.trans hg)
  · unfold State.lostDetached
    rw [hla, hlb]
    exact ha.both_follow hb
  · rw [detailsOf_append, near_of_left _ _ hwa, near_of_left _ _ hwb, ha.warned hca, ha.both_warned hb, ← List.map_append]
    unfold State.lostWarnings
    rw [hla, hlb]
    rfl
  · rw [detailsOf_append, told_of_left _ _ hwa, told_of_left _ _ hwb, List.flatMap_cons, List.flatMap_cons,
      lostTold_left t hla hca, lostTold_left t hlb hcb, hchanA, hpos, hpasses, hshown]
    rfl

/-- Both channels act on the zones that lose the attribute, and what they release is followed up (R114, R160). -/
theorem replay_laid (lose : List Nat) (k : ReplayKept s u) (r : Reports (endKinds .released) s u []) :
    ReplayLaid lose s ((u.layoutReplay .a lose).layoutReplay .b lose).followUps := by
  have kf (v : State) : ReplayKept v v.followUps := replayKept_walk.followUps v
  have qf (v : State) : Quiet v v.followUps := .followUps v
  have rf (v : State) : Reports (endKinds .released) v v.followUps [] := followUps_reports v |>.mono
  cases ha : s.headLost lose .a with
  | false =>
    rw [layoutReplay_stays (k.noted .a) ha]
    cases hb : s.headLost lose .b with
    | false =>
      rw [layoutReplay_stays (k.noted .b) hb]
      exact replayLaid_neither (fun c => by cases c <;> assumption) (k.trans (kf u)) (r.next (rf u))
    | true =>
      obtain ⟨e, rest, hc⟩ := headLost_cues hb
      have h := layoutReplay_left (k.noted .b) hb ((k.noted .b).fields.1.trans hc)
      exact replayLaid_one hb (fun c hne => by cases c <;> trivial) hc ((h.after k r).before (kf _) (qf _) (rf _))
  | true =>
    obtain ⟨e, rest, hc⟩ := headLost_cues ha
    have h := (layoutReplay_left (k.noted .a) ha ((k.noted .a).fields.1.trans hc)).after k r
    generalize u.layoutReplay .a lose = v at h ⊢
    have hn := h.others .b (by decide)
    cases hb : s.headLost lose .b with
    | false =>
      rw [layoutReplay_stays hn hb]
      exact replayLaid_one ha (fun c hne => by cases c <;> trivial) hc (h.before (kf _) (qf _) (rf _))
    | true =>
      obtain ⟨f, left, hcb⟩ := headLost_cues hb
      have h' := layoutReplay_left hn hb (hn.fields.1.trans hcb)
      exact replayLaid_both ha hb hc hcb h (h'.before (kf _) (qf _) (rf _)) ((layoutReplay_quiet v .b lose).trans (qf _))

/-- The owners' answer to a layout: levels 1 and 2 first, then the channels (R46, R64, R123, R160). -/
theorem owners_laid (hs : s.zonesWf) {specs : List ZoneSpec} (hz : s.canvas.zones.map (·.spec) = specs) (old : List Zone)
    (h1 : ∀ zone ∈ s.timing.outstanding, (s.standsAt zone 1).isSome = true)
    (h2 : ∀ zone ∈ s.record.outstanding, (s.standsAt zone 2).isSome = true) :
    LevelsLaid (s.countdownAsked (gained (·.countdown) old specs))
        ((lost (·.countdown) old specs).filter s.timing.outstanding.contains)
        ((lost (·.scoreEvent) old specs).filter s.record.outstanding.contains) s (s.layoutOwners old specs) ∧
      ReplayLaid (lost (·.replayTarget) old specs) s (s.layoutOwners old specs) := by
  obtain ⟨hlaid, -, hkept, hreports⟩ := layout_levels hs hz old h1 h2
  have ha := hlaid.quiet (layoutReplay_quiet _ .a (lost (·.replayTarget) old specs))
  have hb := ha.quiet (layoutReplay_quiet _ .b (lost (·.replayTarget) old specs))
  exact ⟨hb.quiet (.followUps _), replay_laid _ hkept hreports⟩

end

end Sys2Proof.Machine
end

section
namespace Sys2Proof

open Machine
set_option Elab.async false

/-- Settles O33: what awaits waits in `awaitingConfig` and `awaitingLayout` (`layoutOwner_eq`), the frame event applies it
before it composes (`frame_event_applies`, `placeZones_eq`), and the owners act one after the other on what `layout_levels`
and `replay_laid` say of them. -/
theorem canvasAndLayoutAwaitTheFrame : Obligations.CanvasAndLayoutAwaitTheFrame := by
  refine ⟨⟨fun h rate width height s ha => ?_, fun h count zones s ha => ?_⟩, fun s hd hs => ?_, fun specs s hd hs hl => ?_,
    fun before s => ?_, fun old specs s hs hz h1 h2 => ?_⟩
  · intro on
    rw [exec_admitted (owner := canvasConfigOwner rate width height) ha rfl (canvasConfigOwner_frame s rate width height),
      canvasConfigOwner_eq]
    split
    · rfl
    split
    · rfl
    split
    · next hon => exact congrArg _ (if_pos hon).symm
    · next hon =>
      refine Eq.trans ?_ (congrArg _ (if_neg hon).symm)
      split <;> rfl
  · intro outside
    have he := layout_exec (count := count) (zones := zones) ha
    have hout : zoneOutside s.canvas.size.width s.canvas.size.height = outside := rfl
    rw [layoutOwner_eq, hout] at he
    generalize exec (.layout h count zones) s = o at he ⊢
    by_cases h1 : count ≠ zones.length
    · rw [if_pos h1] at he ⊢
      exact he
    rw [if_neg h1] at he ⊢
    by_cases h2 : 8 < count
    · rw [if_pos h2] at he ⊢
      exact he
    rw [if_neg h2] at he ⊢
    by_cases h3 : (zones.map (·.id)).Nodup
    · rw [if_neg (not_not_intro h3)] at he ⊢
      split at he
      · next hbad =>
        rw [if_pos hbad]
        exact he
      next hbad =>
      rw [if_neg hbad]
      split at he
      · next hbusy =>
        rw [if_pos hbusy]
        exact he
      next hbusy =>
      rw [if_neg hbusy]
      exact ⟨normalLayout zones, he, normalLayout_ascends h3, normalLayout_perm zones⟩
    · rw [if_pos h3] at he ⊢
      exact he
  · obtain ⟨t, he, hc, hl, hsize, hspecs, hvis, htakes, hf⟩ := frame_event_applies s hd hs
    exact ⟨t, he, hc, hl, hsize, hspecs, hvis, fun z hz => (htakes z hz).kept, fun z hz => (htakes z hz).added, hf⟩
  · intro old size u gone items placed v e keeps clears kept x crawl
    have hspecs := (hs.awaiting specs hl).1
    have hitems : u.removedItems specs = items := removedItems_eq hspecs
    have he : s.taken.removed specs = e := congrArg (s.taken.endEach .zoneRemoved) hitems
    have hv : s.laidOut specs = v := congrArg (State.placeZones specs) he
    have hzones : v.canvas.zones = specs.map placed := by
      rw [← hv, laidOut_eq hs hl]
      refine List.map_congr_left fun n _ => ?_
      dsimp only [placed]
      unfold matchZone
      cases old.find? (fun z => z.spec.id == n.id && z.spec.role == n.role) <;> rfl
    have hkeeps : crawlKept old specs = keeps := crawlKept_eq old hspecs
    have hids : v.zoneIds = specs.map (·.id) := by
      rw [← hv, State.zoneIds, laidOut_eq hs hl, List.map_map]
      exact List.map_congr_left fun n _ => congrArg ZoneSpec.id (matchZone_spec _ n)
    have hx : s.applyAwaiting = x := by
      rw [applyAwaiting_of_some hl, hv, hids]
    have hkept : s.keptWidth = kept := by
      unfold State.keptWidth
      rw [hl]
      dsimp only
      rw [hkeeps]
      rfl
    refine ⟨?_, hzones, placeZones_frame _ specs, ?_, ?_, ?_⟩
    · have hespecs : e.canvas.zones.map (·.spec) = old.map (·.spec) := he ▸ (removed_laid s.taken specs).specs
      have hmatched : specs.map (matchZone e.canvas.zones) = specs.map placed := by
        rw [← hzones, ← hv, State.laidOut, he]
        exact ((placeZones_canvas specs e).1).symm
      have hclears : (e.crawlZone?.isSome && !crawlKept e.canvas.zones specs) = clears := by
        rw [crawlZone_isSome, crawlKept_congr hspecs hespecs, hkeeps]
      have hplaced := placeZones_eq e specs
      rw [hmatched, hclears, activePrograms_eq] at hplaced
      exact hplaced
    · show Host.Outcome.next s.settle.frameEvent = _
      rw [settle_of_due_nil s hd, State.frameEvent, hx, hkept]
    · refine frame_composed ?_ ?_ ?_
      · rw [← hx, (applyAwaiting_frame s).due, hd]
      · rw [← hx]
        exact (applied_stands s).config
      · rw [← hx]
        exact (applied_stands s).layout
    · exact frameAfter_crawl (followUps_calm _) kept
  · unfold State.activityChanged
    refine congrArg (fun f => [0, 1, 2, 3].foldl f s) (funext fun u => funext fun p => ?_)
    have hidle : u.carrying p = [] ↔ ¬u.active p = true := by simp [State.active]
    dsimp only
    by_cases hb : before.contains p = true
    · rw [if_pos hb, if_neg (c := before.contains p = false ∧ _) (by rw [hb]; simp)]
      by_cases ha : u.active p = true
      · rw [if_pos ha, if_neg fun h => hidle.mp h.2 ha]
      · rw [if_neg ha, if_pos ⟨hb, hidle.mpr ha⟩]
        unfold State.endAppearance
        cases hg : (u.program p).onAir with
        | none => rfl
        | some a =>
          dsimp only
          rw [closeAppearance_eq]
          exact if_neg ha
    · rw [if_neg hb, if_neg (c := before.contains p = true ∧ _) fun h => hb h.1]
      by_cases ha : u.active p = true
      · rw [if_pos ha, if_pos ⟨Bool.eq_false_iff.mpr hb, fun h => hidle.mp h ha⟩]
      · rw [if_neg ha, if_neg fun h => h.2 (hidle.mpr ha)]
  · intro had lose won asked gone out gone2 hit t
    obtain ⟨hlevels, hreplay⟩ := owners_laid hs hz old h1 h2
    refine ⟨hlevels.timing, fun zone hzone a ha => ?_, hlevels.record, fun n _ => ⟨hlevels.one _, hlevels.two _⟩,
      hreplay.stays, hreplay.leaves, hreplay.readers, hreplay.near, fun hw => ?_, layoutOwners_frame s old specs⟩
    · obtain ⟨y, hy, hsole⟩ := hlevels.holds zone hzone a ha
      exact ⟨y, hy, hsole.imp And.right And.right⟩
    · refine Eq.mp (congrArg (fun f => Gains s t .channelState ([Channel.a, .b].flatMap f)) (funext fun ch => ?_))
        (hreplay.told hw)
      unfold State.lostTold
      cases (s.chan ch).cues.head? <;> rfl

end Sys2Proof
end
